-- ==== Sys2Proof/Word.lean ====
section
/-! DEFINITION. The word types and the plainest arithmetic of the model (spec/00_scope.md R4–R9). -/
namespace Sys2Proof

/-- One byte of a packet, a register or memory. -/
abbrev Byte := BitVec 8
/-- A 16-bit field. -/
abbrev Half := BitVec 16
/-- A register of the register window. -/
abbrev Word := BitVec 32
/-- A 64-bit field. -/
abbrev Dword := BitVec 64
/-- A sparse table: keys with their values, one entry a key at most. -/
abbrev Table (α : Type) := List (Nat × α)

end Sys2Proof
end

