-- ==== Sys2Proof/Syntax.lean ====
section
/-! DEFINITION. The commands and events the block takes: one constructor of Instr a row of spec/opcode_table.json,
with the operands each row needs. An event carries what the module measures or receives at that moment
(notes/assumptions/4.md). -/
namespace Sys2Proof

/-- A command packet as it reaches the Command Processor (Table 15-3), its opcode apart, with the path it came by
and the bytes the host holds at a host DATA_ADDR (R412). Paths 0 to 15 are the submission queues, 16 is Ethernet,
17 the mailbox and 18 a service descriptor. -/
structure Pkt where
  path : Nat
  tag : Half
  dep : Half
  flags : Byte
  rsvd : Byte
  addr : Dword
  len : Word
  /-- Packet bytes 0x14 to 0x3F. -/
  params : List Byte
  /-- The bytes at DATA_ADDR when it is a host bus address. -/
  host : List Byte
  deriving DecidableEq, Repr

/-- A packet with its opcode, as the rings and the Ethernet messages carry it. -/
structure RawPkt where
  opcode : Half
  pkt : Pkt
  deriving DecidableEq, Repr

/-- An Ethernet command frame: what the MAC reports of it and its 16-byte message header (Table 15-2). -/
structure EthMsg where
  port : Nat
  srcMac : BitVec 48
  version : Byte
  type : Byte
  count : Half
  seq : Word
  offset : Word
  ack : Word
  /-- Bytes of payload, the message header included. -/
  payloadLen : Nat
  deriving DecidableEq, Repr

/-- The endpoint resets of R387. -/
inductive EpReset where
  | perst | hotReset | linkDown | functionLevel
  deriving DecidableEq, Repr

/-- A JT-40 request frame after its CMD (R428). -/
structure JtFrame where
  sync : Byte
  len : Byte
  payload : List Byte
  crc : Byte
  deriving DecidableEq, Repr

/-- What the Ray Engine measures of a facet beside what its walk determines (R176): for each note G, the fetched bytes Gt,
the tiles completed, the fetched bytes of each tile in issue order (Table 7-5), and cache parity errors (R184). -/
structure RenderMeas where
  g : List Nat
  gt : Nat
  tiles : Nat
  fetch : List Nat
  parity : Nat
  deriving DecidableEq, Repr

/-- What the module reads from a column driver: STATUS, GOOD_PKTS and ERR_PKTS (Table 11-8). -/
structure LaneRead where
  status : Half
  good : Half
  err : Half
  deriving DecidableEq, Repr

/-- A CSI-2 packet header (R127, R128): virtual channel, data type, and whether its ECC could be corrected. -/
structure CamHdr where
  vc : Nat
  dt : Nat
  ok : Bool
  deriving DecidableEq, Repr

/-- A PTP message as the MAC hands it over: stamps in 1/65,536 ns. -/
structure PtpMsg where
  port : Nat
  domain : Nat
  profile : Nat
  /-- Transport: 0 IEEE 802.3, 1 UDP over IPv4, as PTP_TRANSPORT. -/
  transport : Nat
  /-- A management message, which the module does not support (Table 14-2). -/
  management : Bool
  seqId : Nat
  source : Dword
  /-- originTimestamp, preciseOriginTimestamp, receiveTimestamp or requestReceiptTimestamp of the message. -/
  origin : Nat
  /-- correctionField, signed, in 1/65,536 ns. -/
  correction : Int
  /-- The receive time of the frame at the ball, before EP_LAT_NS. -/
  arrival : Nat
  twoStep : Bool
  /-- Announce: grandmasterIdentity, and the comparison fields of the BMCA in order. -/
  gmId : Dword
  rank : List Nat
  traceable : Bool
  deriving DecidableEq, Repr

/-- The outcome of the ECC check of a granule (R344). -/
inductive Ecc where
  | clean | correctable | uncorrectable
  deriving DecidableEq, Repr

/-- An access that a requester issues to stacked memory (R333): its ID of Table 13-3, its range, whether it writes, and
the time of its issue in ns. -/
structure MemAsk where
  req : Nat
  addr : Nat
  len : Nat
  write : Bool
  time : Nat
  deriving DecidableEq, Repr

/-- Command slots of a pseudo-channel, and in each the banks whose next command can be issued (R335). -/
structure MemIssue where
  pc : Nat
  slots : List (List Nat)
  deriving DecidableEq, Repr

/-- ALERT on a channel, and how many of its buffered commands lie within the alert window (R347). -/
structure MemAlarm where
  chan : Nat
  window : Nat
  deriving DecidableEq, Repr

/-- A level of a GPIO line, and the cycles of the filter clock for which it has been stable (R496). -/
structure GpioLevel where
  high : Bool
  cycles : Nat
  deriving DecidableEq, Repr

/-- The references of a calibration as they measure: CALREF in µV and the reference resistor in µΩ (R480, R483). -/
structure CalRefs where
  uv : Nat
  uohm : Nat
  deriving DecidableEq, Repr

/-- The auxiliary rails of Table 21-9. -/
inductive AuxRail where
  | pnl | enc | io
  deriving DecidableEq, Repr

/-- What a temperature input measures at one sample (R464). -/
inductive TempMeas where
  /-- A diode input open or shorted. -/
  | broken
  /-- ΔVbe of a diode input, in nV. -/
  | diode (nv : Nat)
  /-- Resistance of an NTC input, in mΩ. -/
  | ntc (mohm : Nat)
  /-- An on-die input, in 1/16 °C. -/
  | die (t16 : Int)
  deriving DecidableEq, Repr

/-- The commands and events of spec/opcode_table.json, one constructor a row, in the table's order. -/
inductive Instr where
  /-- R417: Returns the identity image and the version, BOOT and mode result. -/
  | identify (p : Pkt)
  /-- R418: Returns the status image, with every field sampled in one instant within one epoch. -/
  | getStatus (p : Pkt)
  /-- R23: Stages a commit whose snapshot is taken and validated at its commit point and which completes at the latch angle where it takes effect. -/
  | commit (p : Pkt)
  /-- R402: Checks one to five PN/value pairs and applies them all, to the draft for Commit parameters, only if every pair passes. -/
  | paramSet (p : Pkt)
  /-- R403: Returns the active or draft value of one parameter. -/
  | paramGet (p : Pkt)
  /-- R415: Stages a LIGHTFIELD/FLAT change in the draft, or runs the entry sequence of another mode change. -/
  | modeSet (p : Pkt)
  /-- R564: A waiting step of an entry sequence ends and the next step of Table 22-4 starts, or the new mode comes into force. -/
  | modeEntryStepEnd
  /-- R416: Clears FAULT and its allowed cause bits when the rotor, the crack loops and the memory channels permit, then enters PARKED. -/
  | faultClear (p : Pkt)
  /-- R419: Submits a block stream of BLOCK_COUNT NZB blocks to the Scene Decoder and completes when every block is complete or not attempted. -/
  | sceneLoad (p : Pkt)
  /-- R95: A waiting SCENE_LOAD is taken by the Scene Decoder when fewer than eight commands are active. -/
  | sceneLoadTaken
  /-- R63: Stages a plane descriptor once every block bound to that plane has finished, and clears the damage records of the buffers it names. -/
  | planeDefine (p : Pkt)
  /-- R58: Stages the note table in the draft set. -/
  | notesDefine (p : Pkt)
  /-- R67: Records the draft plane set in a cache entry and locks its pixel extents. -/
  | cacheStore (p : Pkt)
  /-- R68: Copies a cache entry into the plane part of the draft set. -/
  | cacheRecall (p : Pkt)
  /-- R69: Releases a cache entry and its locks. -/
  | cacheDrop (p : Pkt)
  /-- R43: Copies and checks a ray-map image into a slot, which becomes READY or EMPTY. -/
  | raymapLoad (p : Pkt)
  /-- R45: Sets the draft ray-map slot selection. -/
  | raymapSelect (p : Pkt)
  /-- R420: Returns the ray-map results of one subpixel for a slot. -/
  | raymapProbe (p : Pkt)
  /-- R124: Stages a layer descriptor in the draft set. -/
  | layerDefine (p : Pkt)
  /-- R145: Stages a safety region descriptor in the draft set. -/
  | safetyDefine (p : Pkt)
  /-- R135: Loads a scaler coefficient bank into the draft set. -/
  | scalerCoeff (p : Pkt)
  /-- R187: Loads a decode or response LUT into the draft set. -/
  | rayLutLoad (p : Pkt)
  /-- R251: Loads the transition-compensation table into the draft set. -/
  | tcLutLoad (p : Pkt)
  /-- R283: Requests lane training, which starts at the next revolution start. -/
  | linkTrain (p : Pkt)
  /-- R283: A requested training begins at the revolution start, and facets overlapping it are dark. -/
  | linkTrainBegin
  /-- R286: Runs a loopback test on a lane mask in TEST. -/
  | linkLoopback (p : Pkt)
  /-- R286: A loopback test ends, reports its results and raises source 50. -/
  | loopbackEnd (errs : List Nat) (reads : List (Option LaneRead))
  /-- R421: Queues a host write exchange to a far-end device register. -/
  | gcWrite (p : Pkt)
  /-- R421: Queues a host read exchange of a far-end device register. -/
  | gcRead (p : Pkt)
  /-- R570: Starts panel power-on or discharge in TEST, one command at a time. -/
  | panelPower (p : Pkt)
  /-- R231: Issues a start request for the rotor in TEST. -/
  | rotorStart (p : Pkt)
  /-- R231: Issues a stop request for the rotor in TEST. -/
  | rotorStop (p : Pkt)
  /-- R195: Queues a fill operation on the Blitter. -/
  | blitFill (p : Pkt)
  /-- R200: Queues a copy operation on the Blitter. -/
  | blitCopy (p : Pkt)
  /-- R195: Queues an outline operation on the Blitter. -/
  | blitOutline (p : Pkt)
  /-- R198: Queues a write of one clip slot. -/
  | blitClipSet (p : Pkt)
  /-- R191: A queued Blitter operation starts when the previous one has ended and its dependency is met; its checks run. -/
  | bltOpStart
  /-- R209: A Blitter operation ends with its reply and optional NOTIFY; the queue may become idle. -/
  | bltOpEnd
  /-- R371: Applies a pending time step at once or by slew. -/
  | timeStepAccept (p : Pkt)
  /-- R371: Declines a pending step and ignores that grandmaster. -/
  | timeStepDecline (p : Pkt)
  /-- R373: Sets the time directly when no master is selected. -/
  | timeSet (p : Pkt)
  /-- R379: Writes a trigger descriptor, which takes effect at completion. -/
  | triggerArm (p : Pkt)
  /-- R375: Clears a trigger descriptor after any pulse in progress ends. -/
  | triggerStop (p : Pkt)
  /-- R380: Configures the enable, edge and filter of a capture input. -/
  | captureConfig (p : Pkt)
  /-- R474: Clears THERMAL_SHUTDOWN when every enabled input is valid and below re-arm, then enters PARKED. -/
  | thermalClear (p : Pkt)
  /-- R319: Requests a Flysheet update and completes when that update ends. -/
  | flysheetUpdate (p : Pkt)
  /-- R473: Writes the newest 256 thermal log entries as an image. -/
  | thermalLogRead (p : Pkt)
  /-- R422: Reads a range of stacked memory into a data image. -/
  | memRead (p : Pkt)
  /-- R422: Writes data into a range of stacked memory. -/
  | memWrite (p : Pkt)
  /-- R422: Runs a memory test pattern over a range in TEST. -/
  | memTest (p : Pkt)
  /-- R422: Exports bytes of the Sillage ring or the NAND log. -/
  | sillageExport (p : Pkt)
  /-- R524: Stages a Sillage capture region. -/
  | silRegionDefine (p : Pkt)
  /-- R520: Queues a mark for a MARK detail of the next frame entry. -/
  | sillageMark (p : Pkt)
  /-- R528: Seals the record and flushes a segment to NAND. -/
  | sillageFlush (p : Pkt)
  /-- R478: Loads all calibration values from a calibration file. -/
  | calLoad (p : Pkt)
  /-- R478: Writes the calibration values in force as a file image. -/
  | calSave (p : Pkt)
  /-- R480: Checks the references, then measures the zone sinks or the temperature inputs. -/
  | calibrate (p : Pkt)
  /-- R483: A calibration completes and applies the new values together. -/
  | calibrateDone (refs : CalRefs) (meas : List (Nat × Nat))
  /-- R423: Writes a signed firmware image into the slot that is not running and checks it. -/
  | fwStage (p : Pkt)
  /-- R423: Selects the firmware slot for the next cold episode. -/
  | fwActivate (p : Pkt)
  /-- R424: Returns a nonce for one debug unlock attempt. -/
  | debugChallenge (p : Pkt)
  /-- R424: Opens the debug lock on a correct HMAC response. -/
  | debugUnlock (p : Pkt)
  /-- R533: Closes the debug lock. -/
  | debugLock (p : Pkt)
  /-- R426: Stores a service descriptor in a NOR slot. -/
  | serviceStore (p : Pkt)
  /-- R426: Selects a service descriptor slot. -/
  | serviceSelect (p : Pkt)
  /-- R428: JT-40 no-operation frame in SERVICE. -/
  | jtNop (f : JtFrame)
  /-- R428: Returns the JT-40 service version. -/
  | jtVersion (f : JtFrame)
  /-- R430: Stages and commits camera layer 31 on scaler 7. -/
  | jtMirrorStart (f : JtFrame)
  /-- R430: Clears ENABLED of layer 31 and commits. -/
  | jtMirrorStop (f : JtFrame)
  /-- R429: Sets BL_MAX_MA from a value and commits. -/
  | jtBrightness (f : JtFrame)
  /-- R429: Switches all zones off, or restores them, and commits. -/
  | jtBacklight (f : JtFrame)
  /-- R429: Sets ENABLED of a layer and commits. -/
  | jtOverlayShow (f : JtFrame)
  /-- R429: Clears ENABLED of a layer and commits. -/
  | jtOverlayHide (f : JtFrame)
  /-- R428: Returns the conditions, throttle step, rotor state and flat fallback. -/
  | jtStatus (f : JtFrame)
  /-- R429: Moves every service target to a disparity and commits. -/
  | jtSetDepth (f : JtFrame)
  /-- R429: Any other JT-40 command code answers UNSUPPORTED and has no effect. -/
  | jtUnsupportedCmd (cmd : Byte) (f : JtFrame)
  /-- R393: A new submission tail makes the module fetch and accept the packets from SQ_HEAD. -/
  | sqTailDoorbell (q : Nat) (value : Word) (entries : List RawPkt)
  /-- R393: Host consumes replies, which frees completion entries and resumes fetching. -/
  | cqHeadWrite (q : Nat) (value : Word)
  /-- R393: Configures a queue; setting ENABLE resets its pointers, clearing it stops fetching. -/
  | qcfgWrite (q : Nat) (value : Word)
  /-- R389: A TYPE 1 command frame is checked for sequence and acknowledged, and its packets are accepted. -/
  | ethPacketMessage (m : EthMsg) (packets : List RawPkt)
  /-- R390: A TYPE 2 frame writes its body into the ingest area and is acknowledged. -/
  | ethDataMessage (m : EthMsg) (data : List Byte)
  /-- R392: Writing GO accepts the mailbox packet as if from a queue of depth 1. -/
  | mailboxGo
  /-- R396: A waiting command starts, or ends with ST_DEP_FAILED, when the command it depends on completes. -/
  | commandDependencyMet (tag : Nat)
  /-- R387: PERST_B, hot reset, link-down or FLR resets the endpoint, disables the queues and resets the host routes. -/
  | pcieEndpointReset (kind : EpReset)
  /-- R221: Writing CAPTURE latches the angle counter and the time in one instant. -/
  | rotSnapCapture
  /-- R106: Removes the head entry of the decoder error queue. -/
  | sdecErrPop
  /-- R380: Removes the head entry of the capture FIFO. -/
  | tcFifoPop
  /-- R361: Reading TU_TIME0 latches words 1 to 3 of the time. -/
  | tuTimeRead
  /-- R7: A read of a read-and-clear register returns its value and clears it. -/
  | rcRegisterRead (offset : Nat)
  /-- R220: W1C of rotor fault bits, which may allow the angle counter to start again. -/
  | rotFaultCauseClear (value : Word)
  /-- R313: W1C of a zone fault bit relights the zone from the next pulse. -/
  | blZoneFaultClear (k : Nat) (value : Word)
  /-- R491: Reading INTC_CLAIMv claims the lowest pending source routed to the vector and makes the vector active. -/
  | intcClaim (v : Nat)
  /-- R491: Writing INTC_EOIv completes the source and resamples the level sources. -/
  | intcEoi (v : Nat) (value : Word)
  /-- R489: Changes a host route; HOST_EN clears or sets host pending state. -/
  | intcHrouteWrite (m : Nat) (value : Word)
  /-- R495: A control core claims a source. -/
  | coreIntcClaim (core : Nat)
  /-- R495: A control core completes a source. -/
  | coreIntcEoi (core : Nat) (src : Nat)
  /-- R493: Clearing an MSI-X mask sends the held message while a source is still pending. -/
  | msixUnmask (v : Nat)
  /-- R6: A write to a register that has no row of its own. -/
  | registerWrite (offset : Nat) (value : Word)
  /-- R260: At 32,768 ATK the pending epoch takes effect, the commits complete and frame composition starts. -/
  | latchAngle
  /-- R262: While ANGLE_VALID is 0, a timer tick replaces the latch angle and a NO_ANGLE frame entry is written. -/
  | latchTimerTick
  /-- R227: At each revolution start the time is stamped, the phase servo sets the trim and the per-revolution updates run. -/
  | revolutionStart (speed16 : Nat) (emitterMw : Nat) (rowMinMv : List Nat)
  /-- R243: At F_j the facet starts at once when its render has completed. -/
  | facetNominalStart (j : Nat)
  /-- R244: At F_j + 2,048 an unfinished render is abandoned and the facet repeats or is dark. -/
  | startWindowClose (j : Nat) (meas : RenderMeas)
  /-- R172: A facet render starts once its composition has swapped and the previous render has ended; the governor sets the level and any flat is built. -/
  | renderStart (atk : Nat)
  /-- R173: A render completes, updates SHOWN[j] and signals scan-out, which may start the facet. -/
  | renderComplete (atk : Nat) (meas : RenderMeas)
  /-- R179: After every 16,200 tiles issued the governor projects the end of the render and may escalate. -/
  | govEscalationCheck (atk : Nat) (tiles : Nat)
  /-- R276: At each row slot start the lanes send the row packet of the row pair. -/
  | rowSlotStart (ahead : Nat)
  /-- R289: At W_i the ROW frame ends and the row pair is latched; unsent data counts as underrun. -/
  | rowLatch (miss : List (Nat × Nat × Nat))
  /-- R255: At E the zone current is set and a zone row is lit if lighting is permitted. -/
  | zonePulseStart (row : Nat)
  /-- R255: A zone pulse ends after ZONE_ON_ATK. -/
  | zonePulseEnd (row : Nat)
  /-- R313: At mid-pulse each lit sink checks its voltage for an open or shorted zone and BLS regulation is measured. -/
  | zoneMidPulseCheck (row : Nat) (mv : List Nat)
  /-- R313: A zone with the same fault in 3 consecutive pulses is recorded and switched off. -/
  | zoneFaultRecord (zone : Nat)
  /-- R451: A zone sink held on for 420 µs is switched off by hardware. -/
  | sinkOnTimeLimit (zone : Nat)
  /-- R279: The lanes enter L1s 8 ATK after the last packet of a facet. -/
  | laneL1sEntry
  /-- R279: The lanes leave L1s at F_(j+1) − 12 ATK and send the idle pattern. -/
  | laneL1sExit
  /-- R140: At the pick angle the newest camera frames are taken for facet-latched layers and a facet composition starts. -/
  | facetPick (j : Nat)
  /-- R137: A composition ends; the safety regions are read back and acted on and the buffers swap. -/
  | compositionEnd (atk : Nat)
  /-- R141: A composition not ended at its deadline makes the frame repeat or is abandoned. -/
  | compositionDeadline (j : Nat)
  /-- R128: A CSI-2 Frame Start short packet begins a camera frame. -/
  | camFrameStartPacket (port : Nat) (h : CamHdr)
  /-- R128: A CSI-2 long packet of a line is checked, converted and written, or dropped. -/
  | camLongPacket (port : Nat) (h : CamHdr) (crcOk : Bool) (payload : List Byte)
  /-- R128: A CSI-2 Frame End packet ends a frame, which is judged damaged or good. -/
  | camFrameEndPacket (port : Nat) (h : CamHdr)
  /-- R128: The last byte of a frame is written; the frame gets a sequence number and a time stamp. -/
  | camFrameComplete (port : Nat)
  /-- R130: A receiving port completes no good frame for CAM_STALE_MS and becomes stale. -/
  | camStale (port : Nat)
  /-- R91: The parser takes one block and makes checks 1 to 6, binding it to its plane. -/
  | sdecBlockParse (tag : Nat)
  /-- R97: A parsed block is passed to a free engine once any overlapping earlier block is complete. -/
  | sdecBlockDispatch (tag : Nat)
  /-- R98: An engine finishes a block with the CVU verdict; the damage records, counters and queue are updated. -/
  | sdecBlockComplete (engine : Nat)
  /-- R66: Carry-forward of the dirty regions starts when the outgoing epoch releases the new draft buffers. -/
  | carryForwardStart
  /-- R66: The copy of a plane ends and its held blocks are bound. -/
  | carryForwardEnd
  /-- R116: The verify verdict on an encoded block writes it compressed or raw to the ring. -/
  | cencBlockVerify (sound : Bool)
  /-- R112: A Capture Encoder job ends and raises source 132. -/
  | cencJobDone
  /-- R215: A filtered quadrature transition is counted, or is counted as a glitch that may declare encoder loss. -/
  | encoderTransition (a : Bool) (b : Bool) (speed16 : Nat)
  /-- R217: The index edge starts or corrects the angle counter and checks the count between indexes. -/
  | indexEdge
  /-- R236: A differential fail-safe held for 1 µs on A, B or Z declares encoder loss. -/
  | encLossPair
  /-- R236: No count for 8 expected intervals above 300 rpm declares encoder loss. -/
  | encLossTimeout
  /-- R236: A net 8 counts opposite to ROT_DIR declares encoder loss. -/
  | encLossReverse
  /-- R236: No index within 4,160 counts declares encoder loss. -/
  | encIndexMissing
  /-- R231: Alignment ends and the rotor passes to SPIN_UP. -/
  | alignComplete
  /-- R233: The Z electrical angle is found and the index seen; the rotor passes to SPIN_UP or BRAKE. -/
  | catchComplete
  /-- R231: Speed within ±1 % of the setpoint moves SPIN_UP to RUN. -/
  | speedSetpointReached (speed16 : Nat)
  /-- R223: Speed within ±0.2 % of the setpoint clears RAMP and resumes the phase servo. -/
  | rampSettled (speed16 : Nat)
  /-- R220: Speed below 60 rpm stops the angle counter and starts phase shorting or STOPPED. -/
  | speedBelow60rpm (speed16 : Nat)
  /-- R231: Speed below 300 rpm ends regeneration into FREEWHEEL. -/
  | speedBelow300rpm (speed16 : Nat)
  /-- R236: Measured speed above ROT_OVERSPEED_RPM sets FAULT and brakes. -/
  | overspeed (speed16 : Nat)
  /-- R214: Above 4,250 rpm the bridge shorts all phases. -/
  | hwOverspeedTrip (speed16 : Nat)
  /-- R214: Below 4,000 rpm the shorting ends and braking follows. -/
  | hwOverspeedRelease (speed16 : Nat)
  /-- R231: ROT_SPINUP_TIMEOUT_S expires in SPIN_UP, declaring a stall. -/
  | spinupTimeout
  /-- R231: 500 ms of phase shorting below 60 rpm end and the rotor is STOPPED. -/
  | phaseShortEnd
  /-- R231: No encoder count for 10 s in FREEWHEEL moves the rotor to STOPPED. -/
  | freewheelNoCount
  /-- R236: Desaturation or overcurrent turns the bridge off into FREEWHEEL and sets FAULT. -/
  | bridgeOvercurrent
  /-- R367: A Sync forms an offset for the servo, or an outlier that may refuse a step. -/
  | ptpSync (m : PtpMsg)
  /-- R367: A Follow_Up completes the offset of a two-step Sync. -/
  | ptpFollowUp (m : PtpMsg)
  /-- R364: An Announce feeds the BMCA, which selects the master. -/
  | ptpAnnounce (m : PtpMsg)
  /-- R367: A delay response updates meanPathDelay. -/
  | ptpDelayResp (m : PtpMsg)
  /-- R366: A Pdelay_Req is answered with a one-step Pdelay_Resp. -/
  | ptpPdelayReq (m : PtpMsg) (turnaroundNs : Nat)
  /-- R363: A Pdelay_Resp from the peer updates the path delay. -/
  | ptpPdelayResp (m : PtpMsg)
  /-- R363: The request interval sends a Delay_Req or Pdelay_Req. -/
  | ptpReqTimer (port : Nat)
  /-- R368: No Sync for TU_LOSS_INTERVALS loses the master and enters HOLDOVER. -/
  | ptpSyncTimeout
  /-- R368: Announce receipt timeout loses the master and enters HOLDOVER. -/
  | ptpAnnounceTimeout
  /-- R371: An accepted slew is consumed; SLEWING clears and source 164 is raised. -/
  | timeSlewDone
  /-- R376: A time-scheduled trigger edge leaves, or is skipped. -/
  | triggerTimeEdge (n : Nat)
  /-- R377: The angle counter reaches a trigger angle and the divider decides whether to fire. -/
  | triggerAnglePass (n : Nat)
  /-- R377: DELAY_NS after a firing pass the trigger edge leaves. -/
  | triggerAngleEdge (n : Nat)
  /-- R378: A trigger pulse ends after its width. -/
  | triggerPulseEnd (n : Nat)
  /-- R380: An accepted capture edge is stamped with time and angle into the FIFO, or is lost. -/
  | captureEdge (n : Nat) (rising : Bool)
  /-- R281: Lane training passes, or fails and sets FAULT. -/
  | trainingEnd (reads : List (List (Option LaneRead)))
  /-- R284: In each blank one device on each link has its STATUS read, which may report a lost lock. -/
  | gclStatusPoll (link : Nat) (replies : List (Option (Word × Byte)))
  /-- R293: A queued exchange starts when it fits before the next start window. -/
  | gcExchangeStart
  /-- R292: A REPLY or ECHO frame is checked, completing or failing the exchange. -/
  | gcReplyReceived (body : Word) (check : Byte)
  /-- R292: No reply within GCL_REPLY_NS retries or finally fails the exchange. -/
  | gcReplyTimeout
  /-- R302: The 1 ms poll of PMIC READY advances power-on. -/
  | pmicReadyPoll (ready : Bool)
  /-- R302: The 2 ms settle after a rail step ends and the next step starts. -/
  | powerOnDelayEnd
  /-- R303: A READY wait times out; power-on ends, FAULT is set and discharge runs. -/
  | pmicReadyTimeout
  /-- R304: A timed step of the panel discharge sequence runs, the last one setting OFF. -/
  | dischargeStep
  /-- R306: A crack loop is measured and classified. -/
  | crackLoopSample (n : Nat) (ohm : Nat) (supply : Bool)
  /-- R307: Four consecutive samples that are not OK trip the loop: blank, FAULT, brake, discharge. -/
  | crackLoopTrip (n : Nat)
  /-- R322: A pending Flysheet update starts when energy allows: journal entry, masks, phases, RUN. -/
  | flyUpdateStart
  /-- R316: A driver frame and its status reply are exchanged, with retries or a failed update. -/
  | flyFrameExchange (status check : Byte)
  /-- R316: The 10 ms STATUS poll during a run; DONE programs the journal and completes the update. -/
  | flyStatusPoll (status check : Byte)
  /-- R320: An update not covered by energy for 10 s is dropped with ST_FLY_ENERGY. -/
  | flyEnergyTimeout
  /-- R323: The re-drive of an unfinished journal entry starts once band, loop and input allow. -/
  | flyRedriveStart
  /-- R339: A bank's refresh falls due, or is forced after 8 postponements. -/
  | memRefreshDue (pc : Nat) (ready : List Nat)
  /-- R337: At the end of each 16 µs interval the pressure level and the caps are re-evaluated. -/
  | memPressureInterval (scoNs otherNs : Nat)
  /-- R341: A bank passes MEM_ACT_LIMIT; an RFM issues and weighted requests to it wait. -/
  | memActLimit (pc : Nat) (bank : Nat)
  /-- R342: A row's activate count reaches MEM_ACT_COUNT_LIMIT and an RFM issues. -/
  | memActCountLimit (pc : Nat) (bank : Nat) (row : Nat)
  /-- R342: Every 32 ms the activate-count tables are cleared. -/
  | memActTableClear
  /-- R336: An open row idle for MEM_PAGE_IDLE_NS is precharged. -/
  | memPageIdleClose (bank : Nat) (idleNs : Nat)
  /-- R347: ALERT on a channel replays its buffered commands. -/
  | memAlert (alarm : MemAlarm)
  /-- R348: MEM_RETRY_MAX failed attempts start a channel retrain. -/
  | memRetryExhausted (chan : Nat)
  /-- R348: A channel retrain ends; a failure marks the channel failed and sets FAULT. -/
  | memRetrainDone (chan : Nat) (ok : Bool)
  /-- R344: Read data are ECC-checked, corrected or delivered poisoned. -/
  | memReadComplete (asks : List MemAsk) (issue : MemIssue) (ecc : Ecc)
  /-- R345: The patrol scrub reads the next granule of its cycle. -/
  | memPatrolScrub (sinceNs : Nat) (ecc : Ecc)
  /-- R339: Each 1 ms the stack temperatures are read and the refresh interval is set. -/
  | memTempRead (temps : List Int)
  /-- R349: Stack initialisation and training of all points ends, or the start fails. -/
  | memInitDone (ok : Bool)
  /-- R350: At 1,024 ATK of the dark revolution the operating-point change starts. -/
  | memFreqChangeWindow
  /-- R350: A frequency change completes or fails, and any change required meanwhile starts. -/
  | memFreqChangeDone (ok : Bool) (returned : BitVec 64)
  /-- R433: The input rises above 34.0 V and the input stage starts. -/
  | inputAbove34v (mv : Nat)
  /-- R433: The input falls below 28.0 V and the input stage stops. -/
  | inputBelow28v (mv : Nat)
  /-- R433: Input above 80 V for 1 ms isolates the input. -/
  | inputOvervoltage (mv : Nat)
  /-- R433: After an overvoltage, the input below 75.0 V lets the stage run again. -/
  | inputBelow75v (mv : Nat)
  /-- R436: The input below PWR_SAGW_MV sets the sag warning. -/
  | sagwSet (mv : Nat)
  /-- R436: The input above PWR_SAGW_MV + 1,500 mV clears the sag warning. -/
  | sagwClear (mv : Nat)
  /-- R437: SAGW held for PWR_SAG_DWELL_US enters COAST. -/
  | sagwDwellExpiry
  /-- R439: Every 1 ms the Coast energy estimate is recomputed. -/
  | coastEstimateTick
  /-- R444: A Coast step ends and the next starts, or the return is decided. -/
  | coastStepEnd
  /-- R445: The input stage runs and SAGW has stayed clear for PWR_RETURN_MS. -/
  | returnCondition
  /-- R448: The internal power-on reset asserts, for first power-up or HUB below SAGR. -/
  | porAssert (sagr : Bool)
  /-- R448: The power-on reset releases after the rails are in regulation for 2 ms. -/
  | porRelease
  /-- R449: 64 low samples on RESET_B assert reset. -/
  | resetBAssert
  /-- R449: 64 high samples on RESET_B release reset. -/
  | resetBRelease
  /-- R453: A domain is released in order once its clock reports lock. -/
  | clockDomainRelease (locked : Bool)
  /-- R453: A lock not reached within 10 ms fails the start. -/
  | domainLockTimeout
  /-- R456: READY not reached 2.5 s after release fails the start. -/
  | startTimeout
  /-- R454: The start completes and READY is set. -/
  | ready
  /-- R448: A control core watchdog expires, setting FAULT. -/
  | watchdogExpiry (core : Nat)
  /-- R554: An auxiliary rail in current limit for 10 ms switches off. -/
  | auxRailTrip (rail : AuxRail)
  /-- R554: A tripped rail tries again every 1 s. -/
  | auxRailRetry (rail : AuxRail)
  /-- R466: A temperature input is sampled and its validity judged. -/
  | tempSample (n : Nat) (meas : TempMeas)
  /-- R466: Three consecutive invalid samples make an input invalid and may raise the throttle floor. -/
  | tempInputInvalid (n : Nat)
  /-- R465: Every 100 ms a reading is formed and its rate of rise tested. -/
  | tempReading (n : Nat)
  /-- R468: At each THR_STEP_MS tick the throttle step rises, relaxes or holds. -/
  | throttleTick
  /-- R470: Three consecutive values above the trip level trip an input. -/
  | thermalTrip (n : Nat)
  /-- R532: At the end of a second, FAULT settings held back are flushed together. -/
  | bbFlushSecondEnd
  /-- R502: A counting window ends, declaring lock or loss of a PLL. -/
  | pllLockWindow (clk : Nat) (count : Nat) (expected : Nat)
  /-- R504: After lock has held 256 reference cycles the outputs return from bypass. -/
  | bypassReturn (clk : Nat)
  /-- R501: REFIN out of tolerance or missing edges falls back to the TCXO. -/
  | refinFail
  /-- R509: A SYNC_IN rising edge re-phases the enabled clock outputs. -/
  | syncInEdge (inPhase : BitVec 8)
  /-- R507: Every 256 source cycles an aligner moves its phase one step. -/
  | alignerPhaseStep (n : Nat)
  /-- R496: A filtered GPIO level or edge raises source 232 or 233. -/
  | gpioInputEvent (n : Nat) (level : GpioLevel)
  /-- R497: In PARKED with all cores idle the CORE domain saves state and sleeps. -/
  | coreDomainSleep
  /-- R497: A latched event or access wakes the CORE domain and restores the controller. -/
  | coreDomainWake (access : Bool)
  /-- R522: After 1,000 ms a periodic seal record is written. -/
  | silPeriodicSeal
  /-- R528: A NAND segment flush ends, or fails with ST_NAND. -/
  | silFlushEnd (ok : Bool)
  /-- R533: EXTEST boundary scan, effective only unlocked in TEST or BIVOUAC. -/
  | tapExtest
  /-- R533: SAMPLE/PRELOAD boundary scan instruction. -/
  | tapSamplePreload
  /-- R533: Returns the 32-bit IDCODE. -/
  | tapIdcode
  /-- R533: CLAMP instruction, effective only unlocked in TEST or BIVOUAC. -/
  | tapClamp
  /-- R533: HIGHZ instruction, effective only unlocked in TEST or BIVOUAC. -/
  | tapHighz
  /-- R533: BYPASS or any undefined instruction code. -/
  | tapBypass
  /-- R533: Test-Logic-Reset selects IDCODE. -/
  | tapReset
  /-- R534: A debug read of a device address, core register or debug control. -/
  | dbgAccessRead (space : Nat) (core : Nat) (addr : Nat)
  /-- R534: A debug write of a device address, core register or debug control word. -/
  | dbgAccessWrite (space : Nat) (core : Nat) (addr : Nat) (data : Word)
  /-- R535: A halt request stops a control core and pauses its watchdog. -/
  | dbgHaltRequest (core : Nat)
  /-- R534: A resume request restarts a halted core. -/
  | dbgResumeRequest (core : Nat)
  /-- R534: A step request runs a halted core one step. -/
  | dbgStepRequest (core : Nat)
  /-- R535: A breakpoint or watchpoint halts a core. -/
  | dbgBreakpointHit (core : Nat) (n : Nat)
  /-- R533: Capture-DR of DBG_CHALLENGE loads a new nonce. -/
  | dbgChallengeCapture
  /-- R533: Update-DR of DBG_RESPONSE submits an unlock response. -/
  | dbgResponseUpdate (resp : List Byte)
  /-- R533: Capture-DR of DBG_STATUS returns the debug status. -/
  | dbgStatusCapture
  /-- R533: The 1 s hold-off after a wrong response ends. -/
  | debugHoldoffEnd
  /-- R43: A ray-map load finishes its copy and checks, so the slot leaves LOADING for READY or EMPTY and the next queued load of that slot starts. -/
  | raymapLoadCompletion (tag : Nat)
  /-- R423: A firmware staging of up to 60 s ends with the image written and its signature checked, leaving the slot valid or invalid. -/
  | fwStageCompletion
  /-- R422: A memory test over its range ends, reports its failing granules and raises source 74. -/
  | memTestDone (fails : Nat) (first : Nat)
  /-- R493: HIF_IRQ_DELAY_US after the first unsignalled reply, the held-back completion vector of a queue is signalled. -/
  | hifIrqDelayExpiry (q : Nat)
  /-- R410: The PCI Express link comes up and source 193 is raised. -/
  | pcieLinkUp
  deriving DecidableEq, Repr

end Sys2Proof
end

