-- ==== Sys2Proof/Config.lean ====
section
/-! DEFINITION. What one part fixes and the spec leaves open: opaque constants, which no proof can evaluate
(notes/assumptions/2.md). -/
namespace Sys2Proof.Config

/-- A free value of a register or a field, by the count of free values taken so far (log 2). -/
opaque freeNat : Nat → Nat
/-- The byte at an address of a range whose content the spec calls undefined, by the range's stamp (log 2). -/
opaque freeByte : Nat → Nat → Byte
/-- Characters of the serial number (Table 0-1). -/
opaque serialByte : Nat → Byte
/-- The two characters of the die stepping (Table 16-3). -/
opaque steppingByte : Nat → Byte
/-- IDCODE of a stepping other than B1 (Table 20-10 gives that of B1). -/
opaque idcode : Word
/-- Versions of the boot firmware and of the JT-40 service layer (Table 16-3). -/
opaque fwBoot : Word
opaque fwService : Word
/-- Version of a main firmware image, by its slot and what it holds (Table 16-3). -/
opaque fwMain : Nat → List Byte → Word
/-- The verdict of the signature check on a firmware image (R458: ECDSA P-256, the key fixed in the die). -/
opaque sigOk : List Byte → Bool
/-- The seal key and its identifier (R523). -/
opaque sealKeyByte : Nat → Byte
opaque keyId : Word
/-- The debug key (R424, R533). -/
opaque debugKeyByte : Nat → Byte
/-- The nonce numbered n (R424). -/
opaque nonce : Nat → Dword
/-- Phases 1 to 63 of the default scaler bank, by phase and tap (R135 gives phase 0 only). -/
opaque lanczosTap : Nat → Nat → Int
/-- Code lengths of a length-limited Huffman code for frequencies, by the limit (R114 leaves ties open). -/
opaque huffmanLengths : Nat → List Nat → List Nat
/-- The spare sink that carries a zone while it is measured (R481 names none). -/
opaque spareOf : Nat → Nat
/-- ROW of a training packet (Table 11-2 gives it no value), by lane. -/
opaque trainingRow : Nat → Nat
/-- The granule of a pseudo-channel's row that the verify of a frequency change reads (Table 13-7 names no row). -/
opaque verifyGranule : Nat → Nat
/-- A control core register that the model does not hold (R534, space 1), by core, number and stamp. -/
opaque coreReg : Nat → Nat → Nat → Word

end Sys2Proof.Config
end

