-- ==== Sys2Proof/Machine/Bits.lean ====
section
/-! DEFINITION. Bytes, bit fields, sparse tables, the check values and the digests the spec names. -/
namespace Sys2Proof.Machine

/-- Byte `i` of a list, 0 past its end. -/
def byteAt (bs : List Byte) (i : Nat) : Nat := (bs.getD i 0).toNat

/-- The number a list of bytes spells, least significant byte first (R5). -/
def leNat : List Byte → Nat
  | [] => 0
  | b :: bs => b.toNat + 256 * leNat bs

/-- The `n` bytes of a number, least significant byte first (R5). -/
def leBytes : Nat → Nat → List Byte
  | 0, _ => []
  | n + 1, v => BitVec.ofNat 8 v :: leBytes n (v / 256)

/-- The `n`-byte field at an offset. -/
def field (bs : List Byte) (off n : Nat) : Nat := leNat ((bs.drop off).take n)

/-- The two's complement value of the low `w` bits of a number. -/
def sext (w v : Nat) : Int :=
  let u := v % 2 ^ w
  if u < 2 ^ (w - 1) then (u : Int) else (u : Int) - (2 ^ w : Nat)

/-- The low `w` bits of an integer, in two's complement. -/
def wrapTo (w : Nat) (v : Int) : Nat := (v % ((2 ^ w : Nat) : Int)).toNat

/-- Bits `hi` down to `lo` of a number. -/
def bits (v hi lo : Nat) : Nat := v / 2 ^ lo % 2 ^ (hi + 1 - lo)

/-- A truth value as a bit placed at `n`. -/
def bit (b : Bool) (n : Nat) : Nat := if b then 2 ^ n else 0

/-- The bytes of a list, padded with 0 or cut to `n`. -/
def padTo (n : Nat) (bs : List Byte) : List Byte := (bs ++ List.replicate (n - bs.length) 0).take n

/-- A list whose element `i` is replaced. -/
def setAt {α : Type} (l : List α) (i : Nat) (a : α) : List α := l.set i a

/-- The value a sparse table gives a key. -/
def tget? {α : Type} (t : Table α) (k : Nat) : Option α := t.lookup k

/-- The value a sparse table gives a key, with what an unlisted key holds. -/
def tget {α : Type} (t : Table α) (k : Nat) (d : α) : α := (tget? t k).getD d

/-- A sparse table without a key. -/
def tdel {α : Type} (t : Table α) (k : Nat) : Table α := t.filter (fun e => e.1 != k)

/-- A sparse table with a key set, keys rising. -/
def tset {α : Type} : Table α → Nat → α → Table α
  | [], k, a => [(k, a)]
  | e :: t, k, a => if k < e.1 then (k, a) :: e :: t else if k = e.1 then (k, a) :: t else e :: tset t k a

/-- Rounding of a quotient to nearest, halves upward. -/
def roundDiv (a : Int) (b : Nat) : Int := (2 * a + b) / (2 * (b : Int))

/-- The integer held to a range. -/
def clampI (lo hi v : Int) : Int := max lo (min hi v)

/-- `R(x, y)` of the composer and the Ray Engine: floor((x × y + 511) / 1,023). -/
def scale1023 (x y : Nat) : Nat := (x * y + 511) / 1023

/-- One bit step of CRC-32C in reflected form (R77). -/
def crc32cBit (c : Word) : Word :=
  if c.getLsbD 0 then (c >>> 1) ^^^ 0x82F63B78#32 else c >>> 1

/-- One byte of CRC-32C (R77). -/
def crc32cByte (c : Word) (b : Byte) : Word :=
  let x := c ^^^ b.setWidth 32
  crc32cBit (crc32cBit (crc32cBit (crc32cBit (crc32cBit (crc32cBit (crc32cBit (crc32cBit x)))))))

/-- CRC-32C of a list of bytes (R77). -/
def crc32c (bs : List Byte) : Word := ~~~(bs.foldl crc32cByte 0xFFFFFFFF#32)

/-- One bit step of CRC-8, most significant bit first (R288). -/
def crc8Bit (c : Byte) : Byte := if c.getLsbD 7 then (c <<< 1) ^^^ 0x07#8 else c <<< 1

/-- CRC-8 of a list of bytes (R288). -/
def crc8 (bs : List Byte) : Byte :=
  bs.foldl (fun c b =>
    crc8Bit (crc8Bit (crc8Bit (crc8Bit (crc8Bit (crc8Bit (crc8Bit (crc8Bit (c ^^^ b))))))))) 0xFF#8

/-- CRC-3 of header bits 0 to 16, in that order (R272). -/
def crc3 (hdr : Nat) : Nat :=
  ((List.range 17).foldl (fun c n =>
    let fb := hdr.testBit n != c.testBit 2
    ((c * 2) % 8) ^^^ (if fb then 3 else 0)) 7)

/-- The greatest `r` with `r ^ k ≤ n`, its bits below `b` still to find. -/
def rootFloor (k n : Nat) : Nat → Nat → Nat
  | 0, r => r
  | b + 1, r => rootFloor k n b (if (r + 2 ^ b) ^ k ≤ n then r + 2 ^ b else r)

/-- The first `n` primes below 312. -/
def somePrimes (n : Nat) : List Nat :=
  ((List.range 312).filter (fun p => decide (2 ≤ p) && (List.range p).all (fun d => decide (d < 2) || p % d != 0))).take n

/-- The constants of SHA-256 (FIPS 180-4): 32 bits of the fraction of the `k`-th roots of the first `n` primes. -/
def shaRoots (k n : Nat) : List Word :=
  (somePrimes n).map (fun p => BitVec.ofNat 32 (rootFloor k (p * 2 ^ (32 * k)) 36 0))

/-- Several rotations of a word, taken together bit by bit. -/
def spins (w : Word) (by' : List Nat) : Word := (by'.map w.rotateRight).foldl (· ^^^ ·) 0

/-- `n` further words of the schedule of a block, which is kept newest first and so grows at its head. -/
def shaSchedule : Nat → List Word → List Word
  | 0, w => w
  | n + 1, w =>
    let at' (back : Nat) : Word := w.getD (back - 1) 0
    let old := spins (at' 15) [7, 18] ^^^ (at' 15 >>> 3)
    let young := spins (at' 2) [17, 19] ^^^ (at' 2 >>> 10)
    shaSchedule n ((young + at' 7 + old + at' 16) :: w)

/-- What a round adds: the choice by `x` between `y` and `z`, and the majority of three. -/
def shaChoose (x y z : Word) : Word := z ^^^ (x &&& (y ^^^ z))
def shaMost (x y z : Word) : Word := (x &&& y) ||| (z &&& (x ||| y))

/-- One round on the working variables, two rows of four: the upper row moves down by one, and so does the lower. -/
def shaTurn (v : List Word × List Word) (kw : Word) : List Word × List Word :=
  match v with
  | ([p, q, r, s], [t, u, x, y]) =>
    let feed := kw + y + shaChoose t u x + spins t [6, 11, 25]
    ([feed + shaMost p q r + spins p [2, 13, 22], p, q, r], [s + feed, t, u, x])
  | _ => v

/-- The big-endian word at an offset. -/
def beWord (bs : List Byte) (off : Nat) : Word :=
  BitVec.ofNat 32 (leNat ((bs.drop off).take 4).reverse)

/-- A 64-byte block taken into the digest so far. -/
def shaBlock (h : List Word) (blk : List Byte) : List Word :=
  let first := (List.range 16).map (fun i => beWord blk (60 - 4 * i))
  let sums := List.zipWith (· + ·) (shaRoots 3 64) (shaSchedule 48 first).reverse
  let v := sums.foldl shaTurn (h.take 4, h.drop 4)
  List.zipWith (· + ·) h (v.1 ++ v.2)

/-- The blocks of a padded message, `n` of them. -/
def shaFold : Nat → List Byte → List Word → List Word
  | 0, _, h => h
  | n + 1, bs, h => shaFold n (bs.drop 64) (shaBlock h (bs.take 64))

/-- SHA-256 (FIPS 180-4) of a list of bytes: a set bit, zeros, and the length in bits fill up the last block. -/
def sha256 (bs : List Byte) : List Byte :=
  let blocks := (bs.length + 72) / 64
  let tail := (leBytes 8 (8 * bs.length)).reverse
  let msg := padTo (64 * blocks - 8) (bs ++ [0x80#8]) ++ tail
  (shaFold blocks msg (shaRoots 2 8)).flatMap (fun w => (leBytes 4 w.toNat).reverse)

/-- HMAC-SHA-256 (FIPS 198-1) under a key of at most 64 bytes. -/
def hmacSha256 (key msg : List Byte) : List Byte :=
  let k := padTo 64 key
  sha256 (k.map (· ^^^ 0x5c#8) ++ sha256 (k.map (· ^^^ 0x36#8) ++ msg))

/-- The overlap of two byte ranges given by first byte and length. -/
def overlaps (a la b lb : Nat) : Bool := a < b + lb && b < a + la

/-- A byte range (first, length) added to disjoint ranges in rising order; overlapping and adjacent ranges are
joined (R65). -/
def rangeAdd : List (Nat × Nat) → Nat → Nat → List (Nat × Nat)
  | [], a, n => [(a, n)]
  | r :: rs, a, n =>
    if a + n < r.1 then (a, n) :: r :: rs
    else if r.1 + r.2 < a then r :: rangeAdd rs a n
    else rangeAdd rs (min a r.1) (max (a + n) (r.1 + r.2) - min a r.1)

/-- Ranges with the bytes of one range removed. -/
def rangeSub (rs : List (Nat × Nat)) (a n : Nat) : List (Nat × Nat) :=
  rs.flatMap (fun r =>
    (if r.1 < a then [(r.1, min r.2 (a - r.1))] else []) ++
    (if a + n < r.1 + r.2 then [(max r.1 (a + n), r.1 + r.2 - max r.1 (a + n))] else []))

/-- Ranges without the empty ones. -/
def rangeTidy (rs : List (Nat × Nat)) : List (Nat × Nat) := rs.filter (fun r => r.2 != 0)

/-- How a sequence number lies to another (R9). -/
inductive SeqOrder where
  | same | later | earlier | outOfRange
  deriving DecidableEq, Repr

/-- The comparison of two sequence numbers (R9): half the ring ahead neither is later, and that is what it reports. -/
def seqCompare (a b : Word) : SeqOrder :=
  let d := (a - b).toNat
  if d = 0 then .same
  else if d < 2147483648 then .later
  else if d = 2147483648 then .outOfRange
  else .earlier

/-- A sequence number is not behind another: the same, or later. -/
def seqReached (a b : Word) : Bool := seqCompare a b == .same || seqCompare a b == .later

/-! ### Row packets (R270 to R277) -/

/-- The `n` bits of a number, bit 0 first. -/
def bitsLsb : Nat → Nat → List Bool
  | 0, _ => []
  | n + 1, v => (v % 2 == 1) :: bitsLsb n (v / 2)

/-- SYNC (Table 11-1). -/
def syncBits : List Bool := false :: (List.replicate 34 true ++ [false])

/-- The 20 header bits as a number: row pair, type, facet and HCHK (Table 11-2). -/
def rowHeader (row type facet : Nat) : Nat :=
  let v := row % 2 ^ 13 + type % 4 * 2 ^ 13 + facet % 4 * 2 ^ 15
  v + crc3 v * 2 ^ 17

/-- The scrambler from a register value (R273). -/
def scramble : Nat → List Bool → List Bool
  | _, [] => []
  | s, b :: bs =>
    let out := s.testBit 22 != s.testBit 17
    (b != out) :: scramble (s * 2 % 2 ^ 23 + bit out 0) bs

/-- The scrambler's load value for a lane. -/
def scrambleSeed (lane : Nat) : Nat := 0x4000A5 + 256 * lane

/-- Stuffing: a bit of the opposite value after 31 equal scrambled bits (R274). -/
def stuff : Option Bool → Nat → List Bool → List Bool
  | _, _, [] => []
  | last, run, b :: bs =>
    let n := if last = some b then run + 1 else 1
    if n = 31 then b :: (!b) :: stuff none 0 bs else b :: stuff (some b) n bs

/-- The line bits of a packet of a lane: a pixel row (type 0) or training (type 2), polarity apart. -/
def rowPacket (lane row type facet : Nat) (values : List Nat) : List Bool :=
  syncBits ++ stuff none 0 (scramble (scrambleSeed lane)
    (bitsLsb 20 (rowHeader row type facet) ++ values.flatMap (bitsLsb 10)))

/-- The training packet of a lane: TYPE 2, facet 0, 360 values of 0 (R271, R275); its row is a free value (log 2). -/
def trainingBits (lane : Nat) : List Bool :=
  rowPacket lane (Config.trainingRow lane) 2 0 (List.replicate 360 0)

end Sys2Proof.Machine
end

