-- ==== Sys2Proof/Machine/Params.lean ====
section
/-! DEFINITION. The parameters: each PN with its type, default, range and whether it takes effect at a commit
(R402, R403 and the parameter tables of the chapters). -/
namespace Sys2Proof.Machine

/-- A parameter: width in bits, whether signed, default, lowest and highest value, and whether it takes effect at a
commit. -/
structure PSpec where
  width : Nat
  signed : Bool
  dflt : Int
  lo : Int
  hi : Int
  commit : Bool
  deriving DecidableEq, Repr

/-- An unsigned parameter that takes effect outside a commit. -/
def pnow (w : Nat) (d lo hi : Int) : Option PSpec := some ⟨w, false, d, lo, hi, false⟩
/-- An unsigned parameter that takes effect at a commit. -/
def pcom (w : Nat) (d lo hi : Int) : Option PSpec := some ⟨w, false, d, lo, hi, true⟩
/-- A signed parameter that takes effect outside a commit. -/
def psgn (w : Nat) (d lo hi : Int) : Option PSpec := some ⟨w, true, d, lo, hi, false⟩
/-- Any 32-bit value. -/
def any32 : Int := 4294967295

/-- Tables 15-11, 19-5, 2-5, 3-6. -/
def paramHost (pn : Nat) : Option PSpec :=
  if pn = 0x0100 then pnow 8 0 0 15 else if pn = 0x0101 then pnow 16 0 0 1000
  else if pn = 0x0102 then pnow 16 1500 1500 9000
  else if pn = 0x0200 then pnow 8 0 0 3 else if pn = 0x0201 then pnow 8 1 0 1
  else if pn = 0x0202 then pnow 8 0 0 2 else if pn = 0x0203 then pnow 16 5000 2500 10000
  else if pn = 0x0204 then pnow 8 31 30 33 else if 0x0208 ≤ pn ∧ pn ≤ 0x020B then pnow 8 0 0 63
  else if 0x0220 ≤ pn ∧ pn < 0x0260 then
    match (pn - 0x0220) % 8 with
    | 0 => pnow 8 0 0 4 | 1 => pnow 8 0 0 4 | 2 => pnow 16 1 1 4096 | 3 => pnow 8 0 0 63 | 4 => pnow 8 0 0 1
    | _ => none
  else if pn = 0x1000 then pcom 8 0xFF 0 0xFF else if pn = 0x1001 then pcom 16 1016 0 2032
  else if pn = 0x2000 then pcom 8 0 0 64 else if pn = 0x2001 then pcom 32 0 0 0x3FFFFFFF
  else none

/-- Table 6-9. -/
def paramCam (pn : Nat) : Option PSpec :=
  if pn = 0x2100 then pcom 16 100 20 1000 else if pn = 0x2101 then pcom 8 1 0 1
  else if 0x2140 ≤ pn ∧ pn < 0x2180 then
    match (pn - 0x2140) % 16 with
    | 0 => pcom 8 4 1 4 | 1 => pcom 16 1500 80 2500 | 2 => pcom 8 0 0 3 | 3 => pcom 8 0x1E 0x1E 0x24
    | 4 => pcom 16 1920 16 4096 | 5 => pcom 16 1080 16 2304 | 6 => pcom 8 1 0 3
    | _ => none
  else none

/-- Tables 7-7, 9-7, 10-5, 11-10. -/
def paramShow (pn : Nat) : Option PSpec :=
  if pn = 0x4000 then pcom 8 0 0 1 else if pn = 0x4001 then pcom 8 0 0 2 else if pn = 0x4002 then pcom 8 0 0 127
  else if pn = 0x4003 then pcom 8 64 0 64 else if pn = 0x4008 then pnow 8 1 0 1 else if pn = 0x4009 then pnow 8 90 50 98
  else if pn = 0x400A then pnow 8 75 30 90 else if pn = 0x400B then pnow 8 8 1 255
  else if pn = 0x400C then pcom 8 0 0 16 else if pn = 0x400D then pcom 8 16 0 16
  else if pn = 0x400E then pnow 8 1 0 1 else if pn = 0x400F then pnow 16 180 40 180
  else if pn = 0x4100 then pcom 16 3600 3000 3960 else if pn = 0x4101 then pnow 16 60 10 600
  else if pn = 0x4102 then pnow 16 600 100 600 else if pn = 0x4103 then pnow 16 2000 100 5000
  else if pn = 0x4104 then pcom 32 0 0 999999999 else if pn = 0x4105 then pnow 16 16 4 1024
  else if pn = 0x4106 then pnow 16 4100 3100 4200 else if pn = 0x4107 then pnow 8 12 8 30
  else if pn = 0x4108 then pnow 16 0 0 65535 else if pn = 0x4109 then pnow 8 0 0 1
  else if pn = 0x410A then pnow 8 4 1 16 else if pn = 0x410B then pnow 16 8000 1000 12000
  else if pn = 0x4200 then pcom 16 320 16 1024 else if pn = 0x4201 then pcom 16 992 16 1344
  else if pn = 0x4202 then pcom 16 64 8 1024 else if pn = 0x4203 then pcom 16 64 8 1024
  else if pn = 0x4204 then pcom 8 0 0 1 else if pn = 0x4205 then pcom 8 0 0 1
  else if pn = 0x4206 then pnow 8 8 4 15 else if pn = 0x4207 then pcom 8 1 0 1
  else if pn = 0x4300 then pnow 8 1 0 1 else if pn = 0x4301 then pnow 8 4 0 7 else if pn = 0x4302 then pnow 8 6 0 12
  else if pn = 0x4303 then pnow 8 3 1 8 else if pn = 0x4304 then pnow 16 2000 500 10000
  else if pn = 0x4305 then pnow 8 2 0 7 else if pn = 0x4306 then pcom 16 32768 0 65535
  else if 0x4310 ≤ pn ∧ pn ≤ 0x4317 then pnow 32 0 0 any32
  else none

/-- Tables 12-10, 8-4, 14-7. -/
def paramPanel (pn : Nat) : Option PSpec :=
  if pn = 0x4400 then pcom 8 160 0 160 else if pn = 0x4401 then pcom 8 0 0 1 else if pn = 0x4402 then pcom 16 8 1 1023
  else if pn = 0x4403 then pcom 8 2 0 16 else if pn = 0x4404 then pnow 16 240 20 240
  else if pn = 0x4405 then pnow 8 200 40 200 else if 0x4410 ≤ pn ∧ pn ≤ 0x4413 then pcom 32 any32 0 any32
  else if 0x4480 ≤ pn ∧ pn ≤ 0x44FF then pcom 8 120 0 160
  else if pn = 0x4500 then pcom 8 3 0 3 else if pn = 0x4501 then pnow 16 100 10 2000
  else if pn = 0x4502 then pnow 16 512 0 1023
  else if pn = 0x4600 then pnow 8 0 0 15 else if pn = 0x4601 then pnow 8 40 32 60 else if pn = 0x4602 then pnow 8 20 10 30
  else if pn = 0x4604 then pnow 32 0 0 any32 else if pn = 0x4605 then pnow 32 0 0 0xFFFFFF
  else if pn = 0x5000 then pnow 16 4096 256 16384 else if pn = 0x5001 then pnow 16 128 0 65535
  else if pn = 0x6000 then pnow 8 2 0 2 else if pn = 0x6001 then pnow 8 0 0 127 else if pn = 0x6002 then pnow 8 1 1 15
  else if pn = 0x6003 then pnow 8 0 0 1 else if pn = 0x6004 then pnow 32 100000 1000 1000000000
  else if pn = 0x6005 then pnow 16 500 20 10000 else if pn = 0x6006 then pnow 32 200000 1000 500000
  else if pn = 0x6007 then pnow 32 50000 1000 500000 else if pn = 0x6008 then pnow 16 100 10 2000
  else if pn = 0x6009 then pnow 8 3 2 16 else if pn = 0x600A then pnow 8 16 1 120
  else if pn = 0x600B then psgn 8 0 (-4) 4 else if 0x6010 ≤ pn ∧ pn ≤ 0x6013 then pnow 32 0 0 any32
  else none

/-- Tables 17-8, 18-6, 13-9, 20-12, 5-6. -/
def paramPower (pn : Nat) : Option PSpec :=
  if pn = 0x7000 then pnow 16 35000 30000 40000 else if pn = 0x7001 then pnow 16 200 0 5000
  else if pn = 0x7002 then pnow 16 100 10 5000 else if pn = 0x7003 then pnow 16 1200 1200 2500
  else if pn = 0x7004 then pnow 16 12500 5000 30000 else if pn = 0xB000 then pnow 8 0 0 1
  else if pn = 0x7100 then pnow 16 1000 100 10000 else if pn = 0x7101 then pnow 16 30 1 3600
  else if pn = 0x7102 then pnow 8 0 0 15 else if pn = 0x7103 then pnow 8 8 0 15
  else if pn = 0x7104 then pnow 16 32 0 1600 else if pn = 0x7105 then pnow 8 5 1 60
  else if pn = 0x7106 then psgn 16 95 60 115 else if pn = 0x7107 then psgn 16 115 95 125
  else if pn = 0x7108 then psgn 16 95 60 120
  else if 0x7200 ≤ pn ∧ pn < 0x7300 then
    match (pn - 0x7200) % 16 with
    | 0 => pnow 8 0 0 2 | 1 => pnow 16 10080 9500 10500 | 2 => pnow 32 10000 100 500000 | 3 => pnow 16 3435 2000 5000
    | 4 => pnow 16 8 0 1600 | 5 => pnow 8 10 1 60 | 6 => psgn 16 85 (-40) 150 | 7 => psgn 16 105 (-40) 150
    | 8 => psgn 16 90 (-40) 148
    | _ => none
  else if 0xA000 ≤ pn ∧ pn ≤ 0xA083 then pnow 32 0x8000 0 any32
  else if 0xA100 ≤ pn ∧ pn ≤ 0xA10F then pnow 32 0x8000 0 any32
  else if pn = 0x8000 then pnow 16 2000 500 20000 else if pn = 0x8001 then pnow 16 64 1 4096
  else if pn = 0x8002 then pnow 8 32 8 64 else if pn = 0x8003 then pnow 16 1024 128 8192
  else if pn = 0x8004 then pnow 8 3 1 8 else if pn = 0x8005 then pnow 16 200 0 10000
  else if pn = 0x8006 then pnow 8 24 0 168 else if pn = 0x8007 then pnow 8 2 0 2
  else if pn = 0x8008 then pnow 32 0 0 0xFFFFF
  else if pn = 0x9000 then pnow 8 128 16 128 else if pn = 0x9001 then pnow 8 0 0 1
  else if pn = 0x9100 then pnow 8 16 1 64 else if pn = 0x9101 then pnow 16 258 4 1027 else if pn = 0x9102 then pnow 8 1 0 1
  else if pn = 0x9103 then pnow 16 256 1 1024 else if pn = 0x9104 then pnow 8 0 0 1
  else none

/-- The parameter a PN names, none where it names none (R402). -/
def paramSpec (pn : Nat) : Option PSpec :=
  (paramHost pn).orElse fun _ => (paramCam pn).orElse fun _ => (paramShow pn).orElse fun _ =>
    (paramPanel pn).orElse fun _ => paramPower pn

/-- The default of a parameter as PARAM_GET returns it (R403). -/
def paramDefault (pn : Nat) : Word :=
  match paramSpec pn with
  | some q => BitVec.ofInt 32 q.dflt
  | none => 0

/-- The value a 32-bit VALUE stands for, by the type of its parameter (R402). -/
def paramInt (q : PSpec) (v : Word) : Int := if q.signed then v.toInt else v.toNat

/-- A VALUE lies inside the Range column of its parameter (R402; sets of values as the tables give them). -/
def paramInRange (pn : Nat) (q : PSpec) (v : Word) : Bool :=
  let x := paramInt q v
  decide (q.lo ≤ x) && decide (x ≤ q.hi) &&
  (if pn = 0x1000 then decide (v.toNat ≤ 3) || decide (v.toNat = 0xFF)
   else if pn = 0x5000 then decide (v.toNat % 256 = 0)
   else if 0x2140 ≤ pn ∧ pn < 0x2180 ∧ (pn - 0x2140) % 16 = 0 then [1, 2, 4].contains v.toNat
   else if 0x2140 ≤ pn ∧ pn < 0x2180 ∧ (pn - 0x2140) % 16 = 3 then [0x1E, 0x1F, 0x24].contains v.toNat
   else true)

end Sys2Proof.Machine
end

