-- ==== Sys2Proof/Machine/State.lean ====
section
/-! DEFINITION. The state of the block as plain data, and the state right after reset. A field's comment gives its
width, the rule that names it and, where the reset value is the model's choice, the log entry. -/
namespace Sys2Proof.Machine

/-- Reasons for a fault: none. Every command of the spec's table has an effect on every state, so no step ends in a
fault. -/
inductive Fault where
  deriving DecidableEq, Repr

/-- Reasons for a refusal. -/
inductive Refusal where
  /-- The command has no meaning in this model yet. Raised by Dispatch only; safe. -/
  | notModelled (mnemonic : String)
  deriving DecidableEq, Repr

/-- The operating modes, coded as MODE_SET (R14, Table 16-2). -/
inductive Mode where
  | lightfield
  | flat
  | parked
  | service
  | test
  deriving DecidableEq, Repr

/-- The event and error counters of the register tables (R7, Table 5-4). -/
inductive Ctr where
  | refused
  | dupTag
  | ethDrop
  | blocksOk
  | blocksFail
  | cvuMismatch
  | cencVerifyFail
  | cencRaw
  | cencBlocks
  | composeLate
  | safetyMismatch
  | camDamaged0
  | camDamaged1
  | camDamaged2
  | camDamaged3
  | camDropped0
  | camDropped1
  | camDropped2
  | camDropped3
  | rayLate
  | rayEscalate
  | rayFlatBuild
  | rayParity
  | bltOps
  | bltFail
  | encGlitch
  | lockLoss
  | underrun0
  | underrun1
  | underrun2
  | underrun3
  | scoRepeat
  | scoDark
  | loopErr
  | pltLockLoss
  | gclNoReply
  | gclCrcErr
  | zoneFault
  | flyUpdate
  | flySkip
  | memCe
  | memUe
  | memRetry
  | memRetrain
  | memThrottle
  | memRfm
  | memFreq
  | tuOutlier
  | tuRefuse
  | tuGmChange
  | tuEarlyDrop
  | tuPtpDrop
  | ttMissed
  | tcOverflow
  | sag
  | coast
  | ride
  | warm
  | thrStep
  | tsInvalid
  | thermTrip
  | spurious
  | clkLockLoss
  | clkRefSwitch
  | clkSync
  | silThumbSkip
  | silFlush
  | silNandErr
  | bbFlush
  | dbgUnlockFail
  deriving DecidableEq, Repr

/-- The rotor states (Table 9-3). -/
inductive RotState where
  | stopped
  | freewheel
  | catching
  | align
  | spinUp
  | run
  | brake
  | regen
  | sensorlessBrake
  deriving DecidableEq, Repr

/-- The rotor request in force (R231). -/
inductive RotReq where
  | none
  | start
  | stop
  deriving DecidableEq, Repr

/-- Phase lock of the rotor (Table 9-10). -/
inductive Lock where
  | off
  | acquiring
  | locked
  deriving DecidableEq, Repr

/-- Panel power states (R300). -/
inductive PnlState where
  | off
  | powering
  | on
  | discharging
  deriving DecidableEq, Repr

/-- Crack-loop classes (R306). -/
inductive CrkClass where
  | ok
  | high
  | opened
  | shorted
  deriving DecidableEq, Repr

/-- States of the Flysheet update (Table 12-15). -/
inductive FlyState where
  | idle
  | journal
  | loading
  | running
  | waiting
  | redriveWaiting
  deriving DecidableEq, Repr

/-- Lane states (Table 11-3). -/
inductive LaneState where
  | l0
  | l1s
  | l3d
  | training
  deriving DecidableEq, Repr

/-- Time Unit states (Table 14-3). -/
inductive TuState where
  | freerun
  | acquiring
  | locked
  | holdover
  deriving DecidableEq, Repr

/-- Memory operating points: 3.2, 4.8, 5.6 Gbit/s, and self-refresh or reset (Table 13-11). -/
inductive Point where
  | p32
  | p48
  | p56
  | off
  deriving DecidableEq, Repr

/-- States of a ray-map slot (R43). -/
inductive SlotState where
  | empty
  | loading
  | ready
  deriving DecidableEq, Repr

/-- State of the dependency of a command in flight (R396). -/
inductive DepState where
  | met
  | waiting
  | failed
  deriving DecidableEq, Repr

/-- What a facet shows (R243, R244). -/
inductive Facet where
  | none
  | fresh
  | repeated
  | dark
  deriving DecidableEq, Repr

/-- Causes of a Flysheet journal entry (Table 12-8). -/
inductive FlyCause where
  | host
  | coast
  | fault
  | thermal
  | parked
  | bivouac
  deriving DecidableEq, Repr

/-- Causes of a Sillage segment (Table 20-7). -/
inductive FlushCause where
  | command
  | coast
  | parked
  deriving DecidableEq, Repr

/-- Mid-pulse verdict of a zone sink (R313). -/
inductive SinkFault where
  | okay
  | opened
  | shorted
  deriving DecidableEq, Repr

/-- Bytes that a Blitter operation, a block or a host write has written while another command was in flight (R193). -/
structure WriteMark where
  /-- Written by the Blitter. -/
  blit : Bool := false
  /-- First byte. -/
  first : Nat := 0
  /-- Length. -/
  len : Nat := 0
  deriving DecidableEq, Repr

/-- A command in flight (R395, R396). -/
structure Flight where
  /-- Its opcode. -/
  op : Nat := 0
  /-- Its packet. -/
  p : Pkt
  /-- State of its dependency. -/
  dep : DepState := DepState.met
  /-- The tag it waits on. -/
  depTag : Nat := 0
  /-- It has started. -/
  started : Bool := false
  /-- Order of acceptance. -/
  seq : Nat := 0
  /-- What its execution has gathered. -/
  aux : List Nat := []
  /-- Its bound was extended (BOUND_EXTENDED). -/
  ext : Bool := false
  /-- Its reply is discarded after an endpoint reset (R387). -/
  silent : Bool := false
  /-- Bytes that commands it does not name in its dependency field have written since it was accepted (R193). -/
  marks : List WriteMark := []
  deriving DecidableEq, Repr

/-- A status reply with its data image (Table 15-5). -/
structure Reply where
  /-- STATUS. -/
  status : Half := 0
  /-- TAG [8:0]. -/
  tag : Nat := 0
  /-- PHASE. -/
  phase : Bool := false
  /-- OPCODE. -/
  opcode : Half := 0
  /-- RFLAGS. -/
  rflags : Half := 0
  /-- EPOCH. -/
  epoch : Nat := 0
  /-- SQ_HEAD. -/
  sqHead : Nat := 0
  /-- QUEUE. -/
  queue : Nat := 0
  /-- RESULT, 12 bytes. -/
  result : List Byte := []
  /-- The data image, empty when none. -/
  image : List Byte := []
  /-- DATA_ADDR of the image. -/
  addr : Dword := 0
  deriving DecidableEq, Repr

/-- Registers of one submission and completion queue (Table 15-8). -/
structure Queue where
  /-- SQ_BASE. -/
  sqBase : Dword := 0
  /-- CQ_BASE. -/
  cqBase : Dword := 0
  /-- QCFG LOG2_SIZE. -/
  log2 : Nat := 0
  /-- QCFG WEIGHT minus 1. -/
  weight : Nat := 0
  /-- QCFG ENABLE. -/
  enable : Bool := false
  /-- QSTAT SQ_HEAD. -/
  sqHead : Nat := 0
  /-- QSTAT CQ_TAIL. -/
  cqTail : Nat := 0
  /-- QSTAT PHASE the module writes next. -/
  phase : Bool := false
  /-- SQ_TAIL last written. -/
  sqTail : Nat := 0
  /-- CQ_HEAD last written. -/
  cqHead : Nat := 0
  /-- Packets of the ring not yet fetched. -/
  ring : List RawPkt := []
  /-- A reply with IRQ set waits for its vector. -/
  unsignalled : Bool := false
  deriving DecidableEq, Repr

/-- An entry of the note table (Table 3-3). -/
structure Note where
  /-- FIRST. -/
  first : Nat := 0
  /-- LAST. -/
  last : Nat := 0
  /-- CLASS. -/
  cls : Nat := 0
  /-- Reserved byte. -/
  rsvd : Byte := 0
  /-- MERGE_D. -/
  mergeD : Word := 0
  deriving DecidableEq, Repr

/-- A Sillage capture region (Table 16-8). -/
structure SilRegion where
  /-- TARGET. -/
  target : Nat := 0
  /-- RATE_HZ. -/
  rate : Nat := 0
  /-- X. -/
  x : Nat := 0
  /-- Y. -/
  y : Nat := 0
  /-- W. -/
  w : Nat := 0
  /-- H. -/
  h : Nat := 0
  deriving DecidableEq, Repr

/-- The draft, active or snapshot set (R21): everything that takes effect at a commit. -/
structure ConfigSet where
  /-- Commit parameters away from their defaults (R402). -/
  params : Table Word := []
  /-- Plane descriptors staged (Table 3-2). -/
  planes : Table (List Byte) := []
  /-- Paired planes whose named buffer is BASE_B (R64). -/
  bufB : List Nat := []
  /-- Note table (R58). -/
  notes : List Note := []
  /-- Layer descriptors staged (Table 6-2). -/
  layers : Table (List Byte) := []
  /-- Count of LAYER_DEFINEs of each layer (R137). -/
  layerSeq : Table Nat := []
  /-- Safety region descriptors (Table 6-7). -/
  safety : Table (List Byte) := []
  /-- Scaler banks loaded (R135). -/
  scalers : Table (List Int) := []
  /-- Tables loaded by RAY_LUT_LOAD, by selector (R187). -/
  luts : Table (List Nat) := []
  /-- Transition table loaded (R251). -/
  tc : Option (List Nat) := none
  /-- Capture regions (R524). -/
  regions : Table SilRegion := []
  /-- Staged mode (R415). LIGHTFIELD until one is staged: no rule gives the default set a mode (DESIGN CHOICE, logs 3 and
  74). -/
  mode : Mode := Mode.lightfield
  deriving DecidableEq, Repr

/-- A snapshot that has reached its commit point (R23). -/
structure Snapshot where
  /-- The set. -/
  set : ConfigSet := {}
  /-- Its epoch number. -/
  epoch : Nat := 0
  /-- It changes something (R12). -/
  changes : Bool := false
  /-- First revolution at whose latch angle it may take effect (R261). -/
  minRev : Nat := 0
  /-- Length of the log of paired-plane writes at its commit point (R64). -/
  logLen : Nat := 0
  deriving DecidableEq, Repr

/-- A COMMIT past its commit point (R25). -/
structure PendingCommit where
  /-- Its tag. -/
  tag : Nat := 0
  /-- Its path. -/
  path : Nat := 0
  /-- The number its reply carries. -/
  epoch : Nat := 0
  /-- NO_CHANGE. -/
  noChange : Bool := false
  /-- Its snapshot. -/
  snap : Snapshot := {}
  deriving DecidableEq, Repr

/-- A scene cache entry (R67). -/
structure CacheEntry where
  /-- PLANE_COUNT recorded. -/
  count : Nat := 0
  /-- Descriptors recorded. -/
  planes : Table (List Byte) := []
  /-- Note table recorded. -/
  notes : List Note := []
  deriving DecidableEq, Repr

/-- A block of a SCENE_LOAD in the parser or an engine (R95). -/
structure BlockRec where
  /-- Tag of its command. -/
  tag : Nat := 0
  /-- Its place in the stream. -/
  index : Nat := 0
  /-- Stream offset of its header. -/
  offset : Nat := 0
  /-- Its 32 header bytes. -/
  header : List Byte := []
  /-- Plane it is bound to. -/
  plane : Nat := 0
  /-- First destination byte address. -/
  dst : Nat := 0
  /-- Uncompressed length. -/
  ulen : Nat := 0
  /-- Payload length. -/
  plen : Nat := 0
  /-- Its engine, none while it waits (R97). -/
  engine : Option Nat := none
  /-- Held behind a carry-forward (R66). -/
  held : Bool := false
  /-- The draft descriptor it was bound to (R60). -/
  desc : List Byte := []
  /-- First byte of the buffer it is bound to (R64, R101). -/
  buf : Nat := 0
  deriving DecidableEq, Repr

/-- A carry-forward copy of one swapped plane (R66). -/
structure CarryJob where
  /-- The plane. -/
  plane : Nat := 0
  /-- First byte of its new active buffer. -/
  src : Nat := 0
  /-- First byte of its new draft buffer. -/
  dst : Nat := 0
  /-- Its dirty region: offsets and lengths. -/
  ranges : List (Nat × Nat) := []
  /-- The outgoing epoch of its swap has released the new draft buffer. -/
  free : Bool := false
  deriving DecidableEq, Repr

/-- An active SCENE_LOAD (R95, R419). -/
structure LoadJob where
  /-- Its tag. -/
  tag : Nat := 0
  /-- Blocks parsed so far. -/
  next : Nat := 0
  /-- Stream offset of the next header. -/
  offset : Nat := 0
  /-- PASSED. -/
  passed : Nat := 0
  /-- FAILED. -/
  failed : Nat := 0
  /-- The parser is done with the stream. -/
  ended : Bool := false
  /-- First failed block in stream order: index, status, offset, BLOCK, PLANE. -/
  firstFail : Option (Nat × Nat × Nat × Nat × Nat) := none
  /-- The bytes of the stream. -/
  stream : List Byte := []
  deriving DecidableEq, Repr

/-- An entry of the decoder error queue (Table 5-2). -/
structure ErrEntry where
  /-- STATUS. -/
  status : Nat := 0
  /-- TAG. -/
  tag : Nat := 0
  /-- ENGINE. -/
  engine : Nat := 0
  /-- SCENE_ID. -/
  sceneId : Word := 0
  /-- BLOCK. -/
  block : Nat := 0
  /-- PLANE. -/
  plane : Nat := 0
  /-- OFFSET. -/
  offset : Nat := 0
  deriving DecidableEq, Repr

/-- A Capture Encoder job (R112). -/
structure CencJob where
  /-- Capture region index. -/
  region : Nat := 0
  /-- Scene ID: the RSEQ of the captured frame's entry. -/
  sceneId : Word := 0
  /-- The packed byte sequence. -/
  input : List Byte := []
  /-- Bytes encoded so far. -/
  pos : Nat := 0
  /-- Next BLOCK index. -/
  block : Nat := 0
  /-- First offset in the thumbnail ring, 64-byte units. -/
  start : Nat := 0
  /-- Stream written so far. -/
  out : List Byte := []
  /-- CENC_CHAIN_DEPTH of the job. -/
  chain : Nat := 0
  /-- CENC_NICE_LEN of the job. -/
  nice : Nat := 0
  /-- CENC_LAZY of the job. -/
  lazy : Bool := false
  /-- CENC_BLOCK_UNITS of the job. -/
  units : Nat := 0
  /-- CENC_FORCE_RAW of the job. -/
  raw : Bool := false
  /-- Composed buffer it reads, by target and index. -/
  buf : Option (Nat × Nat) := none
  /-- The rows of its source: first byte and length. -/
  rows : List (Nat × Nat) := []
  deriving DecidableEq, Repr

/-- A THUMB detail waiting for the next frame entry (R525). -/
structure ThumbRec where
  /-- REGION. -/
  region : Nat := 0
  /-- STATUS. -/
  status : Nat := 0
  /-- RSEQ of the captured frame's entry. -/
  rseq : Nat := 0
  /-- Offset of the stream, 64-byte units. -/
  offset : Nat := 0
  /-- The block stream. -/
  stream : List Byte := []
  deriving DecidableEq, Repr

/-- A camera frame in the ring of its port (R128). -/
structure CamFrame where
  /-- Ring buffer 0 to 3. -/
  buf : Nat := 0
  /-- Sequence number. -/
  seq : Nat := 0
  /-- PTP time stamp. -/
  time : Nat := 0
  /-- Width in pixels. -/
  w : Nat := 0
  /-- Height in pixels. -/
  h : Nat := 0
  /-- Stored as RGBA1010102. -/
  fmt10 : Bool := false
  deriving DecidableEq, Repr

/-- A frame being received (R128). -/
structure CamRx where
  /-- Lines received. -/
  lines : Nat := 0
  /-- A check has failed. -/
  damaged : Bool := false
  /-- Frame End received. -/
  ended : Bool := false
  /-- Ring buffer it is written to. -/
  buf : Nat := 0
  /-- Stored as RGBA1010102. -/
  fmt10 : Bool := false
  deriving DecidableEq, Repr

/-- A camera port (R127 to R130). -/
structure CamPort where
  /-- The port receives. -/
  receiving : Bool := false
  /-- Lanes, rate, VC, DT, width, height and matrix in force. -/
  params : List Nat := []
  /-- Frame in arrival. -/
  rx : Option CamRx := none
  /-- Complete frames, newest first. -/
  frames : List CamFrame := []
  /-- Last sequence number given. -/
  nextSeq : Nat := 0
  /-- No good frame for CAM_STALE_MS. -/
  stale : Bool := false
  /-- A good frame has completed since the start or restart. -/
  good : Bool := false
  /-- It has received at some time in the frame under way (Table 20-4). -/
  inFrame : Bool := false
  /-- It has been stale at some time in the frame under way (R130). -/
  staleFrame : Bool := false
  deriving DecidableEq, Repr

/-- What is recorded of a safety region (R146, R148). -/
structure SafetyRes where
  /-- 1 pass, 2 mismatch, 3 not rewritten by a composition that serves the frame. -/
  state : Nat := 3
  /-- CRC computed at its last check. -/
  crc : Word := 0
  /-- Action taken at its last check: 0 none, 1 substituted, 2 blanked. -/
  act : Nat := 0
  deriving DecidableEq, Repr

/-- The composed buffers of one target (R121, R137). -/
structure Target where
  /-- Buffer the Ray Engine reads, 0 or 1. -/
  read : Nat := 0
  /-- Its pair of buffers in the compose area (log 11). -/
  slot : Nat := 0
  /-- Tiles of the last composition that swapped. -/
  prevTiles : List Nat := []
  /-- Tiles marked as changed for the next composition. -/
  pendTiles : List Nat := []
  /-- A composition has ended and its buffer waits to be swapped in (R137). -/
  due : Bool := false
  /-- Facet at whose render start it is swapped in; 4 as soon as no render is in progress (R141). -/
  serves : Nat := 4
  /-- Camera frames drawn in the buffer composed last, by layer. -/
  drawn : List (Nat × Nat) := []
  /-- Camera frames drawn in the buffer that the Ray Engine reads, by layer (R27). -/
  cams : List (Nat × Nat) := []
  deriving DecidableEq, Repr

/-- A composition in progress (R137, R139). -/
structure Composition where
  /-- Facet it serves. -/
  facet : Nat := 0
  /-- Its deadline has passed. -/
  late : Bool := false
  /-- The set it composes. -/
  set : ConfigSet := {}
  /-- Tiles to rewrite, by target. -/
  tiles : Table (List Nat) := []
  /-- Camera frame picked for each layer. -/
  cams : List (Nat × Nat) := []
  /-- Frames of the facet-latched layers before its pick (R141). -/
  prev : List (Nat × Nat) := []
  deriving DecidableEq, Repr

/-- The governor's measurements of a facet (R176). -/
structure Measured where
  /-- T: lane clocks of the whole facet. -/
  t : Nat := 0
  /-- S[n]: lane clocks spent on each note. -/
  s : List Nat := []
  /-- R[n]: rays that took a sample in each note. -/
  r : List Nat := []
  /-- G[n]: bytes fetched for each note. -/
  g : List Nat := []
  /-- Gt: plane bytes fetched. -/
  gt : Nat := 0
  /-- The notes merged in it from its first tile on. -/
  merged : List Nat := []
  deriving DecidableEq, Repr

/-- A head store: row pairs 0 to 7 of a facet buffer (R252). -/
structure HeadStore where
  /-- The buffer. -/
  buf : Nat := 0
  /-- Its words: eight rows of the upper half, then eight of the lower half. -/
  words : List Nat := []
  /-- Places of the words that were missing when it was filled (Table 13-5). -/
  lost : List Nat := []
  deriving DecidableEq, Repr

/-- What the Sillage entry records of a facet (Table 20-3). -/
structure FacetRec where
  /-- START_OFS. -/
  ofs : Nat := 0
  /-- OUTCOME. -/
  outcome : Facet := Facet.none
  /-- TC_BYPASS. -/
  tcBypass : Bool := false
  /-- FLAT_BUILT. -/
  flatBuilt : Bool := false
  /-- LEVEL_START. -/
  levelStart : Nat := 0
  /-- LEVEL_END. -/
  levelEnd : Nat := 0
  /-- ESCALATIONS. -/
  escalations : Nat := 0
  /-- ABANDONED. -/
  abandoned : Bool := false
  /-- Underrun rows of Q0 to Q3. -/
  underrun : List Nat := []
  /-- Throttle step at the start. -/
  step : Nat := 0
  /-- Camera frame shown, by port. -/
  camSeq : Table Nat := []
  deriving DecidableEq, Repr

/-- A render in progress (R171 to R179). -/
structure Render where
  /-- Drum facet. -/
  facet : Nat := 0
  /-- Buffer it writes. -/
  buf : Nat := 0
  /-- The set of its frame. -/
  set : ConfigSet := {}
  /-- Present merge level. -/
  level : Nat := 0
  /-- Level at the start. -/
  levelStart : Nat := 0
  /-- Angle at which it started. -/
  startAtk : Nat := 0
  /-- Tile at which each further level begins. -/
  tilesAt : List (Nat × Nat) := []
  /-- Escalations so far. -/
  escalations : Nat := 0
  /-- A flat was built. -/
  flatBuilt : Bool := false
  /-- Active cluster count. -/
  clusters : Nat := 0
  /-- Throttle step in use. -/
  step : Nat := 0
  /-- FLAT timing. -/
  flat : Bool := false
  /-- Composed buffers it reads: target, pair and buffer. -/
  bufs : List (Nat × Nat × Nat) := []
  /-- Camera frame of each layer in them. -/
  cams : List (Nat × Nat) := []
  /-- GOV_ENABLE at its start (R188). -/
  govern : Bool := true
  /-- GOV_ESCALATE at its start (R188). -/
  escalates : Bool := true
  /-- Tiles issued at the last check of R179. -/
  checked : Nat := 0
  deriving DecidableEq, Repr

/-- A note flat held in its slot (R166, R167). -/
structure FlatRec where
  /-- Note table entry. -/
  slot : Nat := 0
  /-- The entry it was built for. -/
  note : Note := {}
  /-- Descriptors it was built from. -/
  planes : List (Nat × List Byte) := []
  /-- Decode tables it was built with. -/
  luts : Table (List Nat) := []
  /-- RAY_FILTER it was built with. -/
  filter : Word := 0
  /-- The epoch that took effect last changed something it depends on: only the outgoing epoch still uses it. -/
  old : Bool := false
  deriving DecidableEq, Repr

/-- A queued Blitter operation (R191). -/
structure BlitOp where
  /-- Its tag. -/
  tag : Nat := 0
  /-- Its opcode. -/
  op : Nat := 0
  /-- Descriptor or clip fields. -/
  desc : List Byte := []
  /-- State of its dependency. -/
  dep : DepState := DepState.met
  deriving DecidableEq, Repr

/-- The kinds of exchange (R292). -/
inductive ExchKind where
  | write | read | loop
  deriving DecidableEq, Repr

/-- An exchange on a gate-control link (R292). -/
structure Exchange where
  /-- LINK. -/
  link : Nat := 0
  /-- ADDR. -/
  addr : Nat := 0
  /-- REG. -/
  reg : Nat := 0
  /-- DATA. -/
  data : Half := 0
  /-- WRITE, READ or LOOP. -/
  kind : ExchKind := ExchKind.read
  /-- Pattern of a LOOP. -/
  pattern : Nat := 0
  /-- Tag of the host command, none for the module's own. -/
  tag : Option Nat := none
  /-- Attempts made. -/
  tries : Nat := 0
  /-- It belongs to a panel power sequence (R302, R304). -/
  power : Bool := false
  deriving DecidableEq, Repr

/-- A frame or packet put on the wire (Table 11-6, R270). -/
structure LinkFrame where
  /-- Link, or 32 for all. -/
  link : Nat := 0
  /-- Line bits, in order of sending. -/
  bits : List Bool := []
  deriving DecidableEq, Repr

/-- An entry of the Flysheet journal (Table 12-8). -/
structure JEntry where
  /-- CAUSE. -/
  cause : FlyCause := FlyCause.host
  /-- SEQ. -/
  seq : Nat := 0
  /-- IMAGE. -/
  image : Dword := 0
  /-- BAND. -/
  band : Nat := 0
  /-- DONE is programmed. -/
  done : Bool := false
  deriving DecidableEq, Repr

/-- A Flysheet update under way (R322). -/
structure FlyUpdate where
  /-- IMAGE. -/
  image : Dword := 0
  /-- BAND. -/
  band : Nat := 0
  /-- FLY_VH latched. -/
  vh : Nat := 0
  /-- FLY_VM latched. -/
  vm : Nat := 0
  /-- Frames accepted so far. -/
  sent : Nat := 0
  /-- Attempts at the present frame. -/
  tries : Nat := 0
  /-- It is a re-drive (R323). -/
  redrive : Bool := false
  /-- A CRK1 trip stops it: its ABORT is to be sent and answered (R316, R319). -/
  aborting : Bool := false
  /-- FLYSHEET_UPDATE commands it completes. -/
  tags : List Nat := []
  deriving DecidableEq, Repr

/-- A trigger output (R375). -/
structure Trigger where
  /-- Its descriptor, 40 bytes. -/
  desc : List Byte := []
  /-- A descriptor with MODE not 0 is in force. -/
  armed : Bool := false
  /-- A pulse is in progress. -/
  active : Bool := false
  /-- ACTIVE_LOW of the pulse in progress. -/
  keepLow : Bool := false
  /-- Next edge number, modes 1 and 2. -/
  k : Nat := 0
  /-- Pulses sent. -/
  sent : Nat := 0
  /-- Passes seen, modes 3 and 4. -/
  passes : Nat := 0
  /-- A delayed edge of modes 3 and 4 is due. -/
  due : Bool := false
  /-- The pulse in progress is one of the schedule before the last arming (R379). -/
  rearmed : Bool := false
  deriving DecidableEq, Repr

/-- An entry of the capture FIFO (Table 14-5). -/
structure CapEntry where
  /-- TIME. -/
  time : Nat := 0
  /-- ANGLE. -/
  angle : Word := 0
  /-- INPUT. -/
  input : Nat := 0
  /-- RISING. -/
  rising : Bool := false
  /-- ANGLE_VALID. -/
  angleValid : Bool := false
  /-- TIME_SET. -/
  timeSet : Bool := false
  /-- TSEQ. -/
  tseq : Nat := 0
  deriving DecidableEq, Repr

/-- Settings of a capture input (R380). -/
structure CapCfg where
  /-- ENABLE. -/
  enable : Bool := false
  /-- EDGE. -/
  edge : Nat := 0
  /-- FILTER. -/
  filter : Nat := 0
  deriving DecidableEq, Repr

/-- A master heard on a port (R364). -/
structure Gm where
  /-- Port it is heard on. -/
  port : Nat := 0
  /-- Its source identity. -/
  source : Dword := 0
  /-- GrandmasterIdentity. -/
  gmId : Dword := 0
  /-- Comparison fields. -/
  rank : List Nat := []
  /-- TimeTraceable. -/
  traceable : Bool := false
  deriving DecidableEq, Repr

/-- A temperature input (R463 to R467). -/
structure TempIn where
  /-- The input is valid. -/
  valid : Bool := true
  /-- Consecutive invalid samples. -/
  badRun : Nat := 0
  /-- Consecutive valid samples. -/
  goodRun : Nat := 0
  /-- Sum of the valid samples since the last reading, 1/65,536 °C. -/
  sum : Int := 0
  /-- Their number. -/
  n : Nat := 0
  /-- Last reading, 1/16 °C. -/
  reading : Int := 0
  /-- Last rate, 1/16 °C/s. -/
  rate : Int := 0
  /-- Readings, newest first. -/
  history : List Int := []
  /-- Exceeded at its latest reading. -/
  exceeded : Bool := false
  /-- Consecutive values above the trip level. -/
  tripRun : Nat := 0
  /-- This run of values has tripped. -/
  tripSeen : Bool := false
  /-- Its bit in THERM_TRIPPED. -/
  tripped : Bool := false
  /-- Last value compared with the trip level, 1/16 °C. -/
  tripVal : Int := 0
  /-- It has a reading. -/
  hasRead : Bool := false
  deriving DecidableEq, Repr

/-- An entry of the thermal log (Table 18-2). -/
structure LogEntry where
  /-- Its 64 bytes. -/
  bytes : List Byte := []
  deriving DecidableEq, Repr

/-- A CALIBRATE in progress (R481). -/
structure CalRun where
  /-- Its tag. -/
  tag : Nat := 0
  /-- ITEM. -/
  item : Nat := 0
  /-- Zones still to measure. -/
  zones : List Nat := []
  /-- All sinks or inputs it measures. -/
  items : List Nat := []
  /-- 96 zones or fewer were in use. -/
  spares : Bool := false
  /-- Facets begun for the zone in hand. -/
  facets : Nat := 0
  deriving DecidableEq, Repr

/-- A PLL or aligner of the Clock Unit (R502). -/
structure Plle where
  /-- Locked. -/
  lock : Bool := false
  /-- Outputs on bypass. -/
  bypass : Bool := false
  /-- Consecutive windows within tolerance. -/
  goodRun : Nat := 0
  /-- Consecutive windows out by more than 7. -/
  badRun : Nat := 0
  /-- A frequency change was requested. -/
  requested : Bool := false
  deriving DecidableEq, Repr

/-- What a clock output carries (R508). -/
inductive ClockOut where
  /-- Its state of Table 17-3, before the GCL domain is released. -/
  | reset
  /-- High impedance: the output is off. -/
  | highZ
  /-- Stopped low. -/
  | low
  /-- The bypass clock of its source, in a format and divided. -/
  | bypass (format div : Nat)
  /-- A source in a format, divided, delayed by `phase` sixty-fourths. -/
  | clock (format src div phase : Nat)
  deriving DecidableEq, Repr

/-- A SILLAGE_MARK waiting (Table 20-4). -/
structure Marked where
  /-- MARK. -/
  mark : List Byte := []
  /-- Tag of the command. -/
  tag : Nat := 0
  deriving DecidableEq, Repr

/-- A black-box entry (Table 20-8). -/
structure BbEntry where
  /-- SEQ. -/
  seq : Nat := 0
  /-- BOOT. -/
  boot : Nat := 0
  /-- MODE. -/
  mode : Mode := Mode.lightfield
  /-- TIME. -/
  time : Nat := 0
  /-- ANGLE. -/
  angle : Word := 0
  /-- CODE. -/
  code : Nat := 0
  /-- SOURCE. -/
  source : Nat := 0
  /-- CONDITIONS. -/
  conds : Nat := 0
  /-- DATA. -/
  data : Word := 0
  deriving DecidableEq, Repr

/-- A record of the Sillage ring (Table 20-1). -/
structure SilRec where
  /-- RSEQ. -/
  rseq : Nat := 0
  /-- Offset in the ring, 64-byte units. -/
  off : Nat := 0
  /-- Chain value before it. -/
  chain : List Byte := []
  /-- Its bytes. -/
  bytes : List Byte := []
  deriving DecidableEq, Repr

/-- A Sillage flush in progress (R526). -/
structure FlushJob where
  /-- CAUSE. -/
  cause : FlushCause := FlushCause.command
  /-- SILLAGE_FLUSH that asked for it. -/
  tag : Option Nat := none
  /-- The segment. -/
  bytes : List Byte := []
  /-- Last RSEQ of the record part. -/
  lastRseq : Nat := 0
  deriving DecidableEq, Repr

/-- An entry sequence of Table 22-4. -/
structure EntrySeq where
  /-- The mode it leaves. -/
  fromM : Mode := Mode.lightfield
  /-- The mode it enters. -/
  toM : Mode := Mode.lightfield
  /-- Steps still to run, the present one first. -/
  steps : List Nat := []
  /-- The MODE_SET that asked for it. -/
  tag : Option Nat := none
  /-- The present step has been started. -/
  begun : Bool := false
  /-- Next packet of the service descriptor. -/
  svcNext : Nat := 0
  /-- Status with which its MODE_SET ends once the mode is in force (R427). -/
  st : Nat := 0
  deriving DecidableEq, Repr

/-- An Ethernet message the module sends (R389). -/
structure EthOut where
  /-- TYPE. -/
  type : Nat := 0
  /-- SEQ. -/
  seq : Word := 0
  /-- ACK. -/
  ack : Word := 0
  /-- Replies of a TYPE 3 message. -/
  replies : List Reply := []
  deriving DecidableEq, Repr

/-- Host Interface (chapter 15). -/
structure Hif where
  /-- 1 bit, R405: HIF_STATUS.FW_UP. -/
  fwUp : Bool := false
  /-- 1 bit, R406: HIF_STATUS.READY. -/
  ready : Bool := false
  /-- 1 bit, Table 15-14: HIF_STATUS.WARM_SEEN. -/
  warmSeen : Bool := false
  /-- 16 bits, R393 (log 3): HIF_QERR. -/
  qerr : Half := 0
  /-- 16 × 32 bits, R392 (log 3): HIF_MBX_CMD0 to 15. -/
  mbxCmd : List Word := List.replicate 16 0
  /-- 8 × 32 bits, R392 (log 3): HIF_MBX_REPLY0 to 7. -/
  mbxReply : List Word := List.replicate 8 0
  /-- 1 bit, Table 15-15: HIF_MBX_CTRL.BUSY. -/
  mbxBusy : Bool := false
  /-- 1 bit, Table 15-15: HIF_MBX_CTRL.DONE. -/
  mbxDone : Bool := false
  /-- 16 queues, Table 15-8: submission and completion queues, an unlisted one as at reset. -/
  queues : Table Queue := []
  /-- queue number, R393 (log 3): queue whose turn comes next. -/
  rotation : Nat := 0
  /-- list, R395: commands in flight, in order of acceptance. -/
  flights : List Flight := []
  /-- count, R395 (model): next acceptance number. -/
  nextSeq : Nat := 0
  /-- 48 bits, R388: source MAC of the first command frame accepted. -/
  ethMac : Option (BitVec 48) := none
  /-- 32 bits, R389: SEQ of the last host message accepted. -/
  ethSeq : Option Word := none
  /-- 32 bits, R389 (log 3): SEQ of the next TYPE 3 message. -/
  ethTxSeq : Word := 0
  /-- log, R389 (model): messages sent, newest first. -/
  ethOut : List EthOut := []
  /-- log, R401 (model): replies written, newest first. -/
  replies : List Reply := []
  /-- log, R398 (model): data images written to host addresses. -/
  hostImages : Table (List Byte) := []
  /-- 1 bit, R410 (log 3): the PCI Express link is up. -/
  linkUp : Bool := false
  /-- 32 bits, R409 (model): the data of the last register read. -/
  lastRead : Word := 0
  /-- log, R428 (model): JT-40 reply frames, newest first. -/
  jtOut : List (List Byte) := []
  deriving DecidableEq, Repr

/-- Configuration and commits (R21 to R28). -/
structure Cfg where
  /-- sparse, R402: parameters that take effect outside a commit, away from their defaults. -/
  params : Table Word := []
  /-- set, R21: the draft set. -/
  draft : ConfigSet := {}
  /-- set, R21: the active set. -/
  active : ConfigSet := {}
  /-- set, R171: the outgoing epoch's set. -/
  outgoing : Option ConfigSet := none
  /-- 64 bits, R12, R400: active epoch number. -/
  epoch : Nat := 0
  /-- 64 bits, R12: number given last. -/
  nextEpoch : Nat := 0
  /-- set, R25: the last snapshot past its commit point. -/
  snap : Option Snapshot := none
  /-- list, R25: commits past their commit points, in that order. -/
  commits : List PendingCommit := []
  /-- numbers, R25: first superseded epoch and count of the last latch. -/
  skipped : Option (Nat × Nat) := none
  /-- log, R64, R65: blocks received for paired planes since the commit point of the snapshot that last took effect, oldest first: plane, offset, length. -/
  writes : List (Nat × Nat × Nat) := []
  /-- list, R66: carry-forward copies waiting or running, in plane index order of each swap. -/
  carry : List CarryJob := []
  /-- 1 bit, R66: a carry-forward runs. -/
  carryRun : Bool := false
  /-- byte ranges, R101: damage records by first byte of the buffer. -/
  damage : Table (List (Nat × Nat)) := []
  /-- 32 entries, R67: scene cache. -/
  cache : Table CacheEntry := []
  /-- counts, R70: blocks completed for each Scene ID. -/
  sceneCount : Table Nat := []
  /-- log, R70 (model): scene-complete events, newest first. -/
  sceneEvents : List (Word × Nat) := []
  deriving DecidableEq, Repr

/-- Ray-map slots (chapter 2). -/
structure Rmap where
  /-- 4 × 2 bits, R43: state of each slot. -/
  state : List SlotState := List.replicate 4 SlotState.empty
  /-- 4 × 33,432 bytes, R42: image of each slot, empty when none. -/
  image : List (List Byte) := List.replicate 4 []
  deriving DecidableEq, Repr

/-- Scene Decoder, Capture Encoder and Check-Value Unit (chapter 5). -/
structure Sdec where
  /-- tags, R95: SCENE_LOADs not yet taken. -/
  waiting : List Nat := []
  /-- at most 8, R95: active SCENE_LOADs. -/
  jobs : List LoadJob := []
  /-- number, R95: one more than the acceptance number of the command whose block the parser took last. -/
  turn : Nat := 0
  /-- list, R97: blocks parsed and not complete. -/
  blocks : List BlockRec := []
  /-- 64 entries, R106: decoder error queue. -/
  errs : List ErrEntry := []
  /-- 1 bit, R106: SDEC_ERR_OVERFLOW raised and no room since. -/
  overflowed : Bool := false
  /-- at most 8, R524: capture jobs, the running one first. -/
  cenc : List CencJob := []
  /-- list, R525: THUMB details waiting. -/
  thumbs : List ThumbRec := []
  deriving DecidableEq, Repr

/-- Accord Composer and camera ports (chapter 6). -/
structure Acc where
  /-- 4 ports, R127: camera ports. -/
  ports : List CamPort := List.replicate 4 {}
  /-- 65 targets, R121: composed buffers of each target. -/
  targets : Table Target := []
  /-- one, R137: composition in progress. -/
  comp : Option Composition := none
  /-- 1 bit, R141: no facet of this frame is rendered. -/
  lateFrame : Bool := false
  /-- 1 bit, R141: a frame composition fell due while a late one ran. -/
  queuedFrame : Bool := false
  /-- 1 bit, R141: that composition has missed its deadline. -/
  queuedLate : Bool := false
  /-- frames, R27: camera frame shown, by facet and layer, each as its port × 2³² and its sequence number. -/
  facetCams : Table (Table Nat) := []
  /-- frames, R139: camera frame of each layer not facet-latched, in the same form. -/
  frameCams : Table Nat := []
  /-- 16 records, R148 (log 3): results of the compositions that serve the frame under way. -/
  safety : List SafetyRes := List.replicate 16 {}
  /-- 16 records, R148 (log 3): results of those that serve the next frame. -/
  safetyAhead : List SafetyRes := List.replicate 16 {}
  /-- 16 bits, R137: regions that failed their last check. -/
  safetyFailed : List Nat := []
  /-- 1 bit, Table 20-4: a composition serving the frame under way rewrote a tile of a region. -/
  safetyNew : Bool := false
  /-- 1 bit, Table 20-4: one serving the next frame did. -/
  safetyNewAhead : Bool := false
  deriving DecidableEq, Repr

/-- Ray Engine and governor (chapter 7). -/
structure Ray where
  /-- 1 bit, R174: the engine may render. -/
  running : Bool := false
  /-- one, R172: render in progress. -/
  render : Option Render := none
  /-- facet, R172: facet whose render may start. -/
  nextFacet : Option Nat := none
  /-- 4 buffers, R170: SHOWN of each facet, none when not valid. -/
  shown : List (Option Nat) := List.replicate 4 none
  /-- 4 bits, R243: the render of facet j for its coming start is complete. -/
  done : List Bool := List.replicate 4 false
  /-- 0 to 16, Table 7-9: merge level. -/
  level : Nat := 0
  /-- 0 to 16, Table 7-9: length of the merge list. -/
  listLen : Nat := 0
  /-- 6 bits, Table 7-9: active cluster count. -/
  clusters : Nat := 48
  /-- 4 bits, Table 7-9: throttle step in use. -/
  throttle : Nat := 0
  /-- 2 bits, Table 7-9: facet being or last rendered. -/
  facet : Nat := 0
  /-- 1 bit, Table 7-9: RAY_STATUS.ESCALATED. -/
  escalated : Bool := false
  /-- 32 bits, Table 7-10: RAY_LAST_DONE. -/
  lastDone : Word := 0
  /-- record, R176: last measurements. -/
  meas : Option Measured := none
  /-- frames, R177: consecutive frames whose facet 0 met the low test. -/
  lowRun : Nat := 0
  /-- at most 16, R166: valid note flats. -/
  flats : List FlatRec := []
  /-- 128 × 2 × 16 bits a buffer, R183: zone records MAX and MEAN of each facet buffer. -/
  zoneRec : Table (List (Nat × Nat)) := []
  /-- 4 records, R181: facts of the last render of each facet, for the frame's entry. -/
  recs : List FacetRec := List.replicate 4 {}
  /-- 0 to 2, R263: steps of the LIGHTFIELD and FLAT change still to come. -/
  switchRev : Nat := 0
  deriving DecidableEq, Repr

/-- Blitter (chapter 8). -/
structure Blt where
  /-- at most 64, R191: queued operations, the running one first. -/
  queue : List BlitOp := []
  /-- 1 bit, Table 8-6: an operation is running. -/
  running : Bool := false
  /-- 1 bit, Table 8-6: the running copy is staged. -/
  staging : Bool := false
  /-- 16 slots, R198: clip slots, unlisted ones empty. -/
  clip : Table (Nat × Nat × Nat × Nat) := []
  deriving DecidableEq, Repr

/-- Rotor Controller and Angle Time Base (chapter 9). -/
structure Rot where
  /-- 4 bits, Table 9-3: STATE; Table 9-10 gives 0. -/
  state : RotState := RotState.stopped
  /-- 1/16 rpm, Table 9-4: n₀, the speed at entry to the state. -/
  n0 : Nat := 0
  /-- 32 bits, R10: angle counter. -/
  angle : Word := 0
  /-- 1 bit, R219: ANGLE_VALID. -/
  angleValid : Bool := false
  /-- 1 bit, R219: the counter has run since the last cold episode. -/
  everStarted : Bool := false
  /-- 2 bits, Table 9-10: LOCK. -/
  lock : Lock := Lock.off
  /-- count, R228: consecutive revolutions within ROT_LOCK_ATK. -/
  lockRun : Nat := 0
  /-- count, R228: consecutive revolutions beyond 4 times it. -/
  unlockRun : Nat := 0
  /-- 1 bit, R235: LIT_OK. -/
  litOk : Bool := false
  /-- 1 bit, R223: RAMP. -/
  ramp : Bool := false
  /-- 1 bit, Table 9-10: SENSORLESS. -/
  sensorless : Bool := false
  /-- 20 bits, Table 9-8: ROT_SPEED, 1/16 rpm. -/
  speed16 : Nat := 0
  /-- rpm, R223: speed setpoint in force. -/
  setpoint : Nat := 3600
  /-- ppm × 65,536, R227: speed trim. -/
  trim : Int := 0
  /-- 16 bits signed, R227: ROT_PHASE_ERR. -/
  phaseErr : Int := 0
  /-- 9 bits, Table 9-11: ROT_FAULT_CAUSE. -/
  cause : BitVec 9 := 0
  /-- 32 bits, R221: ROT_SNAP_ANGLE. -/
  snapAngle : Word := 0
  /-- 96 bits, R221: ROT_SNAP_TIME. -/
  snapTime : Nat := 0
  /-- 2 bits, R215 (log 3): last levels of A and B. -/
  ab : Nat := 0
  /-- count, R236: glitches since the last index edge. -/
  glitches : Nat := 0
  /-- count, R217: encoder counts since the last index edge. -/
  counts : Nat := 0
  /-- ATK, R217: difference still to be removed by the tracking loop. -/
  corr : Int := 0
  /-- 16 bits, R220: ROT_INDEX_ATK in force. -/
  indexAtk : Nat := 0
  /-- 1 bit, R219: the next index edge may start the counter: the bridge has left the off state, or a reset episode has
  ended, and the counter has not started since. -/
  armed : Bool := true
  /-- 1 bit, Table 9-4: an index edge has been seen since entry to the state. -/
  indexSeen : Bool := false
  /-- names, R216: the scheduled angle events that have fired in this revolution. -/
  fired : List Nat := []
  /-- count, R236: net counts opposite to ROT_DIR. -/
  reverse : Nat := 0
  /-- 1 bit, R220: encoder loss is declared. -/
  encLost : Bool := false
  /-- request, R231: start or stop request in force. -/
  req : RotReq := RotReq.none
  /-- 1 bit, R214, Table 9-4: the phases are shorted. -/
  shorting : Bool := false
  /-- 1 bit, R214: the hardware overspeed trip shorts the phases. -/
  hwTrip : Bool := false
  /-- 1 bit, R239: ROT_DIR in force. -/
  dir : Nat := 0
  /-- 5 bits, R239: ROT_POLE_PAIRS in force. -/
  polePairs : Nat := 4
  /-- 16 bits, R239: ROT_CURRENT_MA in force. -/
  currentMa : Nat := 8000
  /-- 8 bits, R239: ROT_SPINUP_TIMEOUT_S in force. -/
  spinTimeout : Nat := 12
  /-- 16 bits, R239: ROT_BRAKE_RPMS of the brake in progress. -/
  brakeRate : Nat := 600
  /-- 16 bits, R239: ROT_ACCEL_RPMS of the ramp in progress. -/
  accelRate : Nat := 60
  /-- mW, R223: the motor power limit of a ramp up in this revolution while LIT_OK is 1. -/
  motorLimitMw : Nat := 60000
  /-- 1 bit, R223: LIT_OK held throughout the revolution so far. -/
  litRev : Bool := false
  /-- 96 bits, R227: time t_r of the last revolution start. -/
  startTime : Nat := 0
  /-- 1 bit, Table 9-4: the 500 ms of phase shorting runs. -/
  shortMs : Bool := false
  deriving DecidableEq, Repr

/-- Scan-out Engine (chapter 10). -/
structure Sco where
  /-- 2 bits, Table 10-7: FACET. -/
  facet : Nat := 0
  /-- 1 bit, Table 10-7: SCANNING. -/
  scanning : Bool := false
  /-- 1 bit, Table 10-7: REPEAT. -/
  repeating : Bool := false
  /-- 1 bit, Table 10-7: DARK. -/
  isDark : Bool := false
  /-- 1 bit, Table 10-7: FLAT timing in force. -/
  flat : Bool := false
  /-- 1 bit, Table 10-7: TC_ACTIVE. -/
  tcActive : Bool := false
  /-- 5 bits, Table 10-7: ROWS_AHEAD. -/
  rowsAhead : Nat := 0
  /-- ns, R253: latency tolerance stated for the present slot. -/
  tolerance : Nat := 0
  /-- store, R252: head store of the facet being rendered. -/
  headNew : Option HeadStore := none
  /-- store, R252: head store of SHOWN[j], or of the new facet once its scan has begun. -/
  headShown : Option HeadStore := none
  /-- store, R252: head store of SHOWN[j − 1]. -/
  headPrev : Option HeadStore := none
  /-- 1 bit, R283, R352: something has kept the awaited facet from being shown in its start window. -/
  barred : Bool := false
  /-- 32 bits, Table 10-8: SCO_LAST_START. -/
  lastStart : Word := 0
  /-- 0 to 4,320, R245: row slot in progress or next. -/
  row : Nat := 0
  /-- 1 bit, R245: a slot is in progress. -/
  inSlot : Bool := false
  /-- buffer, R252: buffer being scanned. -/
  buf : Option Nat := none
  /-- buffer, R249: buffer shown in the facet before. -/
  prevBuf : Option Nat := none
  /-- 1 bit, R254: an underrun has been raised in this facet. -/
  underrunSeen : Bool := false
  /-- facet, R243: facet in its start window, not yet started. -/
  awaiting : Option Nat := none
  /-- 4 records, R265: facet records of the frame. -/
  frame : List FacetRec := List.replicate 4 {}
  /-- 4 bits, R259: zone rows k, each with row k + 4, written in FLAT since FLAT took effect. -/
  written : List Bool := List.replicate 4 false
  /-- 12 bits, R243: offset of the present scan's start. -/
  startOfs : Nat := 0
  /-- set, R171, R260: set of the light-field frame being shown. -/
  frameSet : ConfigSet := {}
  /-- 1 bit, R283: facets are dark for a LINK_TRAIN. -/
  linkDark : Bool := false
  deriving DecidableEq, Repr

/-- Panel Link Transmitters (chapter 11). -/
structure Plt where
  /-- 2 bits, Table 11-12: STATE. -/
  state : LaneState := LaneState.l3d
  /-- 1 bit, Table 11-12: RATE. -/
  rate27 : Bool := false
  /-- 1 bit, Table 11-12: TRAINED. -/
  trained : Bool := false
  /-- 1 bit, Table 11-12: LOOP_BUSY. -/
  loopBusy : Bool := false
  /-- 256 bits, R282: PLT_TRAIN_FAIL. -/
  trainFail : BitVec 256 := 0
  /-- 256 bits, R284: PLT_LOCK_LOST. -/
  lockLost : BitVec 256 := 0
  /-- 256 bits, R286: PLT_LOOP_FAIL. -/
  loopFail : BitVec 256 := 0
  /-- 3 bits, R551: PLT_SWING in force. -/
  swing : Nat := 4
  /-- 4 bits, R550: PLT_DEEMPH in force. -/
  deemph : Nat := 6
  /-- 256 bits, R285: PLT_POLARITY in force. -/
  polarity : BitVec 256 := 0
  /-- mode, ppm, kHz, R506: spread spectrum in force. -/
  ssc : Nat × Nat × Nat := (0, 5000, 31)
  /-- 0 none, 1 power-on, 2 LINK_TRAIN, 3 rate change, 4 warm, 5 loopback, R281: what the training in progress serves. -/
  trainFor : Nat := 0
  /-- 4 bits, R297: PLT_TRAIN_TRIES in force: the attempts of a training. -/
  tries : Nat := 3
  /-- 1 bit, R297: PLT_BLANK_L1S in force, taken at a facet start. -/
  blankL1s : Bool := true
  /-- lanes and bits, R286: what a far-end loopback has found, while the training that ends it runs. -/
  loopRes : Option (BitVec 256 × Nat) := none
  /-- tag, R283: a LINK_TRAIN waiting to begin. -/
  trainWait : Option Nat := none
  /-- tag, R286: LINK_LOOPBACK in progress. -/
  loopTag : Option Nat := none
  /-- log, R270 (model): the packets of the present row slot, training or loopback, one for each lane that sends. -/
  packets : List LinkFrame := []
  /-- count, R281, R286 (model): times those packets are sent, one each 1 µs; 1 in a row slot. -/
  reps : Nat := 1
  /-- 256 × 10 bits, R254 (log 3): value each lane sent last. -/
  lastVal : List Nat := List.replicate 256 0
  deriving DecidableEq, Repr

/-- Gate-Control Links (chapter 11). -/
structure Gcl where
  /-- 32 bits, Table 11-13: GCL_FAIL_MASK. -/
  failMask : Word := 0
  /-- 32 entries, R294: host exchanges queued. -/
  host : List Exchange := []
  /-- list, R293: the module's own exchanges queued. -/
  own : List Exchange := []
  /-- one, R292: exchange in progress. -/
  cur : Option Exchange := none
  /-- cursor, R284: device polled next on each link. -/
  pollLink : List Nat := List.replicate 32 0
  /-- 32 × 1 bit, R284: the link has been polled since the last drum facet began. -/
  polled : List Bool := List.replicate 32 false
  /-- 1 bit, R295: GCL_VCOM_CODE is to be written before facet 0. -/
  vcomDue : Bool := false
  /-- 4 × 6 bits, R507: gate-control clock phases in force. -/
  phases : List Nat := List.replicate 4 0
  /-- log, R287 (model): frames sent, newest first. -/
  frames : List LinkFrame := []
  deriving DecidableEq, Repr

/-- Panel power (chapter 12). -/
structure Pnl where
  /-- 2 bits, Table 12-12: STATE. -/
  state : PnlState := PnlState.off
  /-- 2 × 2 bits, R306: class of each loop. -/
  crk : List CrkClass := [CrkClass.ok, CrkClass.ok]
  /-- 2 counts, R306: consecutive samples not OK. -/
  crkRun : List Nat := [0, 0]
  /-- 2 × 16 bits, Table 12-11: CRK_OHM. -/
  crkOhm : List Nat := [0, 0]
  /-- 2 bits, R307: tripped since FAULT was last cleared. -/
  crkTripped : List Bool := [false, false]
  /-- 4 bits, Table 12-13: PNL_FAULT_CAUSE. -/
  cause : BitVec 4 := 0
  /-- 0 to 9, R302: step of power-on in progress. -/
  step : Nat := 0
  /-- 1 bit, R302: a READY wait runs. -/
  waitReady : Bool := false
  /-- 1 bit, R302: the 2 ms of a step runs. -/
  delay : Bool := false
  /-- 1 bit, R302: power-on waits for a crack loop. -/
  waitCrack : Bool := false
  /-- 0 to 8, R304: discharge steps done. -/
  dischStep : Nat := 0
  /-- 10 bits, R326: PNL_DISCH_LEVEL of the discharge in progress. -/
  dischLevel : Nat := 512
  /-- 1 bit, R305: a power-on waits for the discharge to end. -/
  powerAfter : Bool := false
  /-- tags, R570: PANEL_POWER commands, the acting one first. -/
  cmds : List Nat := []
  /-- 1 bit, R300: AUX_PNL is on. -/
  auxPnl : Bool := false
  /-- 5 bits, Table 12-1: RAILS last written. -/
  rails : Nat := 0
  deriving DecidableEq, Repr

/-- Backlight zones (chapter 12). -/
structure Bl where
  /-- 7 bits, Table 12-14: CAP. -/
  cap : Nat := 64
  /-- 1 bit, Table 12-14: CAPPING. -/
  capping : Bool := false
  /-- 4 bits, Table 12-14: throttle step in use. -/
  throttle : Nat := 0
  /-- 128 bits, R313: BL_ZONE_FAULT. -/
  fault : BitVec 128 := 0
  /-- 128 bits, Table 20-4: zones newly recorded in this frame. -/
  faultNew : BitVec 128 := 0
  /-- 8 counts, R255, R259 (model): one more than the quarter revolution of the last pulse of each zone row. -/
  pulsed : List Nat := List.replicate 8 0
  /-- 8 angles, R255 (model): E + ZONE_ON_ATK of the last pulse of each zone row, in its revolution. -/
  pulseEnd : List Nat := List.replicate 8 0
  /-- per zone, R313: last mid-pulse verdict and its run. -/
  verdict : Table (SinkFault × Nat) := []
  /-- 8 bits, R255: zone rows in a pulse. -/
  lit : List Bool := List.replicate 8 false
  /-- 128 × mA, R310: current of each zone in its pulse. -/
  current : List Nat := List.replicate 128 0
  /-- 128 × 12 bits, R476: DAC code of each zone in its pulse. -/
  dac : List Nat := List.replicate 128 0
  /-- 128 bits, R451: sinks switched on. -/
  sinkOn : BitVec 128 := 0
  /-- 8 × mV, R309 (log 3): BLS output settings. -/
  vset : List Nat := List.replicate 8 40000
  /-- mW, R312: emitter power of the last revolution. -/
  revPower : Nat := 0
  deriving DecidableEq, Repr

/-- Flysheet Driver (chapter 12). -/
structure Fly where
  /-- 3 bits, Table 12-15: STATE. -/
  state : FlyState := FlyState.idle
  /-- 3 bits, Table 12-15: BAND. -/
  band : Nat := 0
  /-- 3 bits, R320: the latched band of the update that is requested. -/
  reqBand : Nat := 0
  /-- 1 bit, R319: PENDING: a merged request waits. -/
  pend : Bool := false
  /-- 1 bit, R319: an update is requested. -/
  requested : Bool := false
  /-- tags, R319: FLYSHEET_UPDATE commands of the pending request. -/
  tags : List Nat := []
  /-- 6 × 1 bit, R319: causes of the requests merged into the pending update. -/
  causes : List FlyCause := []
  /-- 1 bit, Table 12-15: TORN_FOUND. -/
  torn : Bool := false
  /-- one, R322: update under way. -/
  cur : Option FlyUpdate := none
  /-- 2 × 2,048 entries, R321: Flysheet journal in NOR, newest first. -/
  journal : List JEntry := []
  /-- 0 to 4,095, R321: next journal slot. -/
  slot : Nat := 0
  /-- 32 bits, Table 12-11: FLY_IMAGE_LO. -/
  imageLo : Word := 0
  /-- 32 bits, Table 12-11: FLY_IMAGE_HI. -/
  imageHi : Word := 0
  /-- log, R315 (model): frames sent to the driver, newest first. -/
  sent : List (List Byte) := []
  deriving DecidableEq, Repr

/-- A request of stacked memory (R333): its requester, granules and deadline, and the place that its address names. -/
structure MemReq where
  /-- ID of Table 13-3. -/
  req : Nat := 0
  /-- First byte. -/
  addr : Nat := 0
  /-- Bytes, 64 to 256. -/
  len : Nat := 64
  /-- A write. -/
  write : Bool := false
  /-- Deadline in ns (R335). -/
  deadline : Nat := 0
  /-- Pseudo-channel (R331). -/
  pc : Nat := 0
  /-- Bank number (R332). -/
  bank : Nat := 0
  /-- Row (R332). -/
  row : Nat := 0
  deriving DecidableEq, Repr

/-- A command on a channel (R347): activate of a row, precharge, the column commands of a request to a row, refresh of a
bank, refresh management. -/
inductive MemCmd where
  | act (row : Nat)
  | pre
  | column (row : Nat) (write : Bool)
  | refresh
  | rfm
  deriving DecidableEq, Repr

/-- Stacked memory and its controller (chapter 13). -/
structure Mem where
  /-- 128 GiB, R330: bytes that differ from what an unlisted address reads as (log 7). -/
  cells : List Host.Cell := []
  /-- ranges, R353, R71: ranges of undefined content: first, length, stamp. -/
  undef : List (Nat × Nat × Nat) := [(0, 0x2000000000, 0)]
  /-- granules, R344: poisoned granules. -/
  poison : List Nat := []
  /-- 2 bits, Table 13-11: POINT. -/
  point : Point := Point.off
  /-- points, R350: frequency change in progress: new and old point. -/
  changing : Option (Point × Point) := none
  /-- point, R352: point required after the running change, or at the next window. -/
  required : Option Point := none
  /-- 3 bits, R337: PRESSURE. -/
  pressure : Nat := 0
  /-- count, R337: consecutive quiet intervals. -/
  relax : Nat := 0
  /-- 1 bit, R339: HOT. -/
  hot : Bool := false
  /-- 64 bits, R348: MEM_CHAN_FAIL. -/
  chanFail : BitVec 64 := 0
  /-- channels, R348: channels in retraining. -/
  retraining : List Nat := []
  /-- counts, R347: consecutive attempts of each channel. -/
  retries : Table Nat := []
  /-- 64 × 64 commands, R347: the retry buffer of each channel, newest first: bank and command. -/
  buffer : Table (List (Nat × MemCmd)) := []
  /-- 128 × 128 entries, R333: the requests in the pools, oldest first. -/
  pool : List MemReq := []
  /-- list, R333, R350: requests that wait at their requesters for room in a pool, or for the end of a change. -/
  held : List MemReq := []
  /-- bytes, R335: bytes served in this interval, by 16 × pseudo-channel + account. -/
  served : Table Nat := []
  /-- counts, R335: hits in a row served in each bank. -/
  hits : Table Nat := []
  /-- banks, R336: banks with a row of hint NONE that closes when no queued request hits it. -/
  closeIdle : List Nat := []
  /-- 1 bit, R337: SCO has stated URGENT in this interval. -/
  urgentSeen : Bool := false
  /-- addresses, R344: the next granule of each scrub that follows an uncorrectable error, the running one first. -/
  scrub : List Nat := []
  /-- 1 bit, R340: the running frequency change verifies. -/
  verifying : Bool := false
  /-- 1 bit, R356: something has failed the running change. -/
  changeBad : Bool := false
  /-- 40 bits, Table 13-10: MEM_UE_ADDR. -/
  ueAddr : Nat := 0
  /-- 32 bits, Table 13-13: MEM_UE_INFO. -/
  ueInfo : Word := 0
  /-- address, R345 (log 3): next granule of the patrol scrub. -/
  patrol : Nat := 0
  /-- counts, R341: activates since the last refresh, by bank. -/
  acts : Table Nat := []
  /-- 32 entries a bank, R342: activate-count tables. -/
  actTable : Table (List (Nat × Nat)) := []
  /-- banks, R341: banks whose weighted requests wait for a refresh. -/
  bankWait : List Nat := []
  /-- rows, R336: open row of each bank. -/
  openRow : Table Nat := []
  /-- counts, R339: times a bank's refresh has fallen due and has not been issued; one more than its postponements. -/
  due : Table Nat := []
  /-- bank, R339: bank refreshed next, by pseudo-channel. -/
  refreshBank : Table Nat := []
  /-- bank, R335: rot[p]. -/
  rotp : Table Nat := []
  /-- 4 × 16 bits, R463: MS_TEMP. -/
  temps : List Int := [0, 0, 0, 0]
  /-- 1 bit, R349: the retention registers hold the training of all points. -/
  trained : Bool := false
  /-- 1 bit, R354: the memory is held in reset. -/
  resetsHeld : Bool := true
  /-- 1 bit, Table 20-3: a frequency change ran in this frame. -/
  freqFrame : Bool := false
  deriving DecidableEq, Repr

/-- Time Unit (chapter 14). -/
structure Tu where
  /-- 48 + 32 + 16 + 24 bits, R360: time in units of 2⁻⁴⁰ ns. -/
  time : Nat := 0
  /-- 96 bits, R361 (log 3): words latched by the last read of TU_TIME0. -/
  latch : Nat := 0
  /-- 1 bit, R362: RUNNING. -/
  running : Bool := false
  /-- 2 bits, Table 14-3: STATE. -/
  state : TuState := TuState.freerun
  /-- 1 bit, R373: TIME_SET. -/
  timeSet : Bool := false
  /-- 1 bit, R370: STEP_PENDING. -/
  pendStep : Bool := false
  /-- 1 bit, R371: SLEWING. -/
  slewing : Bool := false
  /-- 10⁻⁹ ns, R371: offset still to be slewed. -/
  slewLeft : Int := 0
  /-- ppb, R371: TU_SLEW_PPB of the slew in progress. -/
  slewPpb : Nat := 0
  /-- 8 bits, R374: TSEQ. -/
  tseq : Nat := 0
  /-- 32 bits signed, Table 14-8: TU_OFFSET_NS. -/
  offset : Int := 0
  /-- 32 bits signed, Table 14-8: TU_FREQ_PPB. -/
  freqPpb : Int := 0
  /-- 64 bits signed, Table 14-8: TU_PENDING_STEP. -/
  pendOff : Int := 0
  /-- count, R367: consecutive offsets within TU_LOCK_NS. -/
  lockRun : Nat := 0
  /-- count, R367: consecutive offsets beyond 4 times it. -/
  unlockRun : Nat := 0
  /-- offsets, R370: consecutive outliers, newest first. -/
  outliers : List Int := []
  /-- offsets, R373: first offsets of the first master, newest first. -/
  firstOffs : List Int := []
  /-- list, R364: masters heard. -/
  masters : List Gm := []
  /-- one, R364: master in use. -/
  master : Option Gm := none
  /-- 64 bits, R372: grandmasterIdentity last in use since the cold episode. -/
  lastGm : Option Dword := none
  /-- 64 bits, R370: grandmaster that is no longer followed. -/
  refused : Option Dword := none
  /-- 1 bit, R371: the step was declined. -/
  declined : Bool := false
  /-- 1/65,536 ns, R367: meanPathDelay. -/
  meanPath : Int := 0
  /-- one, R367: two-step Sync that waits for its Follow_Up. -/
  syncPend : Option PtpMsg := none
  /-- record, R367: t1, correction and t2 of the last Sync. -/
  lastSync : Option (Nat × Int × Nat) := none
  /-- record, R366: sequence and egress time of the last request. -/
  reqSent : Option (Nat × Nat) := none
  /-- 16 bits, R366 (log 3): sequence number of the next request. -/
  reqSeq : Nat := 0
  /-- ppb, R368: rate adjustments with their times, newest first. -/
  rates : List (Nat × Int) := []
  /-- log, R366 (model): PTP messages sent, newest first. -/
  ptpOut : List PtpMsg := []
  /-- record, R374: time before, time after and offset of a step in this frame. -/
  stepRec : Option (Nat × Nat × Int) := none
  /-- 24 outputs, R375: trigger outputs, unlisted ones off. -/
  trig : Table Trigger := []
  /-- 16 inputs, R380 (log 3): capture inputs, unlisted ones disabled. -/
  caps : Table CapCfg := []
  /-- 256 entries, R380: capture FIFO, oldest first. -/
  fifo : List CapEntry := []
  /-- 1 bit, R505: the counter runs from the bypass clock. -/
  bypassed : Bool := false
  deriving DecidableEq, Repr

/-- The levels that the status balls hold over a warm episode (R451, R555). -/
structure HeldPins where
  /-- FAULT_B driven low. -/
  fault : Bool := false
  /-- STAT_READY high. -/
  ready : Bool := false
  /-- SAGW_B driven low. -/
  sagw : Bool := false
  /-- INT_B driven low. -/
  int : Bool := false
  deriving DecidableEq, Repr

/-- Power, reset and Coast (chapter 17). -/
structure Pwr where
  /-- 4 levels, R451, R555: status balls held from the start of a warm episode. -/
  held : Option HeldPins := none
  /-- 16 bits, 10 mV, Table 17-9: PWR_VIN. -/
  vin : Nat := 0
  /-- 16 bits, 10 mV, Table 17-9: PWR_HUB. -/
  hub : Nat := 0
  /-- 1 bit, Table 17-10: INPUT_OK. -/
  inputOk : Bool := false
  /-- 1 bit, Table 17-10: SAGW. -/
  sagw : Bool := false
  /-- 1 bit, Table 17-10: OV. -/
  ov : Bool := false
  /-- 24 bits, mJ, R439: PWR_COAST_EST. -/
  est : Nat := 0
  /-- 3 bits, Table 17-11: STEP. -/
  coastStep : Nat := 0
  /-- 1 bit, Table 17-11: FLUSH_DONE. -/
  flushDone : Bool := false
  /-- 1 bit, Table 17-11: FLY_DONE. -/
  flyDone : Bool := false
  /-- 1 bit, Table 17-11: FLY_SKIPPED. -/
  flySkipped : Bool := false
  /-- 1 bit, R445: the return condition held; steps not begun do not start. -/
  returning : Bool := false
  /-- 1 bit, Table 17-11: RETURN_PENDING. -/
  returnPend : Bool := false
  /-- 5 × 32 bits, R444: estimate at the start of each step. -/
  stepEst : List Nat := [0, 0, 0, 0, 0]
  /-- steps, R444: steps that ended. -/
  stepsEnded : List Nat := []
  /-- mode, R445: mode at COAST entry. -/
  coastMode : Mode := Mode.parked
  /-- 1 bit, R443: the drum was below 1,200 rpm at COAST entry. -/
  coastSlow : Bool := false
  /-- 1 bit, R448: power-on reset asserted. -/
  porAsserted : Bool := true
  /-- 1 bit, R449: RESET_B asserted. -/
  resetB : Bool := false
  /-- 1 bit, R450: a reset episode is in progress. -/
  episode : Bool := true
  /-- 1 bit, Table 17-12: COLD. -/
  cold : Bool := true
  /-- 1 bit, Table 17-12: POR_SEEN. -/
  porSeen : Bool := true
  /-- 1 bit, Table 17-12: RESET_B_SEEN. -/
  resetBSeen : Bool := false
  /-- 1 bit, Table 17-12: SAGR. -/
  sagr : Bool := false
  /-- 4 bits, Table 17-12: FAILED_DOMAIN. -/
  failedDomain : Nat := 0
  /-- 1 bit, Table 17-12: PREV_FAILED. -/
  prevFailed : Bool := false
  /-- 1 bit, Table 17-12: FALLBACK. -/
  fallback : Bool := false
  /-- 24 bits, R400 (log 3): BOOT of the start record. -/
  boot : Nat := 0
  /-- 4 bits, R456 (log 3): START_FAILS of the start record. -/
  startFails : Nat := 0
  /-- 0 to 8, R453: clock domains released. -/
  released : Nat := 0
  /-- 1 bit, R457: TIME was released at the failed start. -/
  timeWasUp : Bool := false
  /-- 1 bit, R456: the start has failed. -/
  startFailed : Bool := false
  /-- 1 bit, R458 (log 3): slot of the running main image. -/
  runningSlot : Nat := 0
  /-- 1 bit, R423 (log 3): slot selected by FW_ACTIVATE. -/
  selected : Nat := 0
  /-- 2 × 16 MiB, R458 (log 3): main images and whether they verify. -/
  slots : List (List Byte × Bool) := [([], true), ([], true)]
  /-- record, R423: FW_STAGE in progress: tag, slot and image. -/
  fwTag : Option (Nat × Nat × List Byte) := none
  /-- 4 × 1 MiB, R426 (log 3): service descriptors. -/
  svcSlots : List (List Byte) := [[], [], [], []]
  /-- slot, R427 (log 3): selected service slot. -/
  svcSel : Option Nat := none
  /-- 1 bit, R460: FW_SERVICE_AUTOSTART of the start record. -/
  autostart : Nat := 0
  /-- 2 bits, R512: CLK_REF_SEL of the start record. -/
  refSel : Nat := 0
  /-- mode, R455: mode at the start of a warm episode. -/
  warmMode : Mode := Mode.parked
  /-- list, R406: commands in flight at the start of a warm episode. -/
  aborted : List Flight := []
  /-- 3 bits, R554: AUX_PNL, AUX_ENC and AUX_IO switched off by overload. -/
  railTrip : List Bool := [false, false, false]
  /-- 1 bit, R553: AUX_ENC on. -/
  auxEnc : Bool := true
  /-- 1 bit, R553: AUX_IO on. -/
  auxIo : Bool := true
  /-- places, R530: segments of the log without a valid trailer, by their place from the oldest. -/
  torn : List Nat := []
  deriving DecidableEq, Repr

/-- Mode and conditions (chapter 22). -/
structure Cond where
  /-- 3 bits, R14 (log 3): operating mode. -/
  mode : Mode := Mode.parked
  /-- 1 bit, R559: COAST. -/
  coast : Bool := false
  /-- 1 bit, R559: THERMAL_SHUTDOWN. -/
  shutdown : Bool := false
  /-- 1 bit, R559: FAULT. -/
  fault : Bool := false
  /-- 1 bit, R559: BIVOUAC. -/
  bivouac : Bool := false
  /-- one, R564: entry sequence in progress. -/
  seq : Option EntrySeq := none
  /-- 1 bit, R560: an entry to PARKED follows the one in progress. -/
  parkNext : Bool := false
  /-- 1 bit, R427: the service is shown flat for want of a READY slot. -/
  svcFlat : Bool := false
  /-- 1 bit, Table 22-3: the service has LIGHTFIELD timing. -/
  svcTiming : Bool := false
  /-- 4 × 32 bits, Table 16-12: BL_ZONE_EN as the descriptor left it. -/
  svcZone : List Word := []
  deriving DecidableEq, Repr

/-- Thermal Unit (chapter 18). -/
structure Therm where
  /-- 22 inputs, R463: temperature inputs TS0 to TS15, DS0 to DS5. -/
  ins : List TempIn := List.replicate 22 {}
  /-- 4 bits, R468: throttle step s. -/
  step : Nat := 0
  /-- ms, R468: relax. -/
  relax : Nat := 0
  /-- 1 bit, Table 18-8: REARMED. -/
  rearmed : Bool := false
  /-- 320 slots, R472: thermal log in NOR, newest first. -/
  log : List LogEntry := []
  /-- 32 bits, R472 (log 3): SEQ of the last log entry. -/
  logSeq : Nat := 0
  /-- one, R481: CALIBRATE in progress. -/
  calRun : Option CalRun := none
  /-- zone, R481: zone carried by a spare. -/
  spareZone : Option Nat := none
  /-- tags, R484: CAL_LOADs that wait for CALIBRATE. -/
  calWait : List Nat := []
  /-- 32 bits, R478: TIME_S of the last measurement of the values in force. -/
  calTime : Option Nat := none
  /-- inputs, R482: inputs whose readings are held. -/
  heldRead : List Nat := []
  deriving DecidableEq, Repr

/-- Interrupt Controller (chapter 19). -/
structure Intc where
  /-- 256 × 8 bits, Table 19-9: host routes, unlisted ones 0. -/
  hroute : Table Byte := []
  /-- 256 routes, R495 (log 3): core routes set by the firmware. -/
  croute : Table Nat := []
  /-- 256 bits, R489: edge sources pending for the host. -/
  hpend : List Nat := []
  /-- 256 bits, R489: edge sources pending for a core. -/
  cpend : List Nat := []
  /-- 256 bits, R489: level sources claimed by the host and not completed. -/
  hclaimed : List Nat := []
  /-- 256 bits, R489: level sources claimed by a core and not completed. -/
  cclaimed : List Nat := []
  /-- 16 vectors, R490: source active at each vector. -/
  active : Table Nat := []
  /-- 4 cores, R495: source active at each core. -/
  cactive : Table Nat := []
  /-- 2 × 32 bits, Table 19-8: INTC_EXT_CFG. -/
  extCfg : List Word := [0x400, 0x400]
  /-- 2 bits, R496 (log 3): filtered level of each line. -/
  gpio : List Bool := [false, false]
  /-- 1 bit, Table 19-7: WOKE. -/
  woke : Bool := false
  /-- 1 bit, R497: the CORE domain sleeps. -/
  asleep : Bool := false
  /-- 256 bits, R497: events recorded by the wake latch. -/
  wakeLatch : List Nat := []
  /-- 32 bits, R493 (log 8): MSI-X vector masks. -/
  msixMask : Word := 0xFFFFFFFF
  /-- 1 bit, R493 (log 8): MSI-X function mask. -/
  fnMask : Bool := false
  /-- 32 bits, R493 (log 8): pending bit array. -/
  pba : Word := 0
  /-- 16 vectors, R493 (model): vectors whose message condition held at the last look. -/
  ready : List Nat := []
  /-- log, R493 (model): messages sent, by vector, newest first. -/
  msix : List Nat := []
  deriving DecidableEq, Repr

/-- Clock Unit (chapter 19). -/
structure Clk where
  /-- 1 bit, Table 19-11: REF_OK. -/
  refOk : Bool := false
  /-- 1 bit, Table 19-11: REF_FALLBACK. -/
  refFallback : Bool := false
  /-- 2 bits, R500: reference in use. -/
  refUse : Nat := 0
  /-- 13 loops, Table 19-11: core, memory, lane and PTP PLLs, aligners 0 to 7, then the PCI Express PHY PLL. -/
  plls : List Plle := List.replicate 13 {}
  /-- 1 bit, Table 19-11: AOM_LOCK. -/
  aomLock : Bool := false
  /-- 8 × 6 bits, R507: present phase of each aligner. -/
  phase : List Nat := List.replicate 8 0
  /-- 1 bit, R510: clock outputs are driven. -/
  outputsOn : Bool := false
  deriving DecidableEq, Repr

/-- Sillage Recorder (chapter 20). -/
structure Sil where
  /-- list, R350: bytes that an entry has yet to write to the ring, held on the die while an operating point changes:
  address and bytes. -/
  held : List (Nat × List Byte) := []
  /-- 1 bit, Table 20-14: RUNNING. -/
  running : Bool := false
  /-- 1 bit, R516: no record is written after a COAST or PARKED seal. -/
  stopped : Bool := false
  /-- one, R526: flush in progress. -/
  flush : Option FlushJob := none
  /-- 1 bit, Table 20-14: CUT_FOUND. -/
  cutFound : Bool := false
  /-- 32 bits, Table 20-13: SIL_RSEQ. -/
  rseq : Nat := 0
  /-- 64-byte units, Table 20-13: SIL_REC_HEAD. -/
  recHead : Nat := 0
  /-- 64-byte units, Table 20-13: SIL_THUMB_HEAD. -/
  thumbHead : Nat := 0x100000
  /-- 32 bits, Table 20-13: SIL_FLUSHED_RSEQ. -/
  flushed : Nat := 0
  /-- 32 bits, Table 20-13: SIL_SEAL_SEQ. -/
  sealSeq : Nat := 0
  /-- 32 bytes, R521: chain value C, empty before the ring starts. -/
  chain : List Byte := []
  /-- ring, R516: records of the ring not yet flushed, newest first. -/
  records : List SilRec := []
  /-- thumbnail ring, R526: streams of complete THUMB details, by the RSEQ of the detail. -/
  kept : Table (List Byte) := []
  /-- list, Table 20-4: SILLAGE_MARKs waiting. -/
  marks : List Marked := []
  /-- 1 bit, R522: a periodic seal is due after the records of the frame. -/
  sealNext : Bool := false
  /-- 1 bit, Table 20-4: the next frame is the first after a seal. -/
  afterSeal : Bool := true
  /-- times, R524: time of the last capture of each region. -/
  lastCap : Table Nat := []
  /-- 7,680 MiB, Table 20-6 (log 3): Sillage log in NAND, newest segment first. -/
  nand : List (List Byte) := []
  /-- 32 bits, Table 20-7 (log 3): SEG_SEQ of the last segment. -/
  segSeq : Nat := 0
  /-- 512 slots, R532 (log 3): black-box slots in NAND, newest first. -/
  bbSlots : List (List Byte) := []
  /-- 32 bits, R532 (log 3): sequence of the last slot. -/
  bbSeq : Nat := 0
  /-- 1 bit, Table 20-3: the next frame entry is the first after a warm episode. -/
  warmFrame : Bool := false
  /-- 64 bits, R141: epoch shown in the frame. -/
  frameEpoch : Nat := 0
  /-- 1 bit, Table 12-4: nothing is left unflushed. -/
  flushedAll : Bool := false
  /-- ns, R522 (model): free-running time at the last seal. -/
  freeNs : Nat := 0
  /-- mode, Table 20-2: mode at the frame start. -/
  frameMode : Mode := Mode.parked
  /-- 1 bit, Table 20-3: a core was halted in the frame. -/
  frameHalt : Bool := false
  /-- 1 bit, Table 20-3: the debug lock was open in the frame. -/
  frameOpen : Bool := false
  /-- 16 bits, Table 20-2: revolution of the frame. -/
  frameRev : Nat := 0
  /-- 1 bit, R516: the frame in progress began while the Recorder was stopped. -/
  skipFrame : Bool := false
  deriving DecidableEq, Repr

/-- Black-box event ring (chapter 20). -/
structure Bb where
  /-- 4,096 × 32 bytes, R531: entries, newest first. -/
  ring : List BbEntry := []
  /-- 32 bits, R531: SEQ of the last entry. -/
  seq : Nat := 0
  /-- 12 bits, Table 20-13: BB_HEAD. -/
  head : Nat := 0
  /-- 1 bit, Table 20-13: WRAPPED. -/
  wrapped : Bool := false
  /-- 1 bit, R532: a FAULT flush was made within the last second. -/
  second : Bool := false
  /-- 1 bit, R532: a further FAULT setting waits for the second's end. -/
  again : Bool := false
  deriving DecidableEq, Repr

/-- Debug Port (chapter 20). -/
structure Dbg where
  /-- 1 bit, R533: UNLOCKED. -/
  unlocked : Bool := false
  /-- 4 bits, R534: HALTED. -/
  halted : BitVec 4 := 0
  /-- number, R424: nonce that awaits its one attempt. -/
  nonce : Option Nat := none
  /-- count, R424 (model): nonces given. -/
  nonces : Nat := 0
  /-- 1 bit, R533: HOLDOFF. -/
  holdoff : Bool := false
  /-- words, R534 (log 3): breakpoints and watchpoints by space 2 address. -/
  brk : Table Word := []
  /-- bits, Table 20-10 (model): data register last captured or shifted. -/
  dr : List Bool := []
  /-- 8 bits, Table 20-10: TAP instruction. -/
  ir : Byte := 0x02
  /-- 1 bit, R534: ERR of the last access. -/
  err : Bool := false
  /-- words, R534 (log 3): core registers written since the core last ran, by 64 × core + number. -/
  coreRegs : Table Word := []
  /-- 4 counts, R534 (model): how often each core has run on from a halt. -/
  coreRuns : List Nat := List.replicate 4 0
  deriving DecidableEq, Repr

/-- The machine: every register, table, queue and mode the spec gives the block, and the commands waiting. -/
structure State where
  /-- The commands waiting, first in, first out. -/
  pending : List Instr := []
  /-- The model's own: free values taken so far (log 2). -/
  freeCtr : Nat := 1
  /-- Event and error counters that are not 0, by counter (R7, Table 5-4). -/
  ctrs : List (Ctr × Nat) := []
  /-- Free-running time in ns (R262, R378). -/
  clock : Nat := 0
  /-- Host Interface (chapter 15). -/
  hif : Hif := {}
  /-- Configuration and commits (R21 to R28). -/
  cfg : Cfg := {}
  /-- Ray-map slots (chapter 2). -/
  rmap : Rmap := {}
  /-- Scene Decoder, Capture Encoder and Check-Value Unit (chapter 5). -/
  sdec : Sdec := {}
  /-- Accord Composer and camera ports (chapter 6). -/
  acc : Acc := {}
  /-- Ray Engine and governor (chapter 7). -/
  ray : Ray := {}
  /-- Blitter (chapter 8). -/
  blt : Blt := {}
  /-- Rotor Controller and Angle Time Base (chapter 9). -/
  rot : Rot := {}
  /-- Scan-out Engine (chapter 10). -/
  sco : Sco := {}
  /-- Panel Link Transmitters (chapter 11). -/
  plt : Plt := {}
  /-- Gate-Control Links (chapter 11). -/
  gcl : Gcl := {}
  /-- Panel power (chapter 12). -/
  pnl : Pnl := {}
  /-- Backlight zones (chapter 12). -/
  bl : Bl := {}
  /-- Flysheet Driver (chapter 12). -/
  fly : Fly := {}
  /-- Stacked memory and its controller (chapter 13). -/
  mem : Mem := {}
  /-- Time Unit (chapter 14). -/
  tu : Tu := {}
  /-- Power, reset and Coast (chapter 17). -/
  pwr : Pwr := {}
  /-- Mode and conditions (chapter 22). -/
  cond : Cond := {}
  /-- Thermal Unit (chapter 18). -/
  therm : Therm := {}
  /-- Interrupt Controller (chapter 19). -/
  intc : Intc := {}
  /-- Clock Unit (chapter 19). -/
  clk : Clk := {}
  /-- Sillage Recorder (chapter 20). -/
  sil : Sil := {}
  /-- Black-box event ring (chapter 20). -/
  bb : Bb := {}
  /-- Debug Port (chapter 20). -/
  dbg : Dbg := {}
  deriving DecidableEq, Repr

/-- The machine right after reset (log 3): power applied, the power-on reset asserted, every field at the value its declaration gives. -/
def State.reset : State := {}

end Sys2Proof.Machine
end

