-- ==== Sys2Proof/Machine/Status.lean ====
section
/-! DEFINITION. The status codes (Tables 15-9 and 16-9). -/
namespace Sys2Proof.Machine.St

def ok : Nat := 0x0000
def notReady : Nat := 0x0100
def depFailed : Nat := 0x0102
def wrongMode : Nat := 0x0103
def resetAbort : Nat := 0x0104
def coastAbort : Nat := 0x0105
def faultActive : Nat := 0x0106
def faultHold : Nat := 0x0107
def thermalHot : Nat := 0x0108
def modeBusy : Nat := 0x0109
def raymapInUse : Nat := 0x0110
def planeBusy : Nat := 0x0112
def bltQueueFull : Nat := 0x0116
def bltStopped : Nat := 0x0117
def flyCold : Nat := 0x0118
def linkMode : Nat := 0x0119
def flyEnergy : Nat := 0x011A
def timeNoPending : Nat := 0x011B
def timeMaster : Nat := 0x011C
def gcQueueFull : Nat := 0x0120
def tagInUse : Nat := 0x0201
def badOpcode : Nat := 0x0202
def reservedField : Nat := 0x0203
def badPn : Nat := 0x0204
def paramRange : Nat := 0x0205
def dataAddr : Nat := 0x0206
def dataLen : Nat := 0x0207
def memRange : Nat := 0x0208
def fwSlot : Nat := 0x0209
def gcReserved : Nat := 0x0224
def raymapEmpty : Nat := 0x0230
def lutFormat : Nat := 0x0233
def lutRange : Nat := 0x0234
def planeFormat : Nat := 0x0240
def planeSize : Nat := 0x0241
def planeAddress : Nat := 0x0242
def planeOrder : Nat := 0x0243
def noteBounds : Nat := 0x0244
def sceneMismatch : Nat := 0x0245
def planeCount : Nat := 0x0246
def planeDamaged : Nat := 0x0247
def layerFormat : Nat := 0x0250
def layerGeometry : Nat := 0x0251
def layerTarget : Nat := 0x0252
def scalerRatio : Nat := 0x0253
def safetyRegion : Nat := 0x0254
def silRegion : Nat := 0x0255
def bltFormat : Nat := 0x0260
def bltGeometry : Nat := 0x0261
def bltAddress : Nat := 0x0262
def scanTiming : Nat := 0x0270
def trigParam : Nat := 0x0280
def trigPast : Nat := 0x0281
def cacheEmpty : Nat := 0x0311
def linebufShort : Nat := 0x0320
def scalerConflict : Nat := 0x0321
def composeTargets : Nat := 0x0322
def facetLoad : Nat := 0x0323
def bltStaging : Nat := 0x0330
def nzIllegalCode : Nat := 0x0410
def nzDistBeyond : Nat := 0x0411
def nzLenOverrun : Nat := 0x0412
def nzHdrCheck : Nat := 0x0413
def nzTableBad : Nat := 0x0414
def nzTruncated : Nat := 0x0415
def nzHdrField : Nat := 0x0416
def cvMismatch : Nat := 0x0420
def raymapCheck : Nat := 0x0430
def raymapFormat : Nat := 0x0431
def raymapRange : Nat := 0x0432
def calFormat : Nat := 0x0440
def serviceDesc : Nat := 0x0441
def linkTrain : Nat := 0x0510
def gcNoReply : Nat := 0x0520
def gcCrc : Nat := 0x0521
def panelPower : Nat := 0x0530
def flyLink : Nat := 0x0531
def memUncorr : Nat := 0x0540
def memTest : Nat := 0x0541
def memFreq : Nat := 0x0542
def calRef : Nat := 0x0550
def nand : Nat := 0x0560
def rotorFail : Nat := 0x0570
def fwSignature : Nat := 0x0601
def debugKey : Nat := 0x0602

end Sys2Proof.Machine.St
end

