-- ==== Sys2Proof/Machine/Ops.lean ====
section
/-! DEFINITION. The named operations every family uses: free values, counters, raising a source, parameters, memory,
time, the black-box ring. -/
namespace Sys2Proof.Machine

/-- Something done only when a condition holds. -/
def when (c : Bool) (f : State → State) (s : State) : State := if c then f s else s

/-- A free value, and the state with one more taken (log 2). -/
def takeFree (s : State) : Nat × State :=
  (Config.freeNat s.freeCtr, { s with freeCtr := s.freeCtr + 1 })

/-- Several free values. -/
def takeFrees (n : Nat) (s : State) : List Nat × State :=
  ((List.range n).map (fun i => Config.freeNat (s.freeCtr + i)), { s with freeCtr := s.freeCtr + n })

/-! ### Modes and conditions -/

/-- The code of a mode (Table 16-2). -/
def modeCode : Mode → Nat
  | .lightfield => 0 | .flat => 1 | .parked => 2 | .service => 3 | .test => 4

/-- CONDITIONS of the status image (Table 16-4). -/
def condBits (s : State) : Nat :=
  bit s.cond.coast 0 + bit (decide (0 < s.therm.step)) 1 + bit s.cond.shutdown 2 + bit s.cond.fault 3 +
    bit s.cond.bivouac 4

/-- The lit modes: LIGHTFIELD, FLAT and SERVICE. -/
def litMode : Mode → Bool
  | .lightfield | .flat | .service => true
  | .parked | .test => false

/-- FAULT, THERMAL_SHUTDOWN or COAST is set. -/
def anyStop (s : State) : Bool := s.cond.coast || s.cond.fault || s.cond.shutdown

/-- Scan-out has LIGHTFIELD timing in the present mode (Table 22-3). -/
def lfTiming (s : State) : Bool :=
  match s.cond.mode with
  | .lightfield => true
  | .service => s.cond.svcTiming
  | .test => true
  | .flat | .parked => false

/-! ### Parameters -/

/-- A Commit parameter in a set. -/
def setParam (c : ConfigSet) (pn : Nat) : Nat := (tget c.params pn (paramDefault pn)).toNat

/-- A parameter in force: a Commit parameter in the active set, any other as set (R403). -/
def paramWord (s : State) (pn : Nat) : Word :=
  match paramSpec pn with
  | some q => if q.commit then tget s.cfg.active.params pn (paramDefault pn)
              else tget s.cfg.params pn (paramDefault pn)
  | none => 0

/-- A parameter in force as a number. -/
def par (s : State) (pn : Nat) : Nat := (paramWord s pn).toNat

/-- A signed parameter in force. -/
def parI (s : State) (pn : Nat) : Int := (paramWord s pn).toInt

/-- A table of parameters with one set; values at their defaults take no entry. -/
def paramPut (t : Table Word) (pn : Nat) (v : Word) : Table Word :=
  if v = paramDefault pn then tdel t pn else tset t pn v

/-- A Commit parameter staged in the draft set. -/
def draftParam (pn : Nat) (v : Word) (s : State) : State :=
  { s with cfg := { s.cfg with draft := { s.cfg.draft with params := paramPut s.cfg.draft.params pn v } } }

/-- A table of descriptors with one set; a descriptor of zeros takes no entry. -/
def descPut (t : Table (List Byte)) (k : Nat) (d : List Byte) : Table (List Byte) :=
  if d.all (· == 0) then tdel t k else tset t k d

/-! ### Interrupt sources (R488 to R497) -/

/-- The host route byte of a source (Table 19-9). -/
def hroute (s : State) (n : Nat) : Byte := tget s.intc.hroute n 0
/-- VEC of a source, as a vector number 16 to 31. -/
def routeVec (s : State) (n : Nat) : Nat := 16 + (hroute s n).toNat % 16
def msixEn (s : State) (n : Nat) : Bool := (hroute s n).getLsbD 4
def intbEn (s : State) (n : Nat) : Bool := (hroute s n).getLsbD 5
def hostEn (s : State) (n : Nat) : Bool := (hroute s n).getLsbD 6

/-- A number entered in a rising list. -/
def insertNat : Nat → List Nat → List Nat
  | n, [] => [n]
  | n, m :: l => if n < m then n :: m :: l else if n = m then m :: l else m :: insertNat n l

/-- An edge event of a source (R489): pending for the host when HOST_EN is set, pending for its core when it has a
core route. While the CORE domain sleeps the wake latch records it instead (R497). -/
def raise (n : Nat) (s : State) : State :=
  if s.intc.asleep then
    if hostEn s n || (tget? s.intc.croute n).isSome then
      { s with intc := { s.intc with wakeLatch := insertNat n s.intc.wakeLatch } }
    else s
  else
    { s with intc := { s.intc with
        hpend := if hostEn s n then insertNat n s.intc.hpend else s.intc.hpend
        cpend := if (tget? s.intc.croute n).isSome then insertNat n s.intc.cpend else s.intc.cpend } }

/-- A source raised when a condition holds. -/
def raiseIf (c : Bool) (n : Nat) (s : State) : State := if c then raise n s else s

/-! ### Counters (R7, Table 5-4) -/

/-- The value at which a counter saturates. -/
def ctrMax : Nat := 0x7FFFFFFF

/-- The source that a counter raises on reaching its maximum. -/
def ctrSource : Ctr → Nat
  | .refused | .dupTag | .ethDrop => 196
  | .blocksOk | .blocksFail | .cvuMismatch | .cencVerifyFail | .cencRaw | .cencBlocks => 134
  | .composeLate | .safetyMismatch | .camDamaged0 | .camDamaged1 | .camDamaged2 | .camDamaged3
  | .camDropped0 | .camDropped1 | .camDropped2 | .camDropped3 => 100
  | .rayLate | .rayEscalate | .rayFlatBuild | .rayParity => 115
  | .bltOps | .bltFail => 242
  | .encGlitch | .lockLoss => 25
  | .underrun0 | .underrun1 | .underrun2 | .underrun3 | .scoRepeat | .scoDark => 36
  | .loopErr | .pltLockLoss | .gclNoReply | .gclCrcErr => 53
  | .zoneFault | .flyUpdate | .flySkip => 63
  | .memCe | .memUe | .memRetry | .memRetrain | .memThrottle | .memRfm | .memFreq => 73
  | .tuOutlier | .tuRefuse | .tuGmChange | .tuEarlyDrop | .tuPtpDrop | .ttMissed | .tcOverflow => 169
  | .sag | .coast | .ride | .warm => 256
  | .thrStep | .tsInvalid | .thermTrip => 14
  | .spurious => 234
  | .clkLockLoss | .clkRefSwitch | .clkSync => 228
  | .silThumbSkip | .silFlush | .silNandErr | .bbFlush | .dbgUnlockFail => 252

/-- The events a counter has counted. -/
def ctrVal (s : State) (c : Ctr) : Nat := (s.ctrs.lookup c).getD 0

/-- A counter set to a value. -/
def ctrSet (c : Ctr) (v : Nat) (s : State) : State :=
  { s with ctrs := (if v = 0 then [] else [(c, v)]) ++ s.ctrs.filter (fun e => e.1 != c) }

/-- A counter advanced by `n`: it stops at its maximum, and raises its event once on reaching it (R7). The power and
reset counters have no saturation source (Table 17-13). -/
def countN (c : Ctr) (n : Nat) (s : State) : State :=
  let v := ctrVal s c
  if ctrMax ≤ v then s
  else if ctrMax ≤ v + n then raiseIf (decide (ctrSource c < 256)) (ctrSource c) (ctrSet c ctrMax s)
  else ctrSet c (v + n) s

/-- A counter advanced by one. -/
def count (c : Ctr) (s : State) : State := countN c 1 s

/-- A counter register as read: COUNT, and SAT at the maximum (Table 5-4). -/
def ctrReg (s : State) (c : Ctr) : Nat :=
  if ctrMax ≤ ctrVal s c then 0xFFFFFFFF else ctrVal s c

/-! ### Time (R360, R361): kept in units of 2⁻⁴⁰ ns -/

def nsUnit : Nat := 2 ^ 40
/-- The modulus of the time counter: 2⁴⁸ seconds. -/
def timeMod : Nat := 2 ^ 48 * 1000000000 * nsUnit
/-- Whole nanoseconds of a time. -/
def timeNs (t : Nat) : Nat := t / nsUnit
/-- A time packed into 96 bits (R361). -/
def timePack (t : Nat) : Nat :=
  timeNs t / 1000000000 % 2 ^ 48 + timeNs t % 1000000000 * 2 ^ 48 + t / 2 ^ 24 % 2 ^ 16 * 2 ^ 80
/-- A time of a 96-bit packing. -/
def timeUnpack (v : Nat) : Nat :=
  (v % 2 ^ 48 * 1000000000 + v / 2 ^ 48 % 2 ^ 32) * nsUnit + v / 2 ^ 80 % 2 ^ 16 * 2 ^ 24
/-- The 12 bytes of a time. -/
def timeBytes (t : Nat) : List Byte := leBytes 12 (timePack t)
/-- The time every record carries: 0 while the counter does not run (R381). -/
def stampTime (s : State) : Nat := if s.tu.running then s.tu.time else 0
/-- The time moved by signed nanoseconds, in 1/65,536 ns, modulo 2⁴⁸ s. -/
def timeAdd (t : Nat) (d : Int) : Nat := (((t : Int) + d * 2 ^ 24) % (timeMod : Int)).toNat

/-! ### The angle counter (R10) -/

/-- Bits [15:0]: the angle within the revolution. -/
def atk (s : State) : Nat := s.rot.angle.toNat % 65536
/-- Bits [31:16]: the revolution count. -/
def rev (s : State) : Nat := s.rot.angle.toNat / 65536
/-- Encoder counts have carried the counter into a revolution whose start has still to come (log 4). -/
def startOverdue (s : State) : Bool := rev s != s.sil.frameRev

/-- The counter moved forward to an angle of this revolution. It never runs backwards: one that stands beyond the angle
stays, and no move leaves the revolution, whose end is the revolution start (R216). -/
def angleTo (x : Nat) (s : State) : State :=
  if atk s < x ∧ x < 65536 ∧ ¬ startOverdue s then
    { s with rot := { s.rot with angle := BitVec.ofNat 32 (rev s * 65536 + x) } }
  else s

/-- The name of a scheduled angle event in `Rot.fired`: its kind and its angle. The kinds are 0 latch angle, 1 facet start,
2 end of a start window, 3 pick, 4 composition deadline, 5 memory window, 6 entry to L1s, 7 exit from it, and
8 + n trigger n. -/
def eventKey (kind x : Nat) : Nat := kind * 65536 + x % 65536

/-- A scheduled event may fire: it has not fired in this revolution, and the counter has not passed its angle, or by less
than the 64 ATK that encoder counts may have carried it (R216, log 4). -/
def angleDue (kind x : Nat) (s : State) : Bool :=
  !s.rot.fired.contains (eventKey kind x) &&
    decide (atk s + (if startOverdue s then 65536 else 0) < x % 65536 + 64)

/-- A scheduled event fires once in a revolution, at its angle, while the counter counts (R216, R220). -/
def angleFire (kind x : Nat) (f : State → State) (s : State) : State :=
  if s.rot.angleValid && angleDue kind x s then
    f (angleTo (x % 65536) { s with rot := { s.rot with fired := eventKey kind x :: s.rot.fired } })
  else s

/-! ### Stacked memory (R329 to R332, R344, R348) -/

/-- First address, size and grain exponent of each area, in the order of Table 13-2. -/
def areas : List (Nat × Nat × Nat) :=
  [(0x0000000000, 0x0040000000, 8), (0x0040000000, 0x0100000000, 16), (0x0140000000, 0x0180000000, 11),
   (0x02C0000000, 0x0180000000, 10), (0x0440000000, 0x0080000000, 12), (0x04C0000000, 0x1B40000000, 11)]

def ingestBase : Nat := 0x0040000000
def ingestSize : Nat := 0x0100000000
def renderBase : Nat := 0x0140000000
def composeBase : Nat := 0x02C0000000
def silBase : Nat := 0x0440000000
def silSize : Nat := 0x0080000000
def heapBase : Nat := 0x04C0000000
def memSize : Nat := 0x2000000000

/-- A byte range lies in the scene heap. -/
def inHeap (a n : Nat) : Bool := decide (heapBase ≤ a) && decide (a + n ≤ memSize)
/-- A byte range lies in the ingest area. -/
def inIngest (a n : Nat) : Bool := decide (ingestBase ≤ a) && decide (a + n ≤ ingestBase + ingestSize)

/-- The exclusive-or of the 7-bit fields of a number, `n` of them. -/
def xorFields : Nat → Nat → Nat
  | 0, _ => 0
  | n + 1, q => (q % 128) ^^^ xorFields n (q / 128)

/-- Pseudo-channel and local offset of a device address (R331). -/
def interleave (a : Nat) : Nat × Nat :=
  match areas.find? (fun r => r.1 ≤ a && a < r.1 + r.2.1) with
  | some (b, _, g) =>
    let unit := (a - b) / 2 ^ g
    let low := (a - b) % 2 ^ g
    let q := unit / 128
    ((unit % 128) ^^^ xorFields 6 q, b / 128 + q * 2 ^ g + low)
  | none => (0, 0)

/-- Bank number and row of a local offset (R332). -/
def bankRow (l : Nat) : Nat × Nat :=
  (4 * (bits l 13 10 ^^^ bits l 19 16) + bits l 15 14, bits l 29 16)

/-- The channel of a pseudo-channel, numbered 16 × stack + channel (R329, Table 13-10). -/
def chanOf (pc : Nat) : Nat := 16 * (pc % 4) + bits pc 6 3

/-- The channel of an address is marked failed (R348). -/
def chanFailed (m : Mem) (a : Nat) : Bool := m.chanFail.getLsbD (chanOf (interleave a).1)

/-- What an unlisted byte reads as (log 7). -/
def memDefault : Byte := 0

/-- The stamp of the undefined range that holds an address. -/
def undefStamp (m : Mem) (a : Nat) : Option Nat :=
  (m.undef.find? (fun r => r.1 ≤ a && a < r.1 + r.2.1)).map (·.2.2)

/-- One byte of stacked memory. -/
def memRead (m : Mem) (a : Nat) : Byte :=
  match undefStamp m a with
  | some k => Config.freeByte k a
  | none => (m.cells.lookup a).getD memDefault

/-- The canonical form of memory: addresses strictly rising, no entry equal to what an unlisted address reads as. -/
def cellsWf : List Host.Cell → Bool
  | [] => true
  | [c] => c.2 != memDefault
  | c :: d :: l => c.2 != memDefault && decide (c.1 < d.1) && cellsWf (d :: l)

abbrev Mem.wf (m : Mem) : Prop := cellsWf m.cells = true

/-- One cell set, the canonical form kept. -/
def cellSet : List Host.Cell → Nat → Byte → List Host.Cell
  | [], a, b => if b = memDefault then [] else [(a, b)]
  | c :: l, a, b =>
    if a < c.1 then (if b = memDefault then c :: l else (a, b) :: c :: l)
    else if a = c.1 then (if b = memDefault then l else (a, b) :: l)
    else c :: cellSet l a b

/-- Undefined ranges without one byte range. -/
def undefSub (u : List (Nat × Nat × Nat)) (a n : Nat) : List (Nat × Nat × Nat) :=
  u.flatMap (fun r => (rangeTidy (rangeSub [(r.1, r.2.1)] a n)).map (fun x => (x.1, x.2, r.2.2)))

/-- One byte written. A write to a failed channel is dropped (R348). -/
def memWrite (a : Nat) (b : Byte) (m : Mem) : Mem :=
  if chanFailed m a then m
  else { m with cells := cellSet m.cells a b, undef := undefSub m.undef a 1 }

/-- Bytes written from an address upward. -/
def memWriteList : Nat → List Byte → Mem → Mem
  | _, [], m => m
  | a, b :: bs, m => memWriteList (a + 1) bs (memWrite a b m)

/-- Granules that lie wholly in a range lose their poison (R344). -/
def unpoison (a n : Nat) (m : Mem) : Mem :=
  { m with poison := m.poison.filter (fun g => !(decide (a ≤ 64 * g) && decide (64 * g + 64 ≤ a + n))) }

/-- Bytes written; granules written whole lose their poison. -/
def memStore (a : Nat) (bs : List Byte) (m : Mem) : Mem := unpoison a bs.length (memWriteList a bs m)

/-- `n` bytes computed from their place and written. -/
def memFill (a : Nat) : Nat → (Nat → Byte) → Mem → Mem
  | 0, _, m => m
  | n + 1, f, m => memWrite (a + n) (f n) (memFill a n f m)

/-- The same, the granules written whole losing their poison. -/
def memFillWhole (a n : Nat) (f : Nat → Byte) (m : Mem) : Mem := unpoison a n (memFill a n f m)

/-- The bytes of a range. -/
def memBytes (m : Mem) (a n : Nat) : List Byte := (List.range n).map (fun i => memRead m (a + i))

/-- A granule of the range is poisoned or lies in a failed channel (R344, R348). -/
def memPoisoned (m : Mem) (a n : Nat) : Bool :=
  m.poison.any (fun g => overlaps (64 * g) 64 a n) ||
  (List.range ((a + n + 63) / 64 - a / 64)).any (fun i => chanFailed m (64 * (a / 64 + i)))

/-- A byte range of undefined content (R71, R208, R353). -/
def memUndef (a n : Nat) (s : State) : State :=
  { s with
    mem := { s.mem with undef := (a, n, s.freeCtr) :: undefSub s.mem.undef a n }
    freeCtr := s.freeCtr + 1 }

/-- A change of stacked memory. -/
def onMem (f : Mem → Mem) (s : State) : State := { s with mem := f s.mem }

/-! ### The black-box event ring (R531, Tables 20-8 and 20-9) -/

/-- One entry written at HEAD; the ring holds the newest 4,096. -/
def blackBox (code source : Nat) (data : Word) (s : State) : State :=
  let e : BbEntry := { seq := (s.bb.seq + 1) % 2 ^ 32, boot := s.pwr.boot, mode := s.cond.mode, time := stampTime s,
                       angle := s.rot.angle, code := code, source := source, conds := condBits s, data := data }
  { s with bb := { s.bb with
      ring := e :: s.bb.ring.take 4095
      seq := e.seq
      head := (s.bb.head + 1) % 4096
      wrapped := s.bb.wrapped || decide (s.bb.head = 4095) } }

/-- An entry that a chapter requires with the raising of a source (code 0x0100). -/
def blackBoxSrc (source : Nat) (data : Word) (s : State) : State := blackBox 0x0100 source data s

end Sys2Proof.Machine
end

