-- ==== Sys2Proof/Machine/Flags.lean ====
section
/-! DEFINITION. The conditions computed from the state: level sources, what is pending at each target, INT_B, LIT_OK,
and the MSI-X messages they cause (chapters 9 and 19). -/
namespace Sys2Proof.Machine

/-- Mode of an external line (Table 19-8). -/
def extMode (s : State) (n : Nat) : Nat := (s.intc.extCfg.getD n 0).toNat % 8

/-- A source is a level source (the source tables of the chapters; R496 for the external lines). -/
def isLevel (s : State) (n : Nat) : Bool :=
  n = 72 || n = 99 || n = 128 || n = 167 ||
  (n = 232 && (extMode s 0 = 4 || extMode s 0 = 5)) || (n = 233 && (extMode s 1 = 4 || extMode s 1 = 5))

/-- The level of an external line meets its mode. -/
def extLevel (s : State) (n : Nat) : Bool :=
  (extMode s n = 4 && s.intc.gpio.getD n false) || (extMode s n = 5 && !s.intc.gpio.getD n false)

/-- Any receiving port is stale (R130). -/
def anyStale (s : State) : Bool := s.acc.ports.any (fun p => p.receiving && p.stale)

/-- The condition of a level source. -/
def levelCond (s : State) (n : Nat) : Bool :=
  if n = 72 then s.mem.hot
  else if n = 99 then anyStale s
  else if n = 128 then !s.sdec.errs.isEmpty
  else if n = 167 then !s.tu.fifo.isEmpty
  else if n = 232 then extLevel s 0
  else if n = 233 then extLevel s 1
  else false

/-- A source is pending for the host (R489): it is routed, and its edge event waits or its level condition holds and
has not been claimed. An event that occurs while its source is active waits for the completion (R490, R492). -/
def hostPending (s : State) (n : Nat) : Bool :=
  hostEn s n &&
  (if isLevel s n then levelCond s n && !s.intc.hclaimed.contains n
   else s.intc.hpend.contains n && !s.intc.active.any (fun e => e.2 == n))

/-- A source is pending for the core it is routed to (R495). -/
def corePending (s : State) (n : Nat) : Bool :=
  (tget? s.intc.croute n).isSome &&
  (if isLevel s n then levelCond s n && !s.intc.cclaimed.contains n
   else s.intc.cpend.contains n && !s.intc.cactive.any (fun e => e.2 == n))

/-- The sources with a host route, in rising order. -/
def routedSources (s : State) : List Nat := s.intc.hroute.map (·.1)

/-- The lowest-numbered source pending at a vector (R490). -/
def lowestAt (s : State) (v : Nat) : Option Nat :=
  (List.range 256).find? (fun n => hostPending s n && routeVec s n == v)

/-- The lowest-numbered source pending at a core (R495). -/
def lowestAtCore (s : State) (c : Nat) : Option Nat :=
  (List.range 256).find? (fun n => corePending s n && tget? s.intc.croute n == some c)

/-- INT_B is driven low (R494). -/
def intB (s : State) : Bool := (routedSources s).any (fun n => hostPending s n && intbEn s n)

/-! ### The status balls (R436, R451, R452, R494, R555) -/

/-- FAULT_B is driven low: while FAULT is set, as held from the start of a warm episode until READY, and never in a cold
episode. -/
def faultB (s : State) : Bool :=
  match s.pwr.held with
  | some h => h.fault
  | none => s.cond.fault && !(s.pwr.episode && s.pwr.cold)

/-- STAT_READY is high: while READY is 1, and as held from the start of a warm episode until READY. -/
def statReady (s : State) : Bool :=
  match s.pwr.held with
  | some h => h.ready
  | none => s.hif.ready

/-- SAGW_B is driven low: while SAGW is set, and as held through a warm episode. -/
def sagwB (s : State) : Bool :=
  match s.pwr.held with
  | some h => if s.pwr.episode then h.sagw else s.pwr.sagw
  | none => s.pwr.sagw

/-- The ball INT_B is driven low: as the Interrupt Controller drives it, and as held from the start of a warm episode
until the CORE domain, which holds it, is released. -/
def intBall (s : State) : Bool :=
  match s.pwr.held with
  | some h => if s.pwr.released < 2 then h.int else intB s
  | none => intB s

/-- The levels at the start of a warm episode. -/
def pinsNow (s : State) : HeldPins := { fault := faultB s, ready := statReady s, sagw := sagwB s, int := intBall s }

/-- A vector is not active and a source routed to it with MSIX_EN set is pending (R493). -/
def msixCond (s : State) (v : Nat) : Bool :=
  (tget? s.intc.active v).isNone &&
  (routedSources s).any (fun n => hostPending s n && msixEn s n && routeVec s n == v)

/-- One MSI-X message at a vector, or its PBA bit while a mask is set (R493). -/
def sendMsix (v : Nat) (s : State) : State :=
  if s.intc.fnMask || s.intc.msixMask.getLsbD v then
    { s with intc := { s.intc with pba := s.intc.pba ||| BitVec.ofNat 32 (2 ^ v) } }
  else { s with intc := { s.intc with msix := v :: s.intc.msix } }

/-- The vectors 16 to 31. -/
def srcVectors : List Nat := (List.range 16).map (· + 16)

/-- The vectors whose message condition holds. -/
def readyVectors (s : State) : List Nat := srcVectors.filter (msixCond s)

/-- The controller's look at its vectors: one message for each vector whose condition has come to hold since the last
look (R493). While the CORE domain sleeps nothing is delivered (R497). -/
def settle (s : State) : State :=
  if s.intc.asleep then s
  else
    let now := readyVectors s
    let s1 := (now.filter (fun v => !s.intc.ready.contains v)).foldl (fun t v => sendMsix v t) s
    { s1 with intc := { s1.intc with ready := now } }

/-- The conditions of R235 hold. -/
def litCond (s : State) : Bool :=
  s.rot.state == .run && s.rot.angleValid && decide (2980 * 16 ≤ s.rot.speed16) &&
  decide (s.rot.speed16 ≤ 3980 * 16) && s.rot.cause == 0

/-- Zones may be lit (R257), the facet apart. -/
def mayLight (s : State) : Bool :=
  s.rot.litOk && !anyStop s && s.cond.mode != .parked && !s.cond.bivouac && s.pnl.state == .on

/-- URGENT: fewer than SCO_URGENT_ROWS row pairs are buffered in a scan (R253). -/
def scoUrgent (s : State) : Bool := s.sco.scanning && decide (s.sco.rowsAhead < par s 0x4206)

/-- Every zone ends its pulse (R257). -/
def blank (s : State) : State :=
  { s with bl := { s.bl with lit := List.replicate 8 false, sinkOn := 0, current := List.replicate 128 0
                             dac := List.replicate 128 0 } }

/-- A facet under way ends here and is dark from now on (R283, R352). -/
def darkNow (s : State) : State :=
  blank { s with sco := { s.sco with scanning := false, inSlot := false, isDark := s.sco.isDark || s.rot.angleValid
                                     barred := true } }

/-- The motor power limit in force, in mW: 60 W, and during a ramp up while LIT_OK is 1 what the emitters leave of 260 W
(R211, R223). -/
def motorPower (s : State) : Nat :=
  if s.rot.litOk && s.rot.ramp && decide (s.rot.speed16 < 16 * s.rot.setpoint) then s.rot.motorLimitMw else 60000

/-- LIT_OK follows R235; a change raises source 23 and a fall blanks. A ramp is limited to 20 W in the revolution of a
rise (R223). -/
def refreshLit (s : State) : State :=
  let now := litCond s
  if now = s.rot.litOk then s
  else
    let s1 := raise 23 { s with rot := { s.rot with litOk := now, litRev := s.rot.litRev && now
                                                    motorLimitMw := if now then 20000 else 60000 } }
    if now then s1 else blank s1

/-- The interlocks that hold after every command: LIT_OK follows R235, and no row is in a pulse while something forbids
light (R257). Before READY the zone sinks hold their level until their own on-time limit (R451). -/
def interlock (s : State) : State :=
  let s1 := refreshLit s
  if mayLight s1 then s1
  else if s1.hif.ready then blank s1
  else { s1 with bl := { s1.bl with lit := List.replicate 8 false } }

/-- What every command answers: the next state, with its interlocks and its MSI-X messages. -/
def done (s : State) : Host.Outcome State Fault Refusal := .next (settle (interlock s))

/-- The CORE domain wakes: the controller is restored, and the latched events become pending (R497). -/
def wakeDomain (s : State) : State :=
  if s.intc.asleep then
    s.intc.wakeLatch.foldl (fun t n => raise n t)
      { s with intc := { s.intc with asleep := false, woke := true, wakeLatch := [] } }
  else s

/-- Requests of stacked memory are served: it runs at an operating point and its clock has not been lost (R354,
Table 19-3). -/
def memServed (s : State) : Bool :=
  s.mem.point != .off && !(s.cond.coast && s.pwr.flushDone) && !((s.clk.plls.getD 1 {}).bypass && s.mem.changing.isNone)

/-- New requests are taken: none is held for a change of operating point (Table 13-7). -/
def memOpen (s : State) : Bool := memServed s && s.mem.changing.isNone

end Sys2Proof.Machine
end

