-- ==== Sys2Proof/Machine/Replies.lean ====
section
/-! DEFINITION. Packets, replies and the commands in flight (chapter 15). -/
namespace Sys2Proof.Machine

/-! ### Packet fields (Tables 15-3 and 16-2 to 16-10) -/

/-- A field of `n` bytes at a packet offset from 0x14 upward (R411). -/
def pf (p : Pkt) (off n : Nat) : Nat := field p.params (off - 0x14) n
/-- Packet bytes from an offset. -/
def pbytes (p : Pkt) (off n : Nat) : List Byte := padTo n (p.params.drop (off - 0x14))
/-- TAG [8:0]. -/
def ptag (p : Pkt) : Nat := p.tag.toNat % 512
/-- DATA_ADDR is module-local. -/
def isLocal (p : Pkt) : Bool := p.addr.getLsbD 63
/-- First ingest-area address of module-local data. -/
def localAddr (p : Pkt) : Nat := ingestBase + p.addr.toNat % 2 ^ 32
/-- DATA_LEN. -/
def plen (p : Pkt) : Nat := p.len.toNat
/-- The data of a command, read when it starts (R412). -/
def pdata (s : State) (p : Pkt) : List Byte :=
  if isLocal p then memBytes s.mem (localAddr p) (plen p) else padTo (plen p) p.host

/-! ### Queues -/

/-- A queue after reset (Table 15-8): PHASE is set to 1 when ENABLE is. -/
def queueReset : Queue := {}

/-- A submission and completion queue. -/
def queueOf (s : State) (q : Nat) : Queue := tget s.hif.queues q queueReset
/-- The entries of its rings. -/
def ringSize (q : Queue) : Nat := 2 ^ q.log2
/-- A queue's registers changed. -/
def onQueue (n : Nat) (f : Queue → Queue) (s : State) : State :=
  { s with hif := { s.hif with queues := tset s.hif.queues n (f (queueOf s n)) } }

/-! ### Replies -/

/-- RFLAGS (Table 15-5). -/
def rfSuperseded : Nat := 1
def rfNoChange : Nat := 2
def rfDupTag : Nat := 4
def rfExtended : Nat := 8
def rfInDecode : Nat := 16
def rfCoast : Nat := 32

/-- What a command's end says. -/
structure Ending where
  status : Nat := 0
  rflags : Nat := 0
  result : List Byte := []
  image : List Byte := []
  epoch : Option Nat := none
  deriving DecidableEq, Repr

/-- RESULT of a refusal that names an object (Table 15-5). -/
def objResult (kind idx : Nat) : List Byte := [BitVec.ofNat 8 kind, 0] ++ leBytes 2 idx

/-- The 32 bytes of a reply (Table 15-5). -/
def replyBytes (r : Reply) : List Byte :=
  leBytes 2 r.status.toNat ++ leBytes 2 (r.tag + bit r.phase 15) ++ leBytes 2 r.opcode.toNat ++
  leBytes 2 r.rflags.toNat ++ leBytes 8 r.epoch ++ leBytes 2 r.sqHead ++ leBytes 1 r.queue ++ [0] ++
  padTo 12 r.result

/-- The data image written to DATA_ADDR (R398, R412): into the ingest area, or to the host. -/
def writeImage (p : Pkt) (img : List Byte) (s : State) : State :=
  if img.isEmpty || p.addr == 0 then s
  else if isLocal p then onMem (memStore (localAddr p) img) s
  else { s with hif := { s.hif with hostImages := (p.addr.toNat, img) :: s.hif.hostImages } }

/-- The path signals a reply: the queue's completion ring, a TYPE 3 message, or the mailbox (R389, R392, R393). -/
def deliver (p : Pkt) (r : Reply) (s : State) : State :=
  if p.path < 16 then
    let q := queueOf s p.path
    let tail := (q.cqTail + 1) % ringSize q
    let s1 := onQueue p.path (fun q => { q with cqTail := tail, phase := if tail = 0 then !q.phase else q.phase }) s
    if p.flags.getLsbD 0 then
      if par s1 0x0101 = 0 then sendMsix p.path s1
      else onQueue p.path (fun q => { q with unsignalled := true }) s1
    else s1
  else if p.path = 16 then
    { s with hif := { s.hif with
        ethOut := { type := 3, seq := s.hif.ethTxSeq, ack := s.hif.ethSeq.getD 0, replies := [r] } :: s.hif.ethOut
        ethTxSeq := s.hif.ethTxSeq + 1 } }
  else if p.path = 17 then
    raise 194 { s with hif := { s.hif with
      mbxReply := (List.range 8).map (fun i => BitVec.ofNat 32 (field (replyBytes r) (4 * i) 4))
      mbxBusy := false, mbxDone := true } }
  else s

/-- One reply written (R398, R401): the data image first, then the reply. -/
def writeReply (op : Nat) (p : Pkt) (e : Ending) (s : State) : State :=
  let q := queueOf s p.path
  let r : Reply := { status := BitVec.ofNat 16 e.status, tag := ptag p, phase := decide (p.path < 16) && q.phase
                     opcode := BitVec.ofNat 16 op, rflags := BitVec.ofNat 16 e.rflags
                     epoch := e.epoch.getD s.cfg.epoch, sqHead := if p.path < 16 then q.sqHead else 0
                     queue := p.path, result := padTo 12 e.result, image := e.image, addr := p.addr }
  let s1 := writeImage p e.image s
  deliver p r { s1 with hif := { s1.hif with replies := r :: s1.hif.replies } }

/-! ### Commands in flight (R395, R396) -/

/-- The command in flight under a tag. -/
def flightOf (s : State) (tag : Nat) : Option Flight := s.hif.flights.find? (fun f => ptag f.p == tag)

/-- The commands that waited on a tag learn how it ended (R396). DEP_ANY takes any end. -/
def depDone (tag : Nat) (good : Bool) (fs : List Flight) : List Flight :=
  fs.map (fun f => if f.dep == .waiting && f.depTag == tag then
    { f with dep := if good || f.p.dep.getLsbD 10 then .met else .failed } else f)

/-- The same of the Blitter's queue, whose operations are held in order (R191). -/
def bltDepDone (fs : List Flight) (q : List BlitOp) : List BlitOp :=
  q.map (fun b => match fs.find? (fun f => ptag f.p == b.tag) with
    | some f => { b with dep := f.dep }
    | none => b)

/-- A command in flight changed. -/
def onFlight (tag : Nat) (f : Flight → Flight) (s : State) : State :=
  { s with hif := { s.hif with flights := s.hif.flights.map (fun x => if ptag x.p == tag then f x else x) } }

/-- The command under a tag ends: its reply is written, its tag is free and what waited on it may go on. A reply that
an endpoint reset discarded leaves a black-box entry (R387). -/
def finish (tag : Nat) (e : Ending) (s : State) : State :=
  match flightOf s tag with
  | none => s
  | some f =>
    let fs := depDone tag (decide (e.status < 0x100)) (s.hif.flights.filter (fun g => ptag g.p != tag))
    let s1 := { s with hif := { s.hif with flights := fs }
                       blt := { s.blt with queue := bltDepDone fs s.blt.queue } }
    let e' := { e with rflags := (e.rflags ||| (if f.ext then rfExtended else 0)) }
    if f.silent then
      writeImage f.p e'.image (blackBox 0x0204 0xFF (BitVec.ofNat 32 (tag + e.status * 65536)) s1)
    else writeReply f.op f.p e' s1

/-- The command under a tag ends with a status alone. -/
def finishSt (tag st : Nat) (s : State) : State := finish tag { status := st } s

/-- Several commands end with one status. -/
def finishAll (tags : List Nat) (e : Ending) (s : State) : State := tags.foldl (fun t n => finish n e t) s

/-- Commands of one opcode in flight, in order of acceptance. -/
def flightsOf (s : State) (op : Nat) : List Nat := (s.hif.flights.filter (fun f => f.op == op)).map (fun f => ptag f.p)

/-- The bound of a command is extended (BOUND_EXTENDED). -/
def extend (tag : Nat) (s : State) : State := onFlight tag (fun f => { f with ext := true }) s

end Sys2Proof.Machine
end

