-- ==== Sys2Proof/Machine/Scene.lean ====
section
/-! DEFINITION. Scenes: plane descriptors, pixel extents and locks, paired planes, damage records and the books of the
Scene Decoder (chapters 3 and 5). -/
namespace Sys2Proof.Machine

/-! ### Plane descriptors (Table 3-2) -/

def dBase (d : List Byte) : Nat := field d 0 4 * 256
def dW (d : List Byte) : Nat := field d 4 2
def dH (d : List Byte) : Nat := field d 6 2
def dPitch (d : List Byte) : Nat := field d 8 2 * 256
def dFmt (d : List Byte) : Nat := byteAt d 0x0A
def dFlags (d : List Byte) : Nat := byteAt d 0x0B
def dPremult (d : List Byte) : Bool := (dFlags d).testBit 0
def dOpaque (d : List Byte) : Bool := (dFlags d).testBit 1
def dEnabled (d : List Byte) : Bool := (dFlags d).testBit 2
def dPaired (d : List Byte) : Bool := (dFlags d).testBit 3
def dDisp (d : List Byte) : Nat := field d 0x0C 4
def dMask (d : List Byte) : Nat := field d 0x10 4
def dScene (d : List Byte) : Nat := field d 0x14 4
def dBaseB (d : List Byte) : Nat := field d 0x18 4 * 256
/-- Bytes per pixel of a format (Table 3-1). -/
def fmtBytes (f : Nat) : Nat := if f < 2 then 4 else 1
/-- Bytes of the pixel extent (R51). -/
def dLen (d : List Byte) : Nat := dPitch d * dH d
/-- A disparity of s7.12 sign-extended to 32 bits (R54). -/
def disparity (v : Nat) : Int := sext 20 v
def dispExtended (v : Nat) : Bool := decide (wrapTo 32 (disparity v) = v % 2 ^ 32)

/-- The descriptor of a plane in a set; all zero until one is staged (log 3). -/
def planeOf (c : ConfigSet) (k : Nat) : List Byte := tget c.planes k (List.replicate 32 0)
/-- PLANE_COUNT of a set. -/
def planeCount (c : ConfigSet) : Nat := setParam c 0x2000
/-- The buffer of a plane that a set names. -/
def namedBuf (c : ConfigSet) (k : Nat) : Nat :=
  let d := planeOf c k
  if dPaired d && c.bufB.contains k then dBaseB d else dBase d
/-- The active buffer of a paired plane with a given descriptor: the one the active set names; where the active set
names neither, BASE (log 9). -/
def activeBuf (s : State) (k : Nat) (d : List Byte) : Nat :=
  if namedBuf s.cfg.active k = dBaseB d then dBaseB d else dBase d
/-- The draft buffer of a paired plane (R64). -/
def draftBuf (s : State) (k : Nat) (d : List Byte) : Nat :=
  if activeBuf s k d = dBaseB d then dBase d else dBaseB d
/-- The buffer that blocks for a plane are written to (R64). -/
def loadBuf (s : State) (k : Nat) : Nat :=
  let d := planeOf s.cfg.draft k
  if dPaired d then draftBuf s k d else dBase d

/-! ### Locks (R61) -/

/-- The pixel extents the descriptors of a set point to. -/
def setExtents (c : ConfigSet) : List (Nat × Nat) := c.planes.map (fun e => (namedBuf c e.1, dLen e.2))

/-- Every locked byte range. -/
def lockedRanges (s : State) : List (Nat × Nat) :=
  setExtents s.cfg.active ++ ((s.cfg.outgoing.map setExtents).getD []) ++
  ((s.cfg.snap.map (fun x => setExtents x.set)).getD []) ++
  s.cfg.cache.flatMap (fun e => e.2.planes.map (fun p => (dBase p.2, dLen p.2)))

/-- A byte range touches locked memory. -/
def isLocked (s : State) (a n : Nat) : Bool := (lockedRanges s).any (fun r => overlaps r.1 r.2 a n)

/-! ### Damage records (R101), by the first byte of the buffer -/

def damageOf (s : State) (buf : Nat) : List (Nat × Nat) := tget s.cfg.damage buf []

/-- A damage record stored; an empty one takes no entry. -/
def damageSet (buf : Nat) (r : List (Nat × Nat)) (s : State) : State :=
  { s with cfg := { s.cfg with damage := if r.isEmpty then tdel s.cfg.damage buf else tset s.cfg.damage buf r } }

/-- A range added to a record; a 65th range makes it the whole extent. -/
def damageAdd (buf len a n : Nat) (s : State) : State :=
  let r := rangeAdd (damageOf s buf) a n
  damageSet buf (if 64 < r.length then [(buf, len)] else r) s

/-- A range removed from a record, unless that would split a range of a full record. -/
def damageSub (buf a n : Nat) (s : State) : State :=
  let r := rangeTidy (rangeSub (damageOf s buf) a n)
  damageSet buf (if 64 < r.length then damageOf s buf else r) s

/-! ### The decoder error queue and the counts of R70 -/

/-- An entry of the error queue, or one SDEC_ERR_OVERFLOW while it is full (R106). -/
def addErr (e : ErrEntry) (s : State) : State :=
  if s.sdec.errs.length < 64 then { s with sdec := { s.sdec with errs := s.sdec.errs ++ [e] } }
  else if s.sdec.overflowed then s
  else raise 131 { s with sdec := { s.sdec with overflowed := true } }

/-- A block with a trusted Scene ID is complete; a LAST_IN_SCENE block raises the event (R70). -/
def sceneBlock (id : Nat) (last : Bool) (s : State) : State :=
  let n := tget s.cfg.sceneCount id 0 + 1
  if last then
    raise 130 { s with cfg := { s.cfg with sceneCount := tdel s.cfg.sceneCount id
                                           sceneEvents := (BitVec.ofNat 32 id, n) :: s.cfg.sceneEvents } }
  else { s with cfg := { s.cfg with sceneCount := tset s.cfg.sceneCount id n } }

/-! ### SCENE_LOAD results (R105, R419) -/

/-- An active SCENE_LOAD changed. -/
def onJob (tag : Nat) (f : LoadJob → LoadJob) (s : State) : State :=
  { s with sdec := { s.sdec with jobs := s.sdec.jobs.map (fun j => if j.tag = tag then f j else j) } }

/-- The first failure in stream order. -/
def firstFailure (old : Option (Nat × Nat × Nat × Nat × Nat)) (i st off blk pl : Nat) :
    Option (Nat × Nat × Nat × Nat × Nat) :=
  match old with
  | some x => if x.1 ≤ i then some x else some (i, st, off, blk, pl)
  | none => some (i, st, off, blk, pl)

/-- A failed block is entered: counter, error queue, black box, and the books of its command. -/
def blockFailed (tag i st eng id blk pl off : Nat) (s : State) : State :=
  let s1 := onJob tag (fun j => { j with failed := j.failed + 1, firstFail := firstFailure j.firstFail i st off blk pl }) s
  let s2 := addErr { status := st, tag := tag, engine := eng, sceneId := BitVec.ofNat 32 id, block := blk, plane := pl,
                     offset := off } (count .blocksFail s1)
  blackBoxSrc (if st = St.cvMismatch then 129 else 128) 0 s2

/-- The buffer of a plane that a descriptor pairs, other than a given one. -/
def otherBuf (d : List Byte) (buf : Nat) : Nat := if buf = dBaseB d then dBase d else dBaseB d

/-- The draft buffers of paired planes (R64, R71): of those that the draft set pairs, of those that the active set pairs,
and the destinations of carry-forward copies. -/
def draftExtents (s : State) : List (Nat × Nat) :=
  (List.range 64).flatMap (fun k =>
    let d := planeOf s.cfg.draft k
    let a := planeOf s.cfg.active k
    (if dPaired d then [(draftBuf s k d, dLen d)] else []) ++
    (if dPaired a then [(otherBuf a (namedBuf s.cfg.active k), dLen a)] else [])) ++
  s.cfg.carry.flatMap (fun c => c.ranges.map (fun r => (c.dst + r.1, r.2)))

/-- BLOCK_COUNT of a SCENE_LOAD in flight. -/
def blockCount (s : State) (tag : Nat) : Nat := ((flightOf s tag).map (fun f => pf f.p 0x14 2)).getD 0

/-- RESULT of a SCENE_LOAD (R419). -/
def loadResult (n : Nat) (j : LoadJob) : List Byte :=
  let (off, blk, pl) := match j.firstFail with
    | some (_, _, o, b, p) => (o, b, p)
    | none => (0, 0, 0)
  leBytes 4 (j.passed % 1024 + j.failed % 1024 * 2 ^ 10 + (n - j.passed - j.failed) % 1024 * 2 ^ 20) ++
  leBytes 4 (off % 2 ^ 28) ++ leBytes 4 (blk % 2 ^ 16 + pl % 2 ^ 16 * 2 ^ 16)

/-- A SCENE_LOAD completes when every block is complete or not attempted (R98). -/
def loadDone (tag : Nat) (s : State) : State :=
  match s.sdec.jobs.find? (fun j => j.tag == tag) with
  | some j =>
    if j.ended && !(s.sdec.blocks.any (fun b => b.tag == tag)) then
      let st := (j.firstFail.map (fun x => x.2.1)).getD St.ok
      finish tag { status := st, result := loadResult (blockCount s tag) j }
        { s with sdec := { s.sdec with jobs := s.sdec.jobs.filter (fun j => j.tag != tag) } }
    else s
  | none => s

/-! ### Blitter rectangles (Table 8-1) -/

/-- First byte and length of each row of a rectangle of a surface. -/
def rectRows (base pitch x y w h b : Nat) : List (Nat × Nat) :=
  (List.range h).map (fun j => (base + (y + j) * pitch + x * b, w * b))

/-- The destination rows of a Blitter operation. -/
def bltDstRows (d : List Byte) : List (Nat × Nat) :=
  rectRows (field d 8 4 * 256) (field d 0x0C 2 * 256) (field d 0x0E 2) (field d 0x10 2) (field d 0x12 2)
    (field d 0x14 2) (fmtBytes (byteAt d 1))

/-- The destination rectangle has undefined content (R208). -/
def bltUndef (d : List Byte) (s : State) : State := (bltDstRows d).foldl (fun t r => memUndef r.1 r.2 t) s

end Sys2Proof.Machine
end

