-- ==== Sys2Proof/Machine/Layers.lean ====
section
/-! DEFINITION. Layers, safety regions, targets and compose tiles (chapter 6). -/
namespace Sys2Proof.Machine

/-! ### Layer descriptors (Table 6-2) -/

def lSrc (d : List Byte) : Nat := byteAt d 0
def lFmt (d : List Byte) : Nat := byteAt d 1
def lTarget (d : List Byte) : Nat := byteAt d 2
def lFlag (d : List Byte) (n : Nat) : Bool := (byteAt d 3).testBit n
def lEnabled (d : List Byte) : Bool := lFlag d 0
def lLatch (d : List Byte) : Bool := lFlag d 3
def lOpaque (d : List Byte) : Bool := lFlag d 4
def lKey (d : List Byte) : Bool := lFlag d 2
def lIsCam (d : List Byte) : Bool := decide (1 ≤ lSrc d)
def lBase (d : List Byte) : Nat := field d 4 4 * 256
def lPitch (d : List Byte) : Nat := field d 8 2 * 256
def lAlpha (d : List Byte) : Nat := field d 0x0A 2
def lSx (d : List Byte) : Nat := field d 0x0C 2
def lSy (d : List Byte) : Nat := field d 0x0E 2
def lSw (d : List Byte) : Nat := field d 0x10 2
def lSh (d : List Byte) : Nat := field d 0x12 2
def lDx (d : List Byte) : Int := sext 16 (field d 0x14 2)
def lDy (d : List Byte) : Int := sext 16 (field d 0x16 2)
def lDw (d : List Byte) : Nat := field d 0x18 2
def lDh (d : List Byte) : Nat := field d 0x1A 2
def lScaler (d : List Byte) : Nat := byteAt d 0x1C
/-- A layer of a set; disabled until it is staged (R149). -/
def layerOf (c : ConfigSet) (l : Nat) : List Byte := tget c.layers l (List.replicate 48 0)
/-- The enabled layers of a set, ascending. -/
def enabledLayers (c : ConfigSet) : List Nat := (List.range 32).filter (fun l => lEnabled (layerOf c l))

/-! ### Safety regions (Table 6-7) -/

def rTarget (d : List Byte) : Nat := byteAt d 0
def rAction (d : List Byte) : Nat := byteAt d 1
def rEnabled (d : List Byte) : Bool := (byteAt d 2).testBit 0
def rX (d : List Byte) : Nat := field d 4 2
def rY (d : List Byte) : Nat := field d 6 2
def rW (d : List Byte) : Nat := field d 8 2
def rH (d : List Byte) : Nat := field d 0x0A 2
def rExpected (d : List Byte) : Nat := field d 0x0C 4
def rFbBase (d : List Byte) : Nat := field d 0x10 4 * 256
def rFbPitch (d : List Byte) : Nat := field d 0x14 2 * 256
def regionOf (c : ConfigSet) (n : Nat) : List Byte := tget c.safety n (List.replicate 32 0)
def enabledRegions (c : ConfigSet) : List Nat := (List.range 16).filter (fun n => rEnabled (regionOf c n))

/-! ### Targets and tiles (R121, R122, R137) -/

/-- Width and height of a target; target 64 is the flat plane. -/
def targetSize (c : ConfigSet) (t : Nat) : Nat × Nat :=
  if t = 64 then (4096, 2304) else (dW (planeOf c t), dH (planeOf c t))

/-- The targets active in a set. -/
def activeTargets (c : ConfigSet) : List Nat :=
  (List.range 65).filter (fun t =>
    (enabledLayers c).any (fun l => lTarget (layerOf c l) == t) ||
    (enabledRegions c).any (fun n => rTarget (regionOf c n) == t))

/-- The bounds of a signed span held to a target: first and end. -/
def clipSpan (x : Int) (w lim : Nat) : Nat × Nat := ((max x 0).toNat, (min (x + w) lim).toNat)

/-- The part of a layer's destination that lies in its target: x from, to, y from, to. -/
def layerClip (c : ConfigSet) (d : List Byte) : Nat × Nat × Nat × Nat :=
  let (w, h) := targetSize c (lTarget d)
  let (x0, x1) := clipSpan (lDx d) (lDw d) w
  let (y0, y1) := clipSpan (lDy d) (lDh d) h
  (x0, x1, y0, y1)

/-- Tiles per row of a target. -/
def tilesWide (c : ConfigSet) (t : Nat) : Nat := ((targetSize c t).1 + 63) / 64
def tilesHigh (c : ConfigSet) (t : Nat) : Nat := ((targetSize c t).2 + 63) / 64

/-- The tiles a rectangle touches. -/
def rectTiles (tw : Nat) (x0 x1 y0 y1 : Nat) : List Nat :=
  if x1 ≤ x0 ∨ y1 ≤ y0 then []
  else (List.range ((y1 + 63) / 64 - y0 / 64)).flatMap (fun j =>
    (List.range ((x1 + 63) / 64 - x0 / 64)).map (fun i => (y0 / 64 + j) * tw + x0 / 64 + i))

/-- The tiles a layer's destination touches. -/
def layerTiles (c : ConfigSet) (d : List Byte) : List Nat :=
  let (x0, x1, y0, y1) := layerClip c d
  rectTiles (tilesWide c (lTarget d)) x0 x1 y0 y1

/-- The tiles of a safety region. -/
def regionTiles (c : ConfigSet) (d : List Byte) : List Nat :=
  rectTiles (tilesWide c (rTarget d)) (rX d) (rX d + rW d) (rY d) (rY d + rH d)

/-- Every tile of a target. -/
def allTiles (c : ConfigSet) (t : Nat) : List Nat := List.range (tilesWide c t * tilesHigh c t)

/-- The union of two lists of tiles. -/
def tileUnion (a b : List Nat) : List Nat := a ++ b.filter (fun t => !a.contains t)

/-- A tile lies in a clipped rectangle, wholly or in part; an empty rectangle touches none. -/
def tileTouches (tw : Nat) (k x0 x1 y0 y1 : Nat) : Bool :=
  decide (x0 < x1) && decide (y0 < y1) && decide (k % tw * 64 < x1) && decide (x0 < k % tw * 64 + 64) &&
  decide (k / tw * 64 < y1) && decide (y0 < k / tw * 64 + 64)

/-- The facet load of R143, and the facet-latched layer whose scaled destination is too large. -/
def facetLoad (c : ConfigSet) : Nat × Option Nat :=
  let latched := (enabledLayers c).filter (fun l => lLatch (layerOf c l))
  let big := latched.find? (fun l => lScaler (layerOf c l) != 0xFF && decide (640 < (layerTiles c (layerOf c l)).length))
  let load := ((activeTargets c).map (fun t =>
    let mine := (enabledLayers c).filter (fun l => lTarget (layerOf c l) == t)
    let touched := (mine.filter (fun l => lLatch (layerOf c l))).foldl
      (fun acc l => tileUnion acc (layerTiles c (layerOf c l))) []
    let tw := tilesWide c t
    (touched.map (fun k => 1 + (mine.filter (fun l =>
      let (x0, x1, y0, y1) := layerClip c (layerOf c l)
      tileTouches tw k x0 x1 y0 y1)).length)).sum)).sum
  (load, big)

/-! ### Compositions -/

/-- A target's buffers changed. -/
def onTarget (t : Nat) (f : Target → Target) (s : State) : State :=
  { s with acc := { s.acc with targets := tset s.acc.targets t (f (tget s.acc.targets t {})) } }

/-- Tiles of an active target marked as changed for its next composition (R137). -/
def markTiles (t : Nat) (ts : List Nat) (s : State) : State :=
  if (tget? s.acc.targets t).isSome && !ts.isEmpty then
    onTarget t (fun x => { x with pendTiles := tileUnion x.pendTiles ts }) s
  else s

/-- The composition in progress is abandoned: its tiles are changed tiles of the next one (R141, R153). -/
def abandonComp (s : State) : State :=
  match s.acc.comp with
  | none => s
  | some c => c.tiles.foldl (fun t e => markTiles e.1 e.2 t) { s with acc := { s.acc with comp := none } }

/-! ### Camera ports -/

/-- A port parameter of a set (Table 6-9). -/
def camParam (c : ConfigSet) (port off : Nat) : Nat := setParam c (0x2140 + 16 * port + off)
/-- The seven parameters of a port. -/
def camParams (c : ConfigSet) (port : Nat) : List Nat := (List.range 7).map (camParam c port)
/-- An enabled camera layer of a set names a port. -/
def camNamed (c : ConfigSet) (port : Nat) : Bool := (enabledLayers c).any (fun l => lSrc (layerOf c l) == port + 1)

end Sys2Proof.Machine
end

