-- ==== Sys2Proof/Machine/Checks.lean ====
section
/-! DEFINITION. The commit checks: Table 16-1 with Tables 3-5 and 6-8 (R102, R256, R414). -/
namespace Sys2Proof.Machine

/-- A refusal of a commit: status, kind and index of the object named, and IN_DECODE. -/
structure Refuse where
  status : Nat
  kind : Nat := 0
  index : Nat := 0
  inDecode : Bool := false
  deriving DecidableEq, Repr

/-- The first index for which a check fails. -/
def firstBad (l : List Nat) (st kind : Nat) (bad : Nat → Bool) : Option Refuse :=
  (l.find? bad).map (fun i => { status := st, kind := kind, index := i })

/-- The first of several checks that fails. -/
def firstOf : List (Option Refuse) → Option Refuse
  | [] => none
  | some r :: _ => some r
  | none :: l => firstOf l

/-! ### Planes (Table 3-5) -/

/-- Check 2. -/
def planeFormatBad (d : List Byte) : Bool :=
  decide (3 < dFmt d) || decide (16 ≤ dFlags d) || decide (2 ^ 30 ≤ dMask d) ||
  (!dPaired d && dBaseB d != 0) || field d 0x1C 4 != 0 || !dispExtended (dDisp d) || (dOpaque d && dFmt d == 3)

/-- Check 3. Table 3-5 compares PITCH with the row only; that a PITCH outside the 1 to 256 of Table 3-2 is refused here is
the model's choice (DESIGN CHOICE, log 74). -/
def planeSizeBad (d : List Byte) : Bool :=
  decide (dW d < 16) || decide (4096 < dW d) || decide (dH d < 16) || decide (2304 < dH d) ||
  decide (field d 8 2 < 1) || decide (256 < field d 8 2) || decide (dPitch d < dW d * fmtBytes (dFmt d))

/-- The buffers of a plane. -/
def planeBufs (d : List Byte) : List Nat := if dPaired d then [dBase d, dBaseB d] else [dBase d]

/-- Check 4: extents in the heap; paired buffers apart from each other and from every other plane (R64). 'Any other plane
of the draft set' is read as planes 0 to N − 1, those the set shows, and not the descriptors above them (DESIGN CHOICE,
log 74). -/
def planeAddressBad (c : ConfigSet) (k : Nat) : Bool :=
  let d := planeOf c k
  (planeBufs d).any (fun b => !inHeap b (dLen d)) ||
  (dPaired d && (overlaps (dBase d) (dLen d) (dBaseB d) (dLen d) ||
    (List.range (planeCount c)).any (fun j => j != k &&
      (planeBufs (planeOf c j)).any (fun b => (planeBufs d).any (fun a => overlaps a (dLen d) b (dLen (planeOf c j)))))))

/-- Check 5: the enabled planes in disparity order; the later plane of the first pair out of order. -/
def orderBad (c : ConfigSet) : Option Nat :=
  let en := (List.range (planeCount c)).filter (fun k => dEnabled (planeOf c k))
  ((en.zip (en.drop 1)).find? (fun p =>
    disparity (dDisp (planeOf c p.1)) < disparity (dDisp (planeOf c p.2)))).map (·.2)

/-- Check 6: the entries of the note table from an entry on, with the plane they must start at and the class before. -/
def notesBad (c : ConfigSet) : List Note → Nat → Nat → Nat → Option Nat
  | [], i, next, _ => if next = planeCount c then none else some i
  | n :: ns, i, next, cls =>
    let a := disparity (dDisp (planeOf c n.first))
    let b := disparity (dDisp (planeOf c n.last))
    let m := disparity n.mergeD.toNat
    if n.first = next ∧ n.first ≤ n.last ∧ n.last < planeCount c ∧ n.cls ≤ 2 ∧ cls ≤ n.cls ∧ n.rsvd = 0 ∧
        dispExtended n.mergeD.toNat ∧ min a b ≤ m ∧ m ≤ max a b then notesBad c ns (i + 1) (n.last + 1) n.cls
    else some i

def planeChecks (c : ConfigSet) : Option Refuse :=
  let ks := List.range (planeCount c)
  firstOf [
    if 64 < planeCount c then some { status := St.planeCount } else none,
    firstBad ks St.planeFormat 1 (fun k => planeFormatBad (planeOf c k)),
    firstBad ks St.planeSize 1 (fun k => planeSizeBad (planeOf c k)),
    firstBad ks St.planeAddress 1 (planeAddressBad c),
    (orderBad c).map (fun k => { status := St.planeOrder, kind := 1, index := k }),
    (notesBad c c.notes 0 0 0).map (fun i => { status := St.noteBounds, kind := 2, index := i })]

/-! ### Damage and decoding (R102) -/

/-- A block in an engine writes into a buffer. -/
def inEngine (s : State) (a n : Nat) : Bool :=
  s.sdec.blocks.any (fun b => b.engine.isSome && overlaps b.dst b.ulen a n)

def damageCheck (s : State) (c : ConfigSet) : Option Refuse :=
  ((List.range (planeCount c)).find? (fun k => dEnabled (planeOf c k) &&
    (!(damageOf s (namedBuf c k)).isEmpty || inEngine s (namedBuf c k) (dLen (planeOf c k))))).map
    (fun k => { status := St.planeDamaged, kind := 1, index := k
                inDecode := (damageOf s (namedBuf c k)).isEmpty })

/-! ### Composer (Table 6-8) -/

/-- Check 1. -/
def layerFormatBad (d : List Byte) : Bool :=
  decide (4 < lSrc d) || decide (3 < lFmt d) || decide (32 ≤ byteAt d 3) || decide (1024 ≤ lAlpha d) ||
  field d 0x1D 3 != 0 || decide (2 ^ 30 ≤ field d 0x20 4) || decide (2 ^ 30 ≤ field d 0x24 4) ||
  decide (2 ^ 30 ≤ field d 0x28 4) || field d 0x2C 4 != 0 ||
  (lIsCam d && (lFmt d != 0 || lBase d != 0 || lPitch d != 0)) ||
  (lKey d && decide (2 ≤ lFmt d)) || (lOpaque d && lFmt d == 3) || (lLatch d && !lIsCam d)

/-- A target exists in a set. -/
def targetBad (c : ConfigSet) (t : Nat) : Bool := decide (64 < t) || (t != 64 && decide (planeCount c ≤ t))

/-- Check 3. -/
def layerGeometryBad (c : ConfigSet) (d : List Byte) : Bool :=
  let b := fmtBytes (lFmt d)
  decide (lSw d < 1) || decide (8192 < lSw d) || decide (lSh d < 1) || decide (4096 < lSh d) ||
  decide (lDx d < -4096) || decide (4095 < lDx d) || decide (lDy d < -2304) || decide (2303 < lDy d) ||
  decide (lDw d < 1) || decide (4096 < lDw d) || decide (lDh d < 1) || decide (2304 < lDh d) ||
  (if lIsCam d then
    decide (camParam c (lSrc d - 1) 4 < lSx d + lSw d) || decide (camParam c (lSrc d - 1) 5 < lSy d + lSh d)
   else
    decide (lPitch d < 256) || decide (256 * 256 < lPitch d) || decide (lPitch d < (lSx d + lSw d) * b) ||
    !inHeap (lBase d) ((lSy d + lSh d - 1) * lPitch d + (lSx d + lSw d) * b)) ||
  (lScaler d == 0xFF && (lDw d != lSw d || lDh d != lSh d))

/-- A ratio SRC/DST lies from 1/16 to 4 (R134). -/
def ratioOk (src dst : Nat) : Bool := decide (dst ≤ 16 * src) && decide (src ≤ 4 * dst)

/-- Check 4. -/
def scalerBad (d : List Byte) : Bool :=
  lScaler d != 0xFF &&
  (decide (7 < lScaler d) || !ratioOk (lSw d) (lDw d) || !ratioOk (lSh d) (lDh d))

/-- Check 5: the later of two enabled layers that name one scaler. -/
def scalerClash (c : ConfigSet) : Option Nat :=
  (enabledLayers c).find? (fun l => lScaler (layerOf c l) != 0xFF &&
    (enabledLayers c).any (fun m => decide (m < l) && lScaler (layerOf c m) == lScaler (layerOf c l)))

/-- The source span of a scaled layer (R136). -/
def lineSpan (c : ConfigSet) (d : List Byte) : Nat :=
  let (x0, x1, _, _) := layerClip c d
  min (lSw d) (((x1 - x0) * lSw d + lDw d - 1) / lDw d + 7)

/-- Check 7 for one region, its share of the total area apart. Table 6-8 does not list reserved fields and the range of
W and H; that an enabled region with non-zero reserved fields, or with W or H outside 1 to 1,024, fails here is the
model's choice (DESIGN CHOICE, log 74). -/
def regionBad (c : ConfigSet) (d : List Byte) : Bool :=
  let (w, h) := targetSize c (rTarget d)
  targetBad c (rTarget d) || decide (rW d < 1) || decide (1024 < rW d) || decide (rH d < 1) || decide (1024 < rH d) ||
  decide (w < rX d + rW d) || decide (h < rY d + rH d) || decide (2 < rAction d) ||
  decide (2 ≤ byteAt d 2) || byteAt d 3 != 0 || field d 0x16 10 != 0 ||
  (rAction d == 1 && (decide (rFbPitch d < 256) || decide (128 * 256 < rFbPitch d) ||
    !inHeap (rFbBase d) ((rH d - 1) * rFbPitch d + rW d * 8)))

/-- The region at which the total area of the enabled regions passes 524,288 pixels (R145). -/
def areaBad (c : ConfigSet) : Option Nat :=
  (enabledRegions c).find? (fun n => decide (524288 <
    (((enabledRegions c).filter (· ≤ n)).map (fun m => rW (regionOf c m) * rH (regionOf c m))).sum))

def composerChecks (c : ConfigSet) : Option Refuse :=
  let ls := enabledLayers c
  let rs := enabledRegions c
  firstOf [
    firstBad ls St.layerFormat 3 (fun l => layerFormatBad (layerOf c l)),
    firstBad ls St.layerTarget 3 (fun l => targetBad c (lTarget (layerOf c l))),
    firstBad ls St.layerGeometry 3 (fun l => layerGeometryBad c (layerOf c l)),
    firstBad ls St.scalerRatio 3 (fun l => scalerBad (layerOf c l)),
    (scalerClash c).map (fun l => { status := St.scalerConflict, kind := 3, index := l }),
    firstBad ls St.linebufShort 3 (fun l => lScaler (layerOf c l) != 0xFF && decide (4096 < lineSpan c (layerOf c l))),
    firstBad rs St.safetyRegion 4 (fun n => regionBad c (regionOf c n)),
    (areaBad c).map (fun n => { status := St.safetyRegion, kind := 4, index := n }),
    if 33 < (activeTargets c).length then some { status := St.composeTargets } else none,
    (facetLoad c).2.map (fun l => { status := St.facetLoad, kind := 3, index := l }),
    if 1280 < (facetLoad c).1 then some { status := St.facetLoad } else none]

/-! ### The whole list (Table 16-1) -/

/-- Check 1: the ray-map slot selected (R45, R46). The refusal names the slot as kind 6, and with RAYMAP_SELECT at 0xFF
the index 0xFF, which the rule leaves open (DESIGN CHOICE, log 74). -/
def raymapCheck (s : State) (c : ConfigSet) : Option Refuse :=
  let n := setParam c 0x1000
  if n = 0xFF then (if c.mode = .lightfield then some { status := St.raymapEmpty, kind := 6, index := n } else none)
  else if s.rmap.state.getD n .empty = .ready then none
  else some { status := St.raymapEmpty, kind := 6, index := n }

/-- Check 6: a capture region that is on (R524). -/
def captureBad (c : ConfigSet) (r : SilRegion) : Bool :=
  let (w, h) := targetSize c r.target
  r.rate != 0 && (targetBad c r.target || decide (w < r.x + r.w) || decide (h < r.y + r.h))

def commitChecks (s : State) (c : ConfigSet) : Option Refuse :=
  firstOf [raymapCheck s c, planeChecks c, damageCheck s c, composerChecks c,
    if 1376 < setParam c 0x4200 + setParam c 0x4201 + setParam c 0x4203 then some { status := St.scanTiming } else none,
    firstBad (List.range 8) St.silRegion 0 (fun n => captureBad c (tget c.regions n {}))]

end Sys2Proof.Machine
end

