-- ==== Sys2Proof/Machine/Requests.lean ====
section
/-! DEFINITION. The requests of stacked memory: how an access is split into them, their pools and bank queues, the pick of
a command slot, rows, activate counts and the retry buffers (R333 to R336, R339 to R342, R347). -/
namespace Sys2Proof.Machine

/-- A bank's key: 64 × pseudo-channel + bank number. -/
def bankKey (pc bank : Nat) : Nat := pc * 64 + bank

/-- The bank of a request. -/
def reqBank (r : MemReq) : Nat := bankKey r.pc r.bank

/-- Requests are served: the stacks are trained and not in self-refresh. -/
def memRuns (s : State) : Bool := memServed s && !s.pwr.episode

/-- PHASE of MEM_STATUS (R340): 0 service, 1 start-up, 2 test, 3 recovery: a channel is retrained, a frequency change
verifies, or the scrub after an uncorrectable error runs. -/
def memPhase (s : State) : Nat :=
  if !s.hif.ready then 1
  else if s.cond.mode = .test then 2
  else if s.mem.retraining.isEmpty && s.mem.scrub.isEmpty && !(s.mem.changing.isSome && s.mem.verifying) then 0
  else 3

/-! ### Requesters (Table 13-3, Table 13-4) -/

/-- The requesters of the guaranteed class: SCO, CIN and SIL. -/
def guaranteed (req : Nat) : Bool := req == 4 || req == 6 || req == 7

/-- The deadline of a request issued at a time, in ns: SCO takes its stated tolerance (R253), CIN 20 µs, SIL 100 µs. -/
def memDeadline (s : State) (req time : Nat) : Nat :=
  time + (if req = 4 then s.sco.tolerance else if req = 6 then 20000 else if req = 7 then 100000 else 0)

/-- The page hint of a requester: 1 OPEN, 2 CLOSE, 3 NONE (Table 13-3, MEM_PAGE_OVERRIDE). -/
def pageHint (s : State) (req : Nat) : Nat :=
  let o := par s 0x8008 / 4 ^ req % 4
  if o ≠ 0 then o else [1, 3, 1, 1, 1, 1, 1, 3, 1, 2].getD req 3

/-- The account that a weighted request is served under: its requester; the writes of RAY have one of their own, 10. -/
def reqAccount (r : MemReq) : Nat := if r.req = 3 ∧ r.write then 10 else r.req

/-- The weight of an account (Table 13-3). -/
def memWeight (acct : Nat) : Nat := [16, 1, 4, 16, 1, 2, 1, 1, 4, 2, 16].getD acct 1

/-- The cap of a requester in GB/s at the pressure level in force; none where Table 13-4 gives no cap. For RAY it is the
grant of its plane reads. -/
def requesterCap (s : State) (req : Nat) : Option Nat :=
  let p := min 4 s.mem.pressure
  match req with
  | 0 => [none, none, some 16, some 8, some 8].getD p none
  | 2 => [none, none, none, some 20, some 20].getD p none
  | 3 => some (if p = 4 then 100 else 180)
  | 5 => [none, some 4, some 0, some 0, some 0].getD p none
  | 8 => [none, none, some 8, some 4, some 4].getD p none
  | _ => none

/-! ### Splitting and placing (R333) -/

/-- The pieces of a range between two addresses that do not cross a 256-byte boundary: first byte and length. -/
def pieces : Nat → Nat → Nat → List (Nat × Nat)
  | 0, _, _ => []
  | n + 1, a, e =>
    if e ≤ a then []
    else
      let b := min e ((a / 256 + 1) * 256)
      (a, b - a) :: pieces n b e

/-- The requests of an access: whole granules, 64 to 256 bytes each, in one pseudo-channel and one page (R333). -/
def splitAsk (s : State) (q : MemAsk) : List MemReq :=
  let a := q.addr / 64 * 64
  let e := min memSize ((q.addr + max 1 q.len + 63) / 64 * 64)
  (pieces ((e - a) / 64) a e).map (fun x =>
    let (pc, l) := interleave x.1
    let (b, r) := bankRow l
    { req := q.req, addr := x.1, len := x.2, write := q.write, deadline := memDeadline s q.req q.time
      pc := pc, bank := b, row := r })

/-- The pool of a pseudo-channel has room for a request: 128 entries, 32 of them kept for the guaranteed class. -/
def poolRoom (m : Mem) (r : MemReq) : Bool :=
  let here := m.pool.filter (fun x => x.pc == r.pc)
  decide (here.length < 128) && (guaranteed r.req || decide ((here.filter (fun x => !guaranteed x.req)).length < 96))

/-- A request enters the pool of its pseudo-channel, or waits at its requester behind those of it that wait already. -/
def placeReq (r : MemReq) (m : Mem) : Mem :=
  if m.held.any (fun x => x.req == r.req && x.pc == r.pc) || !poolRoom m r then { m with held := m.held ++ [r] }
  else { m with pool := m.pool ++ [r] }

/-- Requests in order of issue. -/
def placeAll (rs : List MemReq) (m : Mem) : Mem := rs.foldl (fun m r => placeReq r m) m

/-- The requests of accesses enter, those that wait at their requesters first. While an operating point changes, new
requests are held (Table 13-7). -/
def takeAsks (asks : List MemAsk) (s : State) : State :=
  let new := asks.flatMap (splitAsk s)
  if s.mem.changing.isSome then onMem (fun m => { m with held := m.held ++ new }) s
  else onMem (fun m => placeAll (m.held ++ new) { m with held := [] }) s

/-- The queue of a bank, oldest first. -/
def bankQueue (m : Mem) (k : Nat) : List MemReq := m.pool.filter (fun r => reqBank r == k)

/-! ### Commands and rows (R336, R341, R342, R347) -/

/-- A command on a channel: it enters the channel's retry buffer, the last 64. -/
def issueCmd (k : Nat) (c : MemCmd) (s : State) : State :=
  let ch := chanOf (k / 64)
  onMem (fun m => { m with buffer := tset m.buffer ch ((k, c) :: (tget m.buffer ch []).take 63) }) s

/-- An activate-count table with one activate more of a row: a free entry or the smallest one is taken (R342). -/
def actEnter (t : List (Nat × Nat)) (row : Nat) : List (Nat × Nat) :=
  if t.any (fun e => e.1 == row) then t.map (fun e => if e.1 = row then (row, e.2 + 1) else e)
  else if t.length < 32 then t ++ [(row, 1)]
  else
    let m := (t.map (·.2)).foldl min ((t.head?.map (·.2)).getD 0)
    match t.findIdx? (fun e => e.2 == m) with
    | some i => t.set i (row, m + 1)
    | none => t

/-- An activate is counted: in service by bank (R341), in the other phases in the bank's table (R342). -/
def countActivate (k row : Nat) (s : State) : State :=
  if memPhase s = 0 then onMem (fun m => { m with acts := tset m.acts k (tget m.acts k 0 + 1) }) s
  else onMem (fun m => { m with actTable := tset m.actTable k (actEnter (tget m.actTable k []) row) }) s

/-- A bank is activated. -/
def activate (k row : Nat) (s : State) : State :=
  countActivate k row (issueCmd k (.act row)
    (onMem (fun m => { m with openRow := tset m.openRow k row, hits := tdel m.hits k }) s))

/-- A bank is precharged. -/
def precharge (k : Nat) (s : State) : State :=
  issueCmd k .pre (onMem (fun m => { m with
    openRow := tdel m.openRow k, hits := tdel m.hits k, closeIdle := m.closeIdle.filter (· != k) }) s)

/-- A refresh of a bank: its row closes, its activates count from 0, its waiting requests go on (R339, R341). -/
def refreshBank (k : Nat) (s : State) : State :=
  issueCmd k .refresh (onMem (fun m => { m with
    due := tdel m.due k, acts := tdel m.acts k, bankWait := m.bankWait.filter (· != k)
    openRow := tdel m.openRow k, hits := tdel m.hits k, closeIdle := m.closeIdle.filter (· != k) }) s)

/-- A refresh management command to a bank, which closes its row first. -/
def issueRfm (k : Nat) (s : State) : State :=
  issueCmd k .rfm (if (tget? s.mem.openRow k).isSome then precharge k s else s)

/-- All banks refreshed, with the queues empty (Table 13-7): no row is open, nothing waits and every count starts anew. -/
def refreshAll (m : Mem) : Mem :=
  { m with pool := [], due := [], acts := [], bankWait := [], openRow := [], hits := [], closeIdle := [] }

/-- A queued request hits the open row of a bank. -/
def rowHit (m : Mem) (k : Nat) : Bool :=
  match tget? m.openRow k with
  | some r => (bankQueue m k).any (fun x => x.row == r)
  | none => false

/-- The row after the last column command of a request, by its hint (R336): CLOSE precharges at once unless a queued
request hits it, NONE as soon as none does, OPEN leaves it. -/
def rowAfter (hint k : Nat) (s : State) : State :=
  let hit := rowHit s.mem k
  if hint = 1 then (if !hit && s.mem.closeIdle.contains k then precharge k s else s)
  else if !hit then precharge k s
  else if hint = 3 then onMem (fun m => { m with closeIdle := insertNat k m.closeIdle }) s
  else s

/-- The column commands of a request: it leaves the pool, its bytes are served, the row is handled by its hint. -/
def serveReq (r : MemReq) (s : State) : State :=
  let k := reqBank r
  let a := r.pc * 16 + reqAccount r
  rowAfter (pageHint s r.req) k (issueCmd k (.column r.row r.write) (onMem (fun m => { m with
    pool := m.pool.erase r
    hits := tset m.hits k (tget m.hits k 0 + 1)
    retries := tdel m.retries (chanOf r.pc)
    served := if guaranteed r.req then m.served else tset m.served a (tget m.served a 0 + r.len) }) s))

/-- The next command of a request: a precharge of another row, an activate, or its column commands, with which it is
served. -/
def nextCommand (r : MemReq) (s : State) : Option MemReq × State :=
  let k := reqBank r
  match tget? s.mem.openRow k with
  | none => (none, activate k r.row s)
  | some row => if row = r.row then (some r, serveReq r s) else (none, precharge k s)

/-! ### The pick (R335) -/

/-- A bank has passed a limit whose RFM is still to be issued: it issues nothing else (R341, R342). -/
def rfmPending (s : State) (k : Nat) : Bool :=
  if memPhase s = 0 then decide (par s 0x8002 < tget s.mem.acts k 0) && !s.mem.bankWait.contains k
  else (tget s.mem.actTable k []).any (fun e => decide (par s 0x8003 ≤ e.2))

/-- The request with the earliest deadline, the oldest on a tie. -/
def earliest : List MemReq → Option MemReq
  | [] => none
  | r :: rs => match earliest rs with
    | some x => if x.deadline < r.deadline then some x else some r
    | none => some r

/-- The request whose account has the least served bytes divided by weight at its pseudo-channel, the oldest on a tie. -/
def leastServed (m : Mem) : List MemReq → Option MemReq
  | [] => none
  | r :: rs => match leastServed m rs with
    | some x =>
      let of (y : MemReq) : Nat := tget m.served (y.pc * 16 + reqAccount y) 0
      if of x * memWeight (reqAccount r) < of r * memWeight (reqAccount x) then some x else some r
    | none => some r

/-- The chosen weighted request of a bank: one that hits the open row while fewer than 16 hits in a row have been served,
else by served bytes; none while the bank waits for a refresh (R341). -/
def chosenWeighted (m : Mem) (k : Nat) : Option MemReq :=
  if m.bankWait.contains k then none
  else
    let q := (bankQueue m k).filter (fun r => !guaranteed r.req)
    match q.find? (fun r => decide (tget m.hits k 0 < 16) && tget? m.openRow k == some r.row) with
    | some r => some r
    | none => leastServed m q

/-- The chosen request of a bank in the classes urgent 0, guaranteed 1 and weighted 3. -/
def chosenReq (s : State) (cls k : Nat) : Option MemReq :=
  match cls with
  | 0 => if scoUrgent s then (bankQueue s.mem k).find? (fun r => r.req == 4) else none
  | 1 => earliest ((bankQueue s.mem k).filter (fun r => guaranteed r.req))
  | _ => chosenWeighted s.mem k

/-- A bank has something to issue in a class; class 2 is its due refresh. -/
def hasChoice (s : State) (cls k : Nat) : Bool :=
  if cls = 2 then (tget? s.mem.due k).isSome else (chosenReq s cls k).isSome

/-- The banks of a pseudo-channel counting upward from rot[p]. -/
def banksFrom (m : Mem) (pc : Nat) : List Nat := (List.range 64).map (fun i => (tget m.rotp pc 0 + i) % 64)

/-- A bank whose refresh has been postponed 8 times; the count of `due` is 1 where it has not been postponed. -/
def overdue (m : Mem) (pc : Nat) : Option Nat :=
  (banksFrom m pc).find? (fun b => decide (9 ≤ tget m.due (bankKey pc b) 0))

/-- The pick of a command slot: class and bank, of the banks whose next command can be issued now (R335). -/
def pickBank (s : State) (pc : Nat) (ready : List Nat) : Option (Nat × Nat) :=
  let free := (banksFrom s.mem pc).filter (fun b => ready.contains b && !rfmPending s (bankKey pc b))
  [0, 1, 2, 3].findSome? (fun c => (free.find? (fun b => hasChoice s c (bankKey pc b))).map (fun b => (c, b)))

/-- rot[p] after an issue at a bank. -/
def rotAfter (pc b : Nat) (s : State) : State := onMem (fun m => { m with rotp := tset m.rotp pc ((b + 1) % 64) }) s

/-- A pseudo-channel issues commands: its channel is not in retraining and has not failed. -/
def chanRuns (m : Mem) (pc : Nat) : Bool := !m.retraining.contains (chanOf pc) && !m.chanFail.getLsbD (chanOf pc)

/-- One command slot of a pseudo-channel, and the request that it serves, if any (R335). -/
def memSlot (pc : Nat) (ready : List Nat) (s : State) : Option MemReq × State :=
  if !chanRuns s.mem pc then (none, s)
  else match overdue s.mem pc with
    | some b => (none, refreshBank (bankKey pc b) s)
    | none => match pickBank s pc ready with
      | none => (none, s)
      | some (c, b) =>
        let k := bankKey pc b
        if c = 2 then (none, rotAfter pc b (refreshBank k s))
        else match chosenReq s c k with
          | some r =>
            let (x, s1) := nextCommand r s
            (x, rotAfter pc b s1)
          | none => (none, s)

/-- Command slots in order, and the last read they serve. -/
def memSlots (pc : Nat) : List (List Nat) → Option MemReq → State → Option MemReq × State
  | [], x, s => (x, s)
  | ready :: rest, x, s =>
    let (y, s1) := memSlot pc ready s
    memSlots pc rest (match y with
      | some r => if r.write then x else some r
      | none => x) s1

/-! ### Replay (R347) -/

/-- A buffered command issued again; rows are opened again as needed. -/
def replayCmd (e : Nat × MemCmd) (s : State) : State :=
  match e.2 with
  | .act row => countActivate e.1 row (onMem (fun m => { m with openRow := tset m.openRow e.1 row }) s)
  | .column row _ =>
    if tget? s.mem.openRow e.1 = some row then s
    else countActivate e.1 row (onMem (fun m => { m with openRow := tset m.openRow e.1 row }) s)
  | .pre | .refresh | .rfm => onMem (fun m => { m with openRow := tdel m.openRow e.1 }) s

/-- Every bank of a channel is precharged, and the newest `n` of its buffered commands are issued again in their first
order. -/
def replay (chan n : Nat) (s : State) : State :=
  let s1 := onMem (fun m => { m with openRow := m.openRow.filter (fun e => chanOf (e.1 / 64) != chan) }) s
  ((tget s.mem.buffer chan []).take n).reverse.foldl (fun t e => replayCmd e t) s1

/-- A control core access to a poisoned granule, or where no device address holds anything, ends in a bus error, which
firmware records (R330, Tables 13-5 and 20-9). -/
def busError (a : Nat) (s : State) : State := blackBox 0x0203 0xFF (BitVec.ofNat 32 a) s

/-! ### Entries of the Recorder (R350) -/

/-- The Recorder writes to the ring; while an operating point changes, the entry is held on the die. -/
def silStore (a : Nat) (bs : List Byte) (s : State) : State :=
  if s.mem.changing.isSome then { s with sil := { s.sil with held := s.sil.held ++ [(a, bs)] } }
  else onMem (memStore a bs) s

/-- The entries held go to the ring. -/
def silRelease (s : State) : State :=
  onMem (fun m => s.sil.held.foldl (fun m e => memStore e.1 e.2 m) m) { s with sil := { s.sil with held := [] } }

/-- Requests that are not yet issued are lost: the bytes that they would have written are undefined (R353). -/
def loseRequests (s : State) : State :=
  let s1 := (s.mem.pool ++ s.mem.held).foldl (fun t r => if r.write then memUndef r.addr r.len t else t) s
  let s2 := s.sil.held.foldl (fun t e => memUndef e.1 e.2.length t) s1
  { s2 with mem := { s2.mem with pool := [], held := [] }, sil := { s2.sil with held := [] } }

/-- Requests not yet issued of the requesters that COAST stops are discarded: SDEC, ACC, RAY, BLT and CIN (R34, R355). -/
def coastRequests (m : Mem) : Mem :=
  let keep (r : MemReq) : Bool := !([0, 2, 3, 5, 6].contains r.req)
  { m with pool := m.pool.filter keep, held := m.held.filter keep }

end Sys2Proof.Machine
end

