-- ==== Sys2Proof/Machine/Record.lean ====
section
/-! DEFINITION. The Sillage record and the black-box slots (chapter 20): records, chain, seals, frame entries, segments. -/
namespace Sys2Proof.Machine

/-- The 12 ASCII bytes of the serial number (Table 0-1). -/
def serialBytes : List Byte := (List.range 12).map Config.serialByte
/-- The seal key (R523). -/
def sealKey : List Byte := (List.range 32).map Config.sealKeyByte

/-- 64-byte units of the record ring (R515). -/
def recUnits : Nat := 0x100000

/-- A record before its CHECK: header and body padded to its length (Table 20-1). -/
def recordHead (type kind len64 rseq : Nat) (body : List Byte) : List Byte :=
  leBytes 1 type ++ leBytes 1 kind ++ leBytes 2 len64 ++ leBytes 4 rseq ++ padTo (64 * len64 - 12) body

/-- Bytes closed with the CRC-32C of all before it (R517). -/
def withCheck (bs : List Byte) : List Byte := bs ++ leBytes 4 (crc32c bs).toNat

/-- One record of the chain: RSEQ, chain value and last record move on (R517, R521). -/
def chainRecord (type kind len64 : Nat) (body : List Byte) (s : State) : List Byte × State :=
  let rseq := (s.sil.rseq + 1) % 2 ^ 32
  let bs := withCheck (recordHead type kind len64 rseq body)
  (bs, { s with sil := { s.sil with rseq := rseq, chain := sha256 (s.sil.chain ++ bs) } })

/-- One record written at the head of the record ring. A seal that would begin in the last unit starts at offset 0,
and that unit is written with zeros (R515). -/
def writeRecord (type kind len64 : Nat) (body : List Byte) (s : State) : State :=
  let wrap := len64 = 2 && s.sil.recHead = recUnits - 1
  let s0 := if wrap then silStore (silBase + 64 * s.sil.recHead) (List.replicate 64 0) s else s
  let off := if wrap then 0 else s.sil.recHead
  let (bs, s1) := chainRecord type kind len64 body s0
  let s2 := silStore (silBase + 64 * off) bs s1
  { s2 with sil := { s2.sil with
      recHead := (off + len64) % recUnits
      records := { rseq := s2.sil.rseq, off := off, chain := s.sil.chain, bytes := bs } :: s2.sil.records
      flushedAll := false } }

/-- The body of a seal (Table 20-5), bytes 0x08 to 0x7B: its MAC covers bytes 0x00 to 0x4F. -/
def sealBody (s : State) (cause : Nat) : List Byte :=
  let fixed := leBytes 4 (s.sil.sealSeq + 1) ++ leBytes 4 s.pwr.boot ++ timeBytes (stampTime s) ++
    leBytes 1 cause ++ [0, 0, 0] ++ padTo 32 s.sil.chain ++ serialBytes ++ leBytes 4 Config.keyId.toNat
  let first := leBytes 1 3 ++ leBytes 1 0 ++ leBytes 2 2 ++ leBytes 4 ((s.sil.rseq + 1) % 2 ^ 32) ++ fixed
  fixed ++ hmacSha256 sealKey first

/-- What every seal does beside its record: SEAL_SEQ, source 244 and the second it opens (R522). -/
def sealNote (s : State) : State :=
  raise 244 { s with sil := { s.sil with
    sealSeq := (s.sil.sealSeq + 1) % 2 ^ 32, afterSeal := true, freeNs := s.clock, sealNext := false } }

/-- A seal written to the ring (R522). -/
def writeSeal (cause : Nat) (s : State) : State := sealNote (writeRecord 3 0 2 (sealBody s cause) s)

/-- The Recorder starts in a mode in which it runs; after a cold episode the ring starts with its seal (R516, R521). -/
def startRecorder (s : State) : State :=
  let s1 := { s with sil := { s.sil with running := true, stopped := false } }
  if s1.sil.chain.isEmpty then
    writeSeal 1 { s1 with sil := { s1.sil with chain := sha256 (serialBytes ++ leBytes 4 s.pwr.boot) } }
  else s1

/-! ### Frame entries (R518 to R520) -/

/-- Code of a facet outcome (Table 20-3). -/
def outcomeCode : Facet → Nat
  | .fresh => 0 | .repeated => 1 | .dark | .none => 2

/-- The facet word (Table 20-3). -/
def facetWord (f : FacetRec) : Nat :=
  f.ofs % 4096 + outcomeCode f.outcome * 2 ^ 12 + bit f.tcBypass 14 + bit f.flatBuilt 15 +
  f.levelStart % 32 * 2 ^ 16 + f.levelEnd % 32 * 2 ^ 21 + f.escalations % 16 * 2 ^ 26 +
  bit (f.underrun.any (· != 0)) 30 + bit f.abandoned 31

/-- LOCK of the rotor as a code (Table 9-10). -/
def lockCode : Lock → Nat
  | .off => 0 | .acquiring => 1 | .locked => 2

/-- Class code of a crack loop (Table 12-12). -/
def crkCode : CrkClass → Nat
  | .ok => 0 | .high => 1 | .opened => 2 | .shorted => 3

/-- The result of a safety region in the frame under way: 0 when its set does not enable it (R148). -/
def safetyCode (s : State) (n : Nat) : Nat :=
  if (enabledRegions s.sco.frameSet).contains n then (s.acc.safety.getD n {}).state % 4 else 0

/-- The result of each safety region, two bits each (R148). -/
def safetyBits (s : State) : Nat := ((List.range 16).map (fun n => safetyCode s n * 4 ^ n)).sum

/-- FLAGS of the frame entry (Table 20-3). -/
def frameFlags (s : State) (coast noAngle : Bool) : Nat :=
  bit coast 0 + bit noAngle 1 + bit s.tu.pendStep 2 + bit s.tu.stepRec.isSome 3 + bit s.cfg.skipped.isSome 4 +
  bit (s.acc.ports.any (·.staleFrame)) 5 + bit (s.bl.faultNew != 0) 6 + bit (!s.sil.marks.isEmpty) 7 + bit s.sil.frameOpen 8 +
  bit s.sil.frameHalt 9 + bit s.sil.warmFrame 10 + bit s.mem.freqFrame 11

/-- The body of a frame entry, bytes 0x08 to 0x3B (Table 20-2). -/
def frameBody (s : State) (coast noAngle : Bool) : List Byte :=
  leBytes 8 s.sil.frameEpoch ++ timeBytes (if noAngle then stampTime s else s.rot.startTime) ++
  leBytes 2 (if noAngle then 0 else s.sil.frameRev) ++ leBytes 1 (modeCode s.sil.frameMode) ++ leBytes 1 (condBits s) ++
  ((List.range 4).flatMap (fun j => leBytes 4 (facetWord (if noAngle then {} else s.sco.frame.getD j {})))) ++
  leBytes 2 (((List.range 4).map (fun j => (s.sco.frame.getD j {}).step % 16 * 16 ^ j)).sum) ++
  leBytes 1 s.bl.cap ++
  leBytes 1 (lockCode s.rot.lock + par s 0x4500 % 4 * 4 + crkCode (s.pnl.crk.getD 0 .ok) * 16 +
    crkCode (s.pnl.crk.getD 1 .ok) * 64) ++
  leBytes 2 (wrapTo 16 s.rot.phaseErr) ++ leBytes 4 (safetyBits s) ++ leBytes 2 (frameFlags s coast noAngle)

/-- The results that a Coast seals are those of the last completed compositions, whichever frame they serve (R153). -/
def coastSafety (s : State) : State :=
  { s with acc := { s.acc with
      safety := List.zipWith (fun now next => if next.state = 3 then now else next) s.acc.safety s.acc.safetyAhead
      safetyNew := s.acc.safetyNew || s.acc.safetyNewAhead } }

/-- A detail record (Table 20-4). -/
def writeDetail (kind : Nat) (body : List Byte) (s : State) : State := writeRecord 2 kind 1 body s

/-- Body of a SAFETY detail for eight regions from `n` (Table 20-4, kinds 1 and 2). -/
def safetyBody (s : State) (n : Nat) : List Byte :=
  ((List.range 8).flatMap (fun i => leBytes 4 (s.acc.safety.getD (n + i) {}).crc.toNat)) ++
  leBytes 2 (((List.range 8).map (fun i => (s.acc.safety.getD (n + i) {}).act % 4 * 4 ^ i)).sum)

/-- Body of an UNDERRUN detail (kind 3). -/
def underrunBody (s : State) : List Byte :=
  (List.range 4).flatMap (fun j => (List.range 4).flatMap (fun q =>
    leBytes 2 (((s.sco.frame.getD j {}).underrun.getD q 0) % 65536)))

/-- Body of a CAMERA detail (kind 4). -/
def cameraBody (s : State) (port : Nat) : List Byte :=
  leBytes 1 port ++ leBytes 1 (bit (s.acc.ports.getD port {}).staleFrame 0) ++ [0, 0] ++
  (List.range 4).flatMap (fun j => leBytes 4 (tget (s.sco.frame.getD j {}).camSeq port 0))

/-- Body of a TIME detail (kind 5). -/
def timeBody (s : State) : List Byte :=
  let (a, b, o) := s.tu.stepRec.getD (s.tu.time, s.tu.time, s.tu.pendOff)
  timeBytes a ++ timeBytes b ++ leBytes 1 s.tu.tseq ++ List.replicate 7 0 ++ leBytes 8 (wrapTo 64 o)

/-- Body of a THUMB detail (kind 9, R525). -/
def thumbBody (t : ThumbRec) : List Byte :=
  leBytes 1 t.region ++ leBytes 1 t.status ++ [0, 0] ++ leBytes 4 t.rseq ++ leBytes 4 t.offset ++
  leBytes 4 t.stream.length ++ sha256 t.stream

/-- The THUMB details, the streams of complete ones kept for the flush. -/
def writeThumbs (ts : List ThumbRec) (s : State) : State :=
  ts.foldl (fun s t =>
    let s1 := writeDetail 9 (thumbBody t) s
    if t.status = 0 then { s1 with sil := { s1.sil with kept := tset s1.sil.kept s1.sil.rseq t.stream } } else s1) s

/-- The detail records of a frame in ascending KIND (R518, R520). -/
def writeDetails (s : State) : State :=
  let s1 := when (s.acc.safetyNew || s.sil.afterSeal || par s 0x9001 == 1)
    (fun t => writeDetail 2 (safetyBody t 8) (writeDetail 1 (safetyBody t 0) t)) s
  let s2 := when (s.sco.frame.any (fun f => f.underrun.any (· != 0))) (fun t => writeDetail 3 (underrunBody t) t) s1
  let s3 := ((List.range 4).filter (fun p => (s.acc.ports.getD p {}).inFrame)).foldl
    (fun t p => writeDetail 4 (cameraBody t p) t) s2
  let s4 := when (s.tu.pendStep || s.tu.stepRec.isSome) (fun t => writeDetail 5 (timeBody t) t) s3
  let s5 := match s.cfg.skipped with
    | some (e, n) => writeDetail 6 (leBytes 8 e ++ leBytes 4 n) s4
    | none => s4
  let s6 := (s.sil.marks.take 8).foldl (fun t m => writeDetail 7 (padTo 8 m.mark ++ leBytes 2 m.tag) t) s5
  let s7 := when (s.bl.faultNew != 0) (fun t => writeDetail 8 (leBytes 16 t.bl.faultNew.toNat) t) s6
  writeThumbs s.sdec.thumbs s7

/-- The frame ends: what was of this frame alone is no longer held. -/
def passFrame (s : State) : State :=
  { s with
    sil := { s.sil with frameHalt := s.dbg.halted != 0, frameOpen := s.dbg.unlocked, skipFrame := false }
    bl := { s.bl with faultNew := 0 }
    tu := { s.tu with stepRec := none }
    mem := { s.mem with freqFrame := s.mem.changing.isSome }
    acc := { s.acc with safety := s.acc.safetyAhead, safetyNew := s.acc.safetyNewAhead, safetyNewAhead := false
                        safetyAhead := s.acc.safetyAhead.map (fun r => { r with state := 3 })
                        ports := s.acc.ports.map (fun p => { p with inFrame := p.receiving
                                                                    staleFrame := p.receiving && p.stale }) }
    sco := { s.sco with frame := List.replicate 4 {} } }

/-- What a frame entry has reported no longer waits for one. -/
def clearFrame (s : State) : State :=
  passFrame { s with
    sil := { s.sil with marks := s.sil.marks.drop 8, warmFrame := false, afterSeal := false }
    sdec := { s.sdec with thumbs := [] }
    cfg := { s.cfg with skipped := none } }

/-- The frame entry and the details of the frame that ends, then a periodic seal when one is due (R518, R522). After
the seal of a COAST or PARKED flush nothing is written, nor for the revolution in which that ends (R516). -/
def writeFrame (coast noAngle : Bool) (s : State) : State :=
  if s.sil.running && !s.sil.stopped && (noAngle || !s.sil.skipFrame) then
    let s1 := writeDetails (writeRecord 1 0 1 (frameBody s coast noAngle) s)
    let s2 := clearFrame s1
    if s.sil.sealNext then writeSeal 0 s2 else s2
  else passFrame s

/-! ### Segments (R526 to R530) -/

def flushCode : FlushCause → Nat
  | .command => 0 | .coast => 1 | .parked => 2

/-- The records a flush takes, oldest first, and whether a gap is left: no more than a quarter of SIL_FLUSH_MIB, from
the oldest seal that keeps within it. -/
def flushRecords (s : State) : List SilRec × Bool :=
  let all := s.sil.records.reverse
  let quarter := par s 0x9000 * 1048576 / 4
  if (all.map (fun r => r.bytes.length)).sum ≤ quarter then (all, false)
  else
    (((List.range all.length).map (fun i => all.drop i)).find? (fun l =>
      byteAt ((l.head?.map (·.bytes)).getD []) 0 = 3 && (l.map (fun r => r.bytes.length)).sum ≤ quarter)
      |>.getD [], true)

/-- The bytes of a record as the flush reads them: a poisoned granule is written as 0xA5 (R527). -/
def flushBytes (s : State) (r : SilRec) : List Byte :=
  (List.range (r.bytes.length / 64)).flatMap (fun i =>
    if memPoisoned s.mem (silBase + 64 * (r.off + i)) 64 then List.replicate 64 0xA5
    else (r.bytes.drop (64 * i)).take 64)

/-- Segment offsets of the poisoned granules of a record part, 64-byte units from its start. -/
def poisonOffsets (s : State) (rs : List SilRec) : List Nat :=
  (rs.foldl (fun (acc : Nat × List Nat) r =>
    let n := r.bytes.length / 64
    (acc.1 + n, acc.2 ++ ((List.range n).filter (fun i => memPoisoned s.mem (silBase + 64 * (r.off + i)) 64)).map
      (· + acc.1))) (2, [])).2

/-- A thumbnail of the thumbnail part: its head and its stream padded to 64 bytes (R526). -/
def thumbPart (rseq : Nat) (stream : List Byte) : List Byte :=
  withCheck (padTo 60 (leBytes 4 0x4E54 ++ leBytes 4 rseq ++ leBytes 4 stream.length)) ++
  padTo ((stream.length + 63) / 64 * 64) stream

/-- Thumbnails added, newest first, while they fit in the bytes left. -/
def takeThumbs : List (Nat × List Byte) → Nat → List (List Byte)
  | [], _ => []
  | t :: ts, room =>
    let b := thumbPart t.1 t.2
    if b.length ≤ room then b :: takeThumbs ts (room - b.length) else []

/-- The 128-byte header of a segment (Table 20-7). -/
def segHeader (s : State) (cause : FlushCause) (rs : List SilRec) (gap : Bool) : List Byte :=
  withCheck (padTo 124 (leBytes 2 0x4753 ++ [0x01] ++ leBytes 1 (flushCode cause) ++
    leBytes 4 ((s.sil.segSeq + 1) % 2 ^ 32) ++ leBytes 4 s.pwr.boot ++
    leBytes 4 ((rs.head?.map (·.rseq)).getD 0) ++ timeBytes (stampTime s) ++ leBytes 4 0 ++ leBytes 4 (bit gap 0) ++
    padTo 32 ((rs.head?.map (·.chain)).getD []) ++ leBytes 4 (rs.map (fun r => r.bytes.length)).sum))

/-- The 128-byte trailer of a segment (Table 20-7). -/
def segTrailer (s : State) (cut : Bool) (rs : List SilRec) (thumbs : List (List Byte)) : List Byte :=
  let po := poisonOffsets s rs
  withCheck (padTo 124 (leBytes 2 0x5447 ++ [0x01] ++ leBytes 1 (bit cut 0 + bit (decide (12 < po.length)) 1) ++
    leBytes 4 ((s.sil.segSeq + 1) % 2 ^ 32) ++ leBytes 4 ((rs.getLast?.map (·.rseq)).getD 0) ++
    leBytes 4 (rs.map (fun r => r.bytes.length)).sum ++ leBytes 4 thumbs.length ++
    leBytes 4 (thumbs.map List.length).sum ++ leBytes 4 po.length ++ leBytes 4 0 ++
    padTo 48 ((po.take 12).flatMap (leBytes 4))))

/-- A whole segment (R526). -/
def segment (s : State) (cause : FlushCause) (cut : Bool) : List Byte × Nat :=
  let (rs, gap) := flushRecords s
  let body := rs.flatMap (flushBytes s)
  let room := par s 0x9000 * 1048576 - 256 - body.length
  let inPart := (s.sil.kept.filter (fun t => rs.any (fun r => r.rseq == t.1))).reverse
  let th := takeThumbs inPart room
  (segHeader s cause rs gap ++ body ++ th.flatten ++ segTrailer s cut rs th, (rs.getLast?.map (·.rseq)).getD s.sil.rseq)

/-- A flush begins: its seal is written and its segment goes to the head of the Sillage log (R526, R528). -/
def startFlush (cause : FlushCause) (tag : Option Nat) (s : State) : State :=
  let c := match cause with | .command => 2 | .coast => 3 | .parked => 4
  let s1 := if s.sil.running && !s.sil.stopped then writeSeal c s else s
  let (bs, last) := segment s1 cause false
  { s1 with sil := { s1.sil with
      flush := some { cause := cause, tag := tag, bytes := bs, lastRseq := last }
      stopped := s1.sil.stopped || cause != .command } }

/-- A segment has been written: the log, its counter, source 245, and what is flushed (R528). -/
def flushDone (j : FlushJob) (s : State) : State :=
  let s1 := { s with sil := { s.sil with
    flush := none, nand := j.bytes :: s.sil.nand, segSeq := (s.sil.segSeq + 1) % 2 ^ 32
    flushed := j.lastRseq
    flushedAll := decide (s.sil.rseq = j.lastRseq)
    records := s.sil.records.filter (fun r => !seqReached (BitVec.ofNat 32 j.lastRseq) (BitVec.ofNat 32 r.rseq))
    kept := s.sil.kept.filter (fun t => !seqReached (BitVec.ofNat 32 j.lastRseq) (BitVec.ofNat 32 t.1)) } }
  blackBox 0x0230 245 (BitVec.ofNat 32 s1.sil.segSeq) (raise 245 (count .silFlush s1))

/-- The records of a flush in progress, oldest first. -/
def jobRecords (s : State) (j : FlushJob) : List SilRec :=
  (flushRecords s).1.filter (fun r => seqReached (BitVec.ofNat 32 j.lastRseq) (BitVec.ofNat 32 r.rseq))

/-- A flush ends at once with a trailer with CUT set, after as many records as were written by then, a free value; the
records not written stay for the next segment (Table 20-11, COAST during a SILLAGE_FLUSH; log 2). -/
def cutFlush (s : State) : State :=
  match s.sil.flush with
  | none => s
  | some j =>
    let rs := jobRecords s j
    let (k, s1) := takeFree s
    let done := rs.take (k % (rs.length + 1))
    let seg := j.bytes.take 128 ++ done.flatMap (flushBytes s) ++ segTrailer s true done []
    { s1 with sil := { s1.sil with
      flush := none, nand := seg :: s1.sil.nand, segSeq := (s1.sil.segSeq + 1) % 2 ^ 32
      flushed := (done.getLast?.map (·.rseq)).getD s1.sil.flushed
      records := s1.sil.records.filter (fun r => !done.contains r)
      flushedAll := false } }

/-- A flush that a cold episode cuts leaves its segment without a valid trailer; how far it was written is a free value
(R530, log 2). -/
def tearFlush (s : State) : State :=
  match s.sil.flush with
  | none => s
  | some j =>
    let (k, s1) := takeFree s
    { s1 with
      sil := { s1.sil with
        flush := none, nand := (j.bytes.take (k % (j.bytes.length - 127))) :: s1.sil.nand
        segSeq := (s1.sil.segSeq + 1) % 2 ^ 32, flushedAll := false }
      pwr := { s1.pwr with torn := s.sil.nand.length :: s1.pwr.torn } }

/-- The records of a torn segment whose CHECK holds, from an offset on: the last RSEQ and the bytes they take. -/
def walkRecords : Nat → List Byte → Nat → Nat → Nat × Nat
  | 0, _, last, n => (last, n)
  | fuel + 1, bs, last, n =>
    let len := 64 * field bs 2 2
    if 1 ≤ byteAt bs 0 ∧ byteAt bs 0 ≤ 3 ∧ 64 ≤ len ∧ len ≤ bs.length ∧
        field bs (len - 4) 4 = (crc32c (bs.take (len - 4))).toNat then
      walkRecords fuel (bs.drop len) (field bs 4 4) (n + len)
    else (last, n)

/-- The trailer with CUT set that closes a torn segment (R530). -/
def tornTrailer (seg : List Byte) : List Byte :=
  let w := walkRecords (seg.length / 64) (seg.drop 128) 0 0
  withCheck (padTo 124 (leBytes 2 0x5447 ++ [0x01, 0x01] ++ leBytes 4 (field seg 4 4) ++ leBytes 4 w.1 ++ leBytes 4 w.2))

/-- The segments without a valid trailer are closed before READY (R530). -/
def closeTorn (s : State) : State :=
  let n := s.sil.nand.length
  let close (i : Nat) (seg : List Byte) : List Byte :=
    if s.pwr.torn.contains (n - 1 - i) then seg ++ tornTrailer seg else seg
  { s with sil := { s.sil with nand := s.sil.nand.mapIdx close, cutFound := !s.pwr.torn.isEmpty }
           pwr := { s.pwr with torn := [] } }

/-- A COAST detail and a seal with CAUSE 5 appended to the log, after the trailer (R529). -/
def coastClose (s : State) : State :=
  let steps := (s.pwr.stepsEnded.map (fun n => 2 ^ (n - 1))).sum
  let body := leBytes 1 steps ++ leBytes 1 (bit s.pwr.flySkipped 0) ++ [0, 0] ++ s.pwr.stepEst.flatMap (leBytes 4)
  let (a, s1) := chainRecord 2 10 1 body s
  let (b, s2) := chainRecord 3 0 2 (sealBody s1 5) s1
  let s3 := sealNote s2
  match s3.sil.nand with
  | seg :: rest => { s3 with sil := { s3.sil with nand := (seg ++ a ++ b) :: rest } }
  | [] => { s3 with sil := { s3.sil with nand := [a ++ b] } }

/-! ### Black-box slots (R532) -/

/-- The 32 bytes of a black-box entry (Table 20-8). -/
def bbBytes (e : BbEntry) : List Byte :=
  leBytes 4 e.seq ++ leBytes 4 (e.boot % 2 ^ 24 + modeCode e.mode * 2 ^ 24) ++ timeBytes e.time ++
  leBytes 4 e.angle.toNat ++ leBytes 2 e.code ++ leBytes 1 e.source ++ leBytes 1 e.conds ++ leBytes 4 e.data.toNat

/-- Entry `i` of the ring image: the newest lies just below HEAD. -/
def bbIndex (s : State) (i : Nat) : List Byte :=
  match s.bb.ring[(s.bb.head + 4095 - i) % 4096]? with
  | some e => bbBytes e
  | none => List.replicate 32 0

/-- The ring flushed to the next slot (R532), when the CORE domain that holds the NAND is released. -/
def bbFlushSlot (cause : Nat) (s : State) : State :=
  if s.pwr.released < 2 then s
  else
    let sq := (s.sil.bbSeq + 1) % 2 ^ 32
    let image := (List.range 4096).flatMap (bbIndex s)
    let head := withCheck (padTo 60 (leBytes 2 0x4242 ++ [0] ++ leBytes 1 cause ++ leBytes 4 sq ++ leBytes 4 s.pwr.boot ++
      leBytes 4 s.bb.head ++ leBytes 4 s.bb.ring.length ++ timeBytes (stampTime s)))
    let tail := withCheck (padTo 60 (leBytes 2 0x4254 ++ [0, 0] ++ leBytes 4 sq ++ leBytes 4 (crc32c image).toNat))
    let s1 := { s with sil := { s.sil with bbSeq := sq, bbSlots := (head ++ image ++ tail) :: s.sil.bbSlots.take 511 } }
    blackBox 0x0230 248 (BitVec.ofNat 32 sq) (raise 248 (count .bbFlush s1))

/-- The flush at a setting of FAULT: at most once per second, later settings in that second together at its end. A
Coast flush in progress takes it in its own slot (R532, Table 20-11). -/
def bbFaultFlush (s : State) : State :=
  if s.cond.coast && !s.pwr.flushDone then s
  else if s.bb.second then { s with bb := { s.bb with again := true } }
  else
    let s1 := bbFlushSlot 2 s
    { s1 with bb := { s1.bb with second := true } }

end Sys2Proof.Machine
end

