-- ==== Sys2Proof/Machine/Pixels.lean ====
section
/-! DEFINITION. Pixels: the decode and response tables, the conversion of stored pixels, filtering and blending
(R131 to R135, R156, R157, R159, R160, R162). -/
namespace Sys2Proof.Machine

/-- A premultiplied working value: 12-bit colour and 10-bit alpha (Table 6-1). -/
structure Px where
  r : Nat
  g : Nat
  b : Nat
  a : Nat
  deriving DecidableEq, Repr

/-- Transparent. -/
def Px.clear : Px := ⟨0, 0, 0, 0⟩

/-- Channel `k` of a value: R, G, B. -/
def Px.chan (p : Px) (k : Nat) : Nat := if k = 0 then p.r else if k = 1 then p.g else p.b

/-- A value by channels. -/
def pxOf (a : Nat) (f : Nat → Nat) : Px := ⟨f 0, f 1, f 2, a⟩

/-- The 8 bytes of a composed pixel (Table 6-1). -/
def pxBytes (p : Px) : List Byte := leBytes 8 (p.r % 2 ^ 12 + p.g % 2 ^ 12 * 2 ^ 12 + p.b % 2 ^ 12 * 2 ^ 24 + p.a % 2 ^ 10 * 2 ^ 36)

/-- A composed pixel of 8 stored bytes. -/
def pxOfNat (v : Nat) : Px := ⟨bits v 11 0, bits v 23 12, bits v 35 24, bits v 45 36⟩

/-- A little-endian number of `n` bytes of stacked memory. -/
def memNat (m : Mem) (a n : Nat) : Nat := leNat (memBytes m a n)

/-- A stored pixel of `n` bytes as the engines read it: one in a poisoned granule is transparent (Table 13-5). -/
def memPx (m : Mem) (a n : Nat) (f : Nat → Px) : Px := if memPoisoned m a n then Px.clear else f (memNat m a n)

/-! ### Tables (R157, R162) -/

/-- The default of entry `i` of a table: D8, D10, or a response table. -/
def lutDefault (sel i : Nat) : Nat :=
  if sel = 0 then 16 * i + i / 16 else if sel = 1 then 4 * i + i / 256 else i

/-- Entry `i` of a table of a set. -/
def lutAt (c : ConfigSet) (sel i : Nat) : Nat :=
  match tget? c.luts sel with
  | some l => l.getD i 0
  | none => lutDefault sel i

/-- The 10-bit output of a colour through the response table of a channel (R162). -/
def response (c : ConfigSet) (k ca : Nat) : Nat :=
  let i := ca / 4
  let r := ca - 4 * i
  (lutAt c (2 + k) i * (4 - r) + lutAt c (2 + k) (min (i + 1) 1023) * r + 2) / 4

/-! ### Conversion (Tables 6-4 and 7-1) -/

/-- Channel `k` of a colour word: R [9:0], G [19:10], B [29:20]. -/
def wordChan (w k : Nat) : Nat := w / 2 ^ (10 * k) % 1024

/-- 8-bit alpha as 10 bits. -/
def alpha8 (a : Nat) : Nat := 4 * a + a / 64

/-- A stored pixel as a premultiplied value: its format, PREMULT, OPAQUE and MASK_COLOUR. -/
def convert (c : ConfigSet) (fmt : Nat) (premult opq : Bool) (mask v : Nat) : Px :=
  if fmt = 0 then
    let col := fun k => lutAt c 0 (v / 256 ^ k % 256)
    let a := alpha8 (v / 2 ^ 24 % 256)
    if opq then pxOf 1023 col else if premult then pxOf a col else pxOf a (fun k => scale1023 (col k) a)
  else if fmt = 1 then
    let col := fun k => lutAt c 1 (wordChan v k)
    let a := 341 * (v / 2 ^ 30 % 4)
    if opq then pxOf 1023 col else if premult then pxOf a col else pxOf a (fun k => scale1023 (col k) a)
  else if fmt = 2 then
    let col := fun k => lutAt c 1 (wordChan mask k)
    let a := alpha8 (v % 256)
    if opq then pxOf 1023 col else pxOf a (fun k => scale1023 (col k) a)
  else pxOf 0 (fun k => lutAt c 1 ((wordChan mask k * (v % 256) + 127) / 255))

/-- A stored pixel's channels expanded to 10 bits (R132). -/
def expand10 (fmt v k : Nat) : Nat := if fmt = 0 then alpha8 (v / 256 ^ k % 256) else wordChan v k

/-- The key test (R133). -/
def keyed (fmt v low high : Nat) : Bool :=
  (List.range 3).all (fun k => decide (wordChan low k ≤ expand10 fmt v k) && decide (expand10 fmt v k ≤ wordChan high k))

/-! ### Blending (R131, R160) -/

/-- A premultiplied value laid over a destination (R131 step 6). -/
def blendOver (p d : Px) : Px :=
  let k := 1023 - p.a
  ⟨min 4095 (p.r + scale1023 d.r k), min 4095 (p.g + scale1023 d.g k), min 4095 (p.b + scale1023 d.b k),
   p.a + scale1023 d.a k⟩

/-- A value under a layer alpha (R131 step 5). -/
def fade (la : Nat) (p : Px) : Px := ⟨scale1023 p.r la, scale1023 p.g la, scale1023 p.b la, scale1023 p.a la⟩

/-- A sample added behind what a ray has gathered (R160): colour and alpha of one channel. -/
def rayAdd (acc : Nat × Nat) (s : Nat × Nat) : Nat × Nat :=
  (min 4095 (acc.1 + scale1023 s.1 (1023 - acc.2)), acc.2 + scale1023 s.2 (1023 - acc.2))

/-! ### Bilinear and nearest sampling (R159) -/

/-- The weighted sum of four texels. -/
def bilinear (fx fy : Nat) (p q r s : Nat) : Nat :=
  ((256 - fx) * (256 - fy) * p + fx * (256 - fy) * q + (256 - fx) * fy * r + fx * fy * s + 32768) / 65536

/-- A texel under the edge rules: transparent beyond the sides, the edge row repeated. -/
def edgeTexel (w h : Nat) (tex : Nat → Nat → Px) (i j : Int) : Px :=
  if i < 0 ∨ (w : Int) - 1 < i then Px.clear else tex i.toNat (clampI 0 ((h : Int) - 1) j).toNat

/-- A sample at a position in 1/256 pixel. -/
def sampleAt (nearest : Bool) (w h : Nat) (tex : Nat → Nat → Px) (xs yb : Int) : Px :=
  if nearest then edgeTexel w h tex (xs / 256) (yb / 256)
  else
    let i0 := (xs - 128) / 256
    let j0 := (yb - 128) / 256
    let fx := ((xs - 128) % 256).toNat
    let fy := ((yb - 128) % 256).toNat
    let p := edgeTexel w h tex i0 j0
    let q := edgeTexel w h tex (i0 + 1) j0
    let r := edgeTexel w h tex i0 (j0 + 1)
    let s := edgeTexel w h tex (i0 + 1) (j0 + 1)
    ⟨bilinear fx fy p.r q.r r.r s.r, bilinear fx fy p.g q.g r.g s.g, bilinear fx fy p.b q.b r.b s.b,
     bilinear fx fy p.a q.a r.a s.a⟩

/-! ### Scalers (R135) -/

/-- Tap `k` of a phase of a scaler's bank: the bank loaded, or the default, whose phase 0 alone the spec gives. -/
def scalerTap (c : ConfigSet) (n ph k : Nat) : Int :=
  match tget? c.scalers n with
  | some l => l.getD (8 * ph + k) 0
  | none => if ph = 0 then (if k = 3 then 1024 else 0) else Config.lanczosTap ph k

/-- The weighted sum of eight taps, rounded and held to a limit. -/
def tapSum (lim : Int) (l : List Int) : Nat := (clampI 0 lim ((l.sum + 512) / 1024)).toNat

/-- Source position and phase of a destination place on one axis. -/
def scalerPos (src0 src dst x : Nat) : Int × Nat :=
  let step := (2 * 65536 * src + dst) / (2 * dst)
  let pos : Int := 65536 * (src0 : Int) + ((step / 2 : Nat) : Int) - 32768 + ((x * step : Nat) : Int)
  (pos / 65536, (pos % 65536).toNat / 1024)

/-- One axis of a scaler: eight pairs around a place, the edge repeated. -/
def scaleAxis (c : ConfigSet) (n src0 src dst x : Nat) (p : Nat → Px) : Px :=
  let (i, ph) := scalerPos src0 src dst x
  let at' := fun k : Nat => p (clampI src0 ((src0 : Int) + src - 1) (i - 3 + k)).toNat
  let ch := fun (f : Px → Nat) (lim : Int) =>
    tapSum lim ((List.range 8).map (fun k => scalerTap c n ph k * (f (at' k) : Int)))
  ⟨ch Px.r 4095, ch Px.g 4095, ch Px.b 4095, ch Px.a 1023⟩

end Sys2Proof.Machine
end

