-- ==== Sys2Proof/Machine/Walk.lean ====
section
/-! DEFINITION. What a render computes, as functions of memory and of the set it renders: the ray map, the walk of a ray and
its cost, note flats, tiles, zone records and the measurements of a facet (chapters 2 and 7). -/
namespace Sys2Proof.Machine

/-! ### The image (Tables 2-2 and 2-3) -/

def rmInvert (m : List Byte) : Bool := (byteAt m 3).testBit 0
/-- P in units of 2⁻²⁴ subpixel columns. -/
def rmP (m : List Byte) : Nat := field m 8 4
/-- T in units of 2⁻²⁴ subpixel columns a row. -/
def rmT (m : List Byte) : Int := sext 32 (field m 0x0C 4)
/-- X0 in units of 2⁻¹⁶ subpixel columns. -/
def rmX0 (m : List Byte) : Int := sext 32 (field m 0x10 4)
/-- f of a drum facet (FACET_ORDER). -/
def rmFacet (m : List Byte) (a : Nat) : Nat := byteAt m 0x14 / 4 ^ a % 4
def rmMapId (m : List Byte) : Nat := field m 0x18 4
/-- The word of node (i, j). -/
def rmNode (m : List Byte) (i j : Nat) : Nat := field m (0x20 + 4 * (121 * j + i)) 4
def rmDphi (m : List Byte) (i j : Nat) : Int := sext 16 (rmNode m i j)
def rmDy (m : List Byte) (i j : Nat) : Int := sext 16 (rmNode m i j / 65536)

/-- FACET_ORDER assigns each f to one drum facet. -/
def facetOrderOk (m : List Byte) : Bool :=
  (List.range 4).all (fun f => (List.range 4).any (fun a => rmFacet m a == f))

/-- The checks of Table 2-4, in order. -/
def raymapImageCheck (m : List Byte) : Nat :=
  if m.length ≠ 33432 then St.raymapFormat
  else if field m 0 2 ≠ 0x4D52 ∨ byteAt m 2 ≠ 1 then St.raymapFormat
  else if (crc32c (m.take 0x8294)).toNat ≠ field m 0x8294 4 then St.raymapCheck
  else if 2 ≤ byteAt m 3 ∨ field m 0x1C 4 ≠ 0 ∨ field m 4 2 ≠ 15360 ∨ field m 6 2 ≠ 8640 ∨ byteAt m 0x15 ≠ 121 ∨
      byteAt m 0x16 ≠ 69 ∨ byteAt m 0x17 ≠ 7 then St.raymapFormat
  else if rmP m < 12 * 2 ^ 24 ∨ 24 * 2 ^ 24 < rmP m ∨ rmT m < -(2 ^ 24) ∨ 2 ^ 24 < rmT m ∨
      rmX0 m < -64 * 2 ^ 16 ∨ 64 * 2 ^ 16 < rmX0 m then St.raymapRange
  else if !facetOrderOk m then St.raymapRange
  else St.ok

/-! ### The map (R36, R41, R47) -/

/-- Interpolation of one field of the grid. -/
def gridInterp (node : Nat → Nat → Int) (x y : Nat) : Int :=
  let i := x / 128
  let j := y / 128
  let fx := x - 128 * i
  let fy := y - 128 * j
  roundDiv (node i j * ((128 - fx) * (128 - fy) : Nat) + node (i + 1) j * (fx * (128 - fy) : Nat) +
    node i (j + 1) * ((128 - fx) * fy : Nat) + node (i + 1) (j + 1) * (fx * fy : Nat)) 16384

/-- What the ray map gives for one subpixel: lenslet, phase, spatial view, and the position in 1/256 reference
units. -/
structure RayPoint where
  n : Int
  u : Nat
  s : Nat
  xref : Nat
  yref : Nat
  deriving DecidableEq, Repr

/-- A position held to the reference plane. -/
def holdRef (lim : Nat) (v : Int) : Nat := (clampI 0 (256 * lim - 1) v).toNat

/-- The ray map at pixel column x, row y and colour k (R36). -/
def rayPoint (m : List Byte) (x y k : Nat) : RayPoint :=
  let c := 3 * x + k
  let dphi := gridInterp (rmDphi m) x y
  let dy := gridInterp (rmDy m) x y
  let t25 : Int := (2 * c + 1 : Nat) * (2 ^ 24 : Nat) + rmT m * (2 * y + 1 : Nat) - rmX0 m * 512
  let phi : Int := 32768 * t25 / (rmP m : Int) + dphi
  let n := phi / 65536
  let u := (phi % 65536).toNat
  let g := u / 2048
  let xs40 : Int := (2 * c + 1 : Nat) * (2 ^ 39 : Nat) - ((u : Int) - 32768) * (rmP m : Int)
  { n := n, u := u, s := if rmInvert m then 31 - g else g
    xref := holdRef 4096 (roundDiv (1024 * xs40) (45 * 2 ^ 40))
    yref := holdRef 2304 (roundDiv ((2 * y + 1 : Nat) * 512 + 15 * dy) 15) }

/-- v of a subpixel in a drum facet (R35). -/
def viewIndex (m : List Byte) (r : RayPoint) (a : Nat) : Nat := 4 * r.s + rmFacet m a

/-- The direct mapping of FLAT without a map (R47). -/
def directPoint (x y : Nat) : Nat × Nat :=
  (holdRef 4096 (roundDiv ((2 * x + 1 : Nat) * 512) 15),
   holdRef 2304 (roundDiv ((2 * y + 1 : Nat) * 512) 15))

/-! ### The compose area (R123; its layout is log 11) -/

/-- First byte of a target's buffer. -/
def targetBase (slot buf : Nat) : Nat := composeBase + (2 * slot + buf) * 75497472
/-- First byte of a pixel of a target's buffer, rows packed. -/
def targetPixel (c : ConfigSet) (t slot buf x y : Nat) : Nat :=
  targetBase slot buf + 8 * (y * (targetSize c t).1 + x)

/-- First byte of a pixel of a plane. -/
def planeAddr (c : ConfigSet) (t x y : Nat) : Nat :=
  namedBuf c t + y * dPitch (planeOf c t) + x * fmtBytes (dFmt (planeOf c t))

/-- The base content of a target (R125). -/
def basePx (m : Mem) (c : ConfigSet) (t x y : Nat) : Px :=
  if t = 64 then Px.clear
  else
    let d := planeOf c t
    memPx m (planeAddr c t x y) (fmtBytes (dFmt d)) (convert c (dFmt d) (dPremult d) (dOpaque d) (dMask d))

/-! ### The render area (Table 7-3) -/

def facetBase (b : Nat) : Nat := renderBase + b * 530841600
def flatBase (n : Nat) : Nat := renderBase + 0xFD200000 + n * 0x04800000
def statBase (b : Nat) : Nat := renderBase + 0x145200000 + b * 2073600
/-- First byte of a pixel's word in a facet buffer (R169). -/
def facetPixel (b x y : Nat) : Nat := facetBase b + 4 * (15360 * y + x)

/-! ### Notes and the merge list (R59, R166, R175) -/

/-- The enabled planes of a note, in index order. -/
def notePlanes (c : ConfigSet) (n : Note) : List Nat :=
  (List.range 64).filter (fun k => decide (n.first ≤ k) && decide (k ≤ n.last) && decide (k < planeCount c) &&
    dEnabled (planeOf c k))

/-- A note holds a target of an enabled FACET_LATCH layer. -/
def noteLatched (c : ConfigSet) (n : Note) : Bool :=
  (enabledLayers c).any (fun l => lLatch (layerOf c l) && decide (n.first ≤ lTarget (layerOf c l)) &&
    decide (lTarget (layerOf c l) ≤ n.last))

/-- The merge list as note table entries: base notes, then heart notes, each from the farthest. -/
def mergeList (c : ConfigSet) : List Nat :=
  let ok := fun i => match c.notes[i]? with
    | some n => decide (2 ≤ (notePlanes c n).length) && !noteLatched c n
    | none => false
  let of := fun cls => ((List.range c.notes.length).reverse).filter (fun i =>
    ok i && ((c.notes[i]?.map (·.cls)).getD 0) == cls)
  of 2 ++ of 1

/-- A note table entry. -/
def noteAt (c : ConfigSet) (i : Nat) : Note := c.notes.getD i {}

/-- Width and height of a note's flat (R166). -/
def flatSize (c : ConfigSet) (i : Nat) : Nat × Nat :=
  let ps := notePlanes c (noteAt c i)
  (((ps.map (fun k => dW (planeOf c k))).foldl max 0), ((ps.map (fun k => dH (planeOf c k))).foldl max 0))

/-! ### Texels and samples (R156 to R159, R165) -/

/-- Where the composed buffers of a render lie: target, pair and buffer. -/
abbrev Bufs := List (Nat × Nat × Nat)

/-- The composed texel of a target. -/
def composedTexel (m : Mem) (c : ConfigSet) (bufs : Bufs) (t x y : Nat) : Px :=
  match bufs.lookup t with
  | some (slot, b) => memPx m (targetPixel c t slot b x y) 8 pxOfNat
  | none => Px.clear

/-- A texel of a plane: of its composed buffer when it is an active target (R121). -/
def planeTexel (m : Mem) (c : ConfigSet) (bufs : Bufs) (k x y : Nat) : Px :=
  if (activeTargets c).contains k then composedTexel m c bufs k x y else basePx m c k x y

/-- An entry of the walk (R164). -/
inductive Entry where
  | plane (k : Nat)
  | flatPlane
  | note (i : Nat)
  deriving DecidableEq, Repr

/-- Size and disparity of an entry. -/
def entryGeom (c : ConfigSet) : Entry → Nat × Nat × Int
  | .plane k => (dW (planeOf c k), dH (planeOf c k), disparity (dDisp (planeOf c k)))
  | .flatPlane => (4096, 2304, 0)
  | .note i => ((flatSize c i).1, (flatSize c i).2, disparity (noteAt c i).mergeD.toNat)

/-- A texel of an entry. -/
def entryTexel (m : Mem) (c : ConfigSet) (bufs : Bufs) (e : Entry) (x y : Nat) : Px :=
  match e with
  | .plane k => planeTexel m c bufs k x y
  | .flatPlane => composedTexel m c bufs 64 x y
  | .note i => memPx m (flatBase i + 8 * (y * (flatSize c i).1 + x)) 8 pxOfNat

/-- RAY_FILTER selects the nearest texel. -/
def nearestFilter (c : ConfigSet) : Bool := setParam c 0x4000 == 1

/-- The sample of an entry at a reference position and view offset (R158, R159). -/
def entrySample (m : Mem) (c : ConfigSet) (bufs : Bufs) (e : Entry) (x y : Nat) (o : Int) : Px :=
  let (w, h, d) := entryGeom c e
  let xb := (x * w + 2048) / 4096
  let yb := (y * h + 1152) / 2304
  sampleAt (nearestFilter c) w h (entryTexel m c bufs e) ((xb : Int) + (d * o + 128) / 256) yb

/-! ### The walk (R160, R161, R164, R165) -/

/-- The entries of one note at a merge level, each with whether it comes before the flat plane. -/
def noteEntries (c : ConfigSet) (merged : List Nat) (i : Nat) : List (Entry × Bool) :=
  let n := noteAt c i
  let ps := notePlanes c n
  let pos := fun k => decide (0 < disparity (dDisp (planeOf c k)))
  if merged.contains i then
    [(.note i, if ps.all pos then true else if ps.any pos then decide (0 < disparity n.mergeD.toNat) else false)]
  else ps.map (fun k => (.plane k, pos k))

/-- The walk of a frame at a merge level. -/
def walkEntries (c : ConfigSet) (level : Nat) : List Entry :=
  let merged := (mergeList c).take level
  let es := (List.range c.notes.length).flatMap (noteEntries c merged)
  let flat := if (activeTargets c).contains 64 then [Entry.flatPlane] else []
  (es.takeWhile (·.2)).map (·.1) ++ flat ++ (es.dropWhile (·.2)).map (·.1)

/-- The entries that a ray samples, from a given colour and alpha on: it ends at an alpha of 1,020. -/
def walkTaken (sample : Entry → Px) (k : Nat) : List Entry → Nat × Nat → List Entry
  | [], _ => []
  | e :: es, acc =>
    if 1020 ≤ acc.2 then []
    else e :: walkTaken sample k es (rayAdd acc ((sample e).chan k, (sample e).a))

/-- Lane clocks of a ray: one for each entry it samples, and at least one (R164). -/
def rayClocks (taken : List Entry) : Nat := max 1 taken.length

/-- A ray through the entries: colour and alpha of channel `k`; it ends at an alpha of 1,020. -/
def walkRay (sample : Entry → Px) (k : Nat) (es : List Entry) : Nat × Nat :=
  es.foldl (fun acc e => if 1020 ≤ acc.2 then acc else
    let p := sample e
    rayAdd acc (p.chan k, p.a)) (0, 0)

/-- The colour of a ray with its background, and whether the cutoff ended it. -/
def finishRay (c : ConfigSet) (k : Nat) (acc : Nat × Nat) : Nat × Bool :=
  if 1020 ≤ acc.2 then (acc.1, true)
  else (min 4095 (acc.1 + scale1023 (lutAt c 1 (wordChan (setParam c 0x2001) k)) (1023 - acc.2)), false)

/-! ### One subpixel (R162, R168, R186) -/

/-- What a render reads. -/
structure View where
  c : ConfigSet
  bufs : Bufs
  /-- The ray-map image, none for the direct mapping. -/
  map : Option (List Byte)
  facet : Nat
  flat : Bool
  deriving DecidableEq, Repr

/-- The one entry of FLAT (R168). -/
def flatEntry (c : ConfigSet) : List Entry :=
  let t := setParam c 0x4003
  if t = 64 then (if (activeTargets c).contains 64 then [.flatPlane] else [])
  else if t < planeCount c ∧ dEnabled (planeOf c t) then [.plane t] else []

/-- The position of a subpixel and its view index. -/
def viewPoint (v : View) (x y k : Nat) : Nat × Nat × Nat :=
  match v.map with
  | some img =>
    let r := rayPoint img x y k
    (r.xref, r.yref, viewIndex img r v.facet)
  | none => ((directPoint x y).1, (directPoint x y).2, 0)

/-- A test pattern replaces the rays (R186). -/
def patternOn (v : View) : Bool := !v.flat && setParam v.c 0x4001 != 0

/-- The entries that the rays of a facet pass at a merge level. -/
def rayEntries (v : View) (level : Nat) : List Entry :=
  if v.flat then flatEntry v.c else if patternOn v then [] else walkEntries v.c level

/-- What the ray of a subpixel samples of an entry. -/
def raySample (m : Mem) (v : View) (x y k : Nat) (e : Entry) : Px :=
  let (xr, yr, vi) := viewPoint v x y k
  entrySample m v.c v.bufs e xr yr (if v.flat then 0 else 16 * (vi : Int) - (setParam v.c 0x1001 : Int))

/-- The output of a subpixel at a merge level, and whether the cutoff ended its ray. -/
def subpixel (m : Mem) (v : View) (level x y k : Nat) : Nat × Bool :=
  if patternOn v then
    let vi := (viewPoint v x y k).2.2
    (if setParam v.c 0x4001 = 1 then 8 * vi + 4 else if vi = setParam v.c 0x4002 then 1023 else 0, false)
  else
    let (ca, cut) := finishRay v.c k (walkRay (raySample m v x y k) k (rayEntries v level))
    (response v.c k ca, cut)

/-- The entries that the ray of a subpixel samples. -/
def subpixelTaken (m : Mem) (v : View) (level x y k : Nat) : List Entry :=
  walkTaken (raySample m v x y k) k (rayEntries v level) (0, 0)

/-! ### Tiles and facet buffers (R154, R155, R169, R182, R183) -/

/-- The place of a tile in the order of issue. -/
def tileOrder (tx ty : Nat) : Nat := (if ty < 135 then 2 * ty else 2 * (ty - 135) + 1) * 480 + tx

/-- The merge level of a tile. -/
def tileLevel (r : Render) (order : Nat) : Nat :=
  (((r.tilesAt.filter (fun e => e.1 ≤ order)).getLast?).map (·.2)).getD r.levelStart

/-- The merge level at a pixel. -/
def pixelLevel (r : Render) (x y : Nat) : Nat := tileLevel r (tileOrder (x / 32) (y / 32))

/-- The word of a pixel. -/
def pixelWord (m : Mem) (v : View) (r : Render) (x y : Nat) : Nat :=
  let out := fun k => (subpixel m v (pixelLevel r x y) x y k).1
  out 0 % 1024 + out 1 % 1024 * 2 ^ 10 + out 2 % 1024 * 2 ^ 20

/-- The subpixels of a tile. -/
def tileRays (tx ty : Nat) : List (Nat × Nat × Nat) :=
  (List.range 32).flatMap (fun j => (List.range 32).flatMap (fun i => (List.range 3).map (fun k =>
    (32 * tx + i, 32 * ty + j, k))))

/-- What each ray of a tile samples. -/
def tileTaken (m : Mem) (v : View) (r : Render) (tx ty : Nat) : List (List Entry) :=
  (tileRays tx ty).map (fun p => subpixelTaken m v (tileLevel r (tileOrder tx ty)) p.1 p.2.1 p.2.2)

/-- Lane clocks of some rays. -/
def clocksOf (rays : List (List Entry)) : Nat := (rays.map rayClocks).sum

/-- The note of an entry. -/
def entryNote (c : ConfigSet) : Entry → Option Nat
  | .plane k => (List.range c.notes.length).find? (fun i => decide ((noteAt c i).first ≤ k) && decide (k ≤ (noteAt c i).last))
  | .flatPlane => none
  | .note i => some i

/-- The measurements of a render over its first `tiles` tiles (R176): clocks and rays as the walk gives them, bytes as
the caches fetched them. A note that an escalation merged counts as unmerged (log 76). -/
def measureRender (m : Mem) (v : View) (r : Render) (meas : RenderMeas) (tiles : Nat) : Measured :=
  let rays := (List.range 270).flatMap (fun ty => (List.range 480).flatMap (fun tx =>
    if tileOrder tx ty < tiles then tileTaken m v r tx ty else []))
  let notes := List.range v.c.notes.length
  { t := clocksOf rays
    s := notes.map (fun i => (rays.map (fun es => es.countP (fun e => entryNote v.c e == some i))).sum)
    r := notes.map (fun i => rays.countP (fun es => es.any (fun e => entryNote v.c e == some i)))
    g := meas.g, gt := meas.gt
    merged := if v.flat then [] else (mergeList v.c).take r.levelStart }

/-- The figures of an abandoned facet scaled up by the fraction of tiles completed (R176). -/
def scaleMeas (tiles : Nat) (m : Measured) : Measured :=
  if tiles = 0 then m
  else
    let up := fun x => x * 129600 / tiles
    { m with t := up m.t, s := m.s.map up, r := m.r.map up, g := m.g.map up, gt := up m.gt }

/-- The statistics record of a tile (Table 7-5). -/
def tileRecord (m : Mem) (v : View) (r : Render) (meas : RenderMeas) (tx ty : Nat) : List Byte :=
  let n := tileOrder tx ty
  let outs := (tileRays tx ty).map (fun p => subpixel m v (tileLevel r n) p.1 p.2.1 p.2.2)
  let after := match r.tilesAt with | e :: _ => decide (e.1 ≤ n) | [] => false
  leBytes 2 ((outs.map (·.1)).foldl max 0) ++ leBytes 2 (outs.countP (·.2)) ++ leBytes 4 (outs.map (·.1)).sum ++
  leBytes 4 (clocksOf (tileTaken m v r tx ty)) ++ leBytes 2 (min (meas.fetch.getD n 0) 0xFFFF) ++ leBytes 1 (tileLevel r n) ++
  leBytes 1 (bit after 0)

/-- The zone records of a facet buffer (R183). -/
def zoneRecords (word : Nat → Nat → Nat) : List (Nat × Nat) :=
  (List.range 128).map (fun z =>
    let outs := (List.range 1080).flatMap (fun j => (List.range 960).flatMap (fun i => (List.range 3).map (fun k =>
      wordChan (word (960 * (z % 16) + i) (1080 * (z / 16) + j)) k)))
    (outs.foldl max 0, (64 * outs.sum + 1555200) / 3110400))

/-! ### Note flats (R166, R167) -/

/-- A pixel of a note's flat. -/
def flatPx (m : Mem) (c : ConfigSet) (bufs : Bufs) (i x y : Nat) : Px :=
  let (wf, hf) := flatSize c i
  let sample := fun k =>
    let w := dW (planeOf c k)
    let h := dH (planeOf c k)
    sampleAt (nearestFilter c) w h (planeTexel m c bufs k) (((256 * x + 128) * w + wf / 2) / wf)
      (((256 * y + 128) * h + hf / 2) / hf)
  let ps := notePlanes c (noteAt c i)
  let acc := fun k => ps.foldl (fun a p => if 1020 ≤ a.2 then a else
    let q := sample p
    rayAdd a (q.chan k, q.a)) (0, 0)
  ⟨(acc 0).1, (acc 1).1, (acc 2).1, (acc 0).2⟩

/-- What a flat depends on, as kept with it (R167): the buffer of a paired plane with its descriptor. -/
def flatRec (c : ConfigSet) (i : Nat) : FlatRec :=
  let n := noteAt c i
  { slot := i, note := n
    planes := ((List.range 64).filter (fun k => decide (n.first ≤ k) && decide (k ≤ n.last))).map (fun k =>
      (k, planeOf c k ++ leBytes 8 (namedBuf c k)))
    luts := c.luts.filter (fun e => e.1 < 2)
    filter := BitVec.ofNat 32 (setParam c 0x4000) }

/-! ### What a render reads -/

/-- The ray-map slot of a set is selected and READY. -/
def slotReady (s : State) (c : ConfigSet) : Bool :=
  setParam c 0x1000 != 0xFF && s.rmap.state.getD (setParam c 0x1000) .empty == .ready

/-- What a render reads. -/
def viewOf (s : State) (r : Render) : View :=
  let n := setParam r.set 0x1000
  { c := r.set, bufs := r.bufs, map := if slotReady s r.set then s.rmap.image[n]? else none
    facet := r.facet, flat := r.flat }

/-! ### What a render leaves (R173, R176, R181) -/

/-- The facts of a render for the frame's entry. -/
def renderRec (r : Render) (abandoned : Bool) : FacetRec :=
  { flatBuilt := r.flatBuilt, levelStart := if r.flat then 0 else r.levelStart, levelEnd := if r.flat then 0 else r.level
    escalations := r.escalations, abandoned := abandoned }

/-- A render is abandoned after some tiles: its buffer and its statistics are undefined, its measurements are scaled up, and
its facts wait for the start of its facet. -/
def cutRender (r : Render) (meas : RenderMeas) (s : State) : State :=
  let got := scaleMeas meas.tiles (measureRender s.mem (viewOf s r) r meas meas.tiles)
  let s1 := memUndef (statBase r.buf) 2073600 (memUndef (facetBase r.buf) 530841600 s)
  { s1 with ray := { s1.ray with render := none, meas := some got, recs := s1.ray.recs.set r.facet (renderRec r true) }
            sco := { s1.sco with headNew := none } }

/-! ### Head stores (R252) -/

/-- The word of a pixel in a facet buffer (R169). -/
def bufWord (m : Mem) (b x y : Nat) : Nat := leNat (memBytes m (facetPixel b x y) 4)

/-- The panel row of a row of a head store. -/
def headRow (n : Nat) : Nat := if n < 8 then n else 4312 + n

/-- A head store filled from a buffer, with the words that lie in poisoned granules (Table 13-5). -/
def fillHead (m : Mem) (b : Nat) : HeadStore :=
  let at' := (List.range 16).flatMap (fun n => (List.range 15360).map (fun x => (x, headRow n)))
  { buf := b, words := at'.map (fun p => bufWord m b p.1 p.2)
    lost := if m.poison.isEmpty && m.chanFail == 0 then []
            else (List.range (16 * 15360)).filter (fun i => memPoisoned m (facetPixel b (i % 15360) (headRow (i / 15360))) 4) }

end Sys2Proof.Machine
end

