-- ==== Sys2Proof/Machine/Conditions.lean ====
section
/-! DEFINITION. What the conditions do: blanking, rotor state changes, the panel sequences, Flysheet requests, FAULT,
THERMAL_SHUTDOWN and COAST (chapters 9, 12, 17, 18 and 22). -/
namespace Sys2Proof.Machine

/-! ### The Ray Engine stops (R174) -/

/-- A render in progress is abandoned; how many tiles it had issued and the bytes it had fetched are free values (log 2). -/
def stopRender (s : State) : State :=
  match s.ray.render with
  | none => s
  | some r =>
    let (vs, s1) := takeFrees 18 s
    cutRender r { g := vs.drop 2, gt := vs.getD 1 0, tiles := vs.getD 0 0 % 129600, fetch := [], parity := 0 } s1

/-- The engine stops: a render in progress is abandoned, every buffer is invalid, and the outgoing epoch is released
(R171). The slot in progress completes, no further row is scanned, and every facet is dark until a render completes under
the new state (R264). DESIGN CHOICE (log 74): RAY_LAST_DONE keeps the facet that completed or was late last. -/
def stopRay (s : State) : State :=
  let s1 := stopRender s
  { s1 with
    ray := { s1.ray with running := false, nextFacet := none
                         shown := List.replicate 4 none, done := List.replicate 4 false, zoneRec := [] }
    sco := { s1.sco with scanning := s1.sco.scanning && s1.sco.inSlot, buf := none, prevBuf := none
                         isDark := s1.sco.isDark || s1.rot.angleValid
                         headNew := none, headShown := none, headPrev := none }
    cfg := { s1.cfg with outgoing := none } }

/-! ### Rotor (Table 9-4) -/

def rotCode : RotState → Nat
  | .stopped => 0 | .freewheel => 1 | .catching => 2 | .align => 3 | .spinUp => 4 | .run => 5 | .brake => 6
  | .regen => 7 | .sensorlessBrake => 8

/-- The parameters that take effect at a spin-up, and the setpoint kept for it (R223, Table 9-7). -/
def latchSpin (s : State) : State :=
  { s with rot := { s.rot with dir := par s 0x4109, polePairs := par s 0x410A, currentMa := par s 0x410B
                               spinTimeout := par s 0x4107, setpoint := par s 0x4100, accelRate := par s 0x4101 } }

/-- The bridge is off and drives nothing after it (Table 9-3). -/
def bridgeRests (r : RotState) : Bool := r == .stopped || r == .freewheel

/-- The next index edge may start the counter in a state entered now: not with the bridge off again; as before where the
counter counts or the state brakes; else the bridge has left the off state, or drives from a state in which the counter
stopped (R219, Table 9-3). -/
def armedIn (n : RotState) (s : State) : Bool :=
  !bridgeRests n &&
    (s.rot.armed || (!s.rot.angleValid && (bridgeRests s.rot.state || n == .spinUp)))

/-- The rotor passes to a state: sources 20 and 24, LOCK and RAMP with RUN, LIT_OK (R223, R228, R231, R235). -/
def setRotState (n : RotState) (s : State) : State :=
  let old := s.rot.state
  if n = old then s
  else
    let s1 := when (n == .spinUp) latchSpin s
    let s2 := when (n == .brake || n == .sensorlessBrake)
      (fun t => { t with rot := { t.rot with brakeRate := par t 0x4102 } }) s1
    let lost := old == .run && s2.rot.lock == .locked
    let s3 := { s2 with rot := { s2.rot with
      state := n
      n0 := s2.rot.speed16
      indexSeen := false
      lock := if n = .run then .acquiring else if old = .run then .off else s2.rot.lock
      lockRun := 0, unlockRun := 0
      ramp := n == .run
      trim := 0
      sensorless := n == .sensorlessBrake || (n == .regen && s2.rot.encLost)
      shorting := s2.rot.hwTrip && s2.rot.shorting
      shortMs := false
      armed := armedIn n s2
      req := if n = .stopped then .none else s2.rot.req } }
    let s4 := raiseIf (n == .stopped) 24 (raise 20 s3)
    refreshLit (when lost (fun t => count .lockLoss (raise 22 t)) s4)

/-- The request in force. -/
def setReq (r : RotReq) (s : State) : State := { s with rot := { s.rot with req := r } }

/-- The braking of R224 for a cause that is not a request. -/
def brakeRotor (s : State) : State :=
  match s.rot.state with
  | .spinUp | .run => setRotState .brake s
  | .catching => setReq .stop s
  | .align => setRotState .stopped s
  | .stopped | .freewheel | .brake | .regen | .sensorlessBrake => s

/-- A stop request (Table 9-4). -/
def stopRotor (s : State) : State :=
  match s.rot.state with
  | .spinUp | .run => setRotState .brake (setReq .stop s)
  | .align => setRotState .stopped s
  | .freewheel =>
    if s.rot.speed16 < 60 * 16 then setRotState .stopped s
    else if 300 * 16 ≤ s.rot.n0 then setRotState .catching (setReq .stop s)
    else setReq .stop s
  | .catching | .brake | .regen | .sensorlessBrake => setReq .stop s
  | .stopped => s

/-- A start request (Table 9-4); refused by its caller while FAULT or THERMAL_SHUTDOWN is set. The encoder is read before
any drive: a drum below 60 rpm is STOPPED and is aligned (R233). -/
def startRotor (s : State) : State :=
  match s.rot.state with
  | .stopped => setRotState .align (setReq .start s)
  | .freewheel =>
    if s.rot.speed16 < 60 * 16 then setRotState .align (setReq .start (setRotState .stopped s))
    else setRotState .catching (setReq .start s)
  | .brake => setRotState .spinUp (setReq .start s)
  | .catching | .align | .spinUp | .run | .regen | .sensorlessBrake => setReq .start s

/-- The rotor's action on encoder loss (Tables 9-5 and 9-6). -/
def sensorlessRotor (s : State) : State :=
  match s.rot.state with
  | .catching | .align | .spinUp | .run | .brake => setRotState .sensorlessBrake s
  | .regen => { s with rot := { s.rot with sensorless := true } }
  | .stopped | .freewheel | .sensorlessBrake => s

/-- The facet records of a frame that is cut: a facet that has not started is dark, with the facts of its render (R181,
R518). -/
def cutFrame (s : State) : List FacetRec :=
  (List.range 4).map (fun j =>
    let f := s.sco.frame.getD j {}
    if f.outcome = .none then { s.ray.recs.getD j {} with underrun := f.underrun } else f)

/-- The angle counter stops (R220): the Ray Engine stops (R174), the entry of the partial frame is written (R518), and
LIT_OK falls. -/
def stopAngle (s : State) : State :=
  if s.rot.angleValid then
    let s1 := stopRay { s with rot := { s.rot with angleValid := false, counts := 0 } }
    let s2 := writeFrame false false { s1 with sco := { s1.sco with scanning := false, inSlot := false, awaiting := none
                                                                    frame := cutFrame s1 } }
    refreshLit { s2 with ray := { s2.ray with recs := List.replicate 4 {} } }
  else s

/-! ### Panel power (R300 to R305) -/

/-- Links and addresses of the column drivers (Table 11-7). -/
def colDrivers : List (Nat × Nat) := (List.range 32).flatMap (fun l => (List.range 8).map (fun a => (l, 8 + a)))
/-- Links and addresses of the gate drivers. -/
def gateDrivers : List (Nat × Nat) := (List.range 32).map (fun l => (l, 0))

/-- A WRITE of the module's own. -/
def ownWrite (pwr : Bool) (reg data : Nat) (d : Nat × Nat) : Exchange :=
  { link := d.1, addr := d.2, reg := reg, data := BitVec.ofNat 16 data, kind := .write, power := pwr }

/-- Exchanges of a power sequence, behind the module's others (R293). -/
def pushPower (es : List Exchange) (s : State) : State := { s with gcl := { s.gcl with own := s.gcl.own ++ es } }

/-- GCL_VCOM_CODE to both VCOM buffers, ahead of power sequencing (R293, R295). -/
def pushVcom (pwr : Bool) (s : State) : State :=
  let es := [(0, 1), (16, 1)].map (ownWrite pwr 0x10 (par s 0x4306))
  { s with gcl := { s.gcl with own := es ++ s.gcl.own, vcomDue := false } }

/-- RAILS written to the PMIC (Table 12-1). -/
def setRails (v : Nat) (s : State) : State :=
  pushPower [ownWrite true 0x10 v (0, 2)] { s with pnl := { s.pnl with rails := v } }

/-- Bit L of PLT_POLARITY inverts every line bit of lane L (R285). -/
def polarize (s : State) (lane : Nat) (bs : List Bool) : List Bool :=
  if s.plt.polarity.getLsbD lane then bs.map (!·) else bs

/-- The lanes send training packets, one each 1 µs (R281, R286). -/
def sendTraining (lanes : List Nat) (n : Nat) (s : State) : State :=
  { s with plt := { s.plt with
      packets := lanes.map (fun l => { link := l, bits := polarize s l (trainingBits l) }), reps := n } }

/-- The lanes of a word that are set. -/
def lanesOf (m : BitVec 256) : List Nat := (List.range 256).filter (fun l => m.getLsbD l)

/-- The commands of an opcode in flight that have started. -/
def startedFlights (s : State) (op : Nat) : List Flight := s.hif.flights.filter (fun f => f.op == op && f.started)

/-- Their tags. -/
def startedOf (s : State) (op : Nat) : List Nat := (startedFlights s op).map (fun f => ptag f.p)

/-- The lane mask of a LINK_LOOPBACK. -/
def loopMask (s : State) (p : Pkt) : BitVec 256 := BitVec.ofNat 256 (leNat ((pdata s p).take 32))

/-- A loopback test begins: the lanes are in L0 (Table 11-3), no row is sent over it (log 78), and in the far-end test the
packets leave the module (Table 11-5). -/
def beginLoop (tag : Nat) (s : State) : State :=
  let s1 := darkNow { s with plt := { s.plt with
    state := .l0, loopBusy := true, loopTag := some tag, loopFail := 0, loopRes := none } }
  match flightOf s tag with
  | some f => sendTraining (if pf f.p 0x14 1 = 2 then lanesOf (loopMask s f.p) else []) (pf f.p 0x18 4) s1
  | none => s1

/-- A loopback test ends with its results and source 50; the next one begins (R286). -/
def loopFinish (st : Nat) (bad : BitVec 256) (errs : Nat) (s : State) : State :=
  match s.plt.loopTag with
  | none => s
  | some tag =>
    let s1 := { s with plt := { s.plt with
      loopBusy := false, loopTag := none, loopRes := none
      state := if s.plt.state = .training then s.plt.state else if s.pnl.state = .on then .l0 else .l3d } }
    let s2 := raise 50 (finish tag
      { status := st, result := leBytes 2 (lanesOf bad).length ++ [0, 0] ++ leBytes 4 (min errs 0xFFFFFFFF) } s1)
    match startedOf s2 0x0411 with
    | t :: _ => beginLoop t s2
    | [] => s2

/-- A far-end loopback whose closing training is cut has its results (log 78). -/
def loopCut (s : State) : State :=
  match s.plt.loopRes with
  | some r => loopFinish St.ok r.1 r.2 s
  | none => s

/-- Training stops where the panel loses its power. -/
def cutTraining (s : State) : State :=
  if s.plt.state = .training then loopCut { s with plt := { s.plt with state := .l0, trainFor := 0 } } else s

/-- A LINK_TRAIN in progress or waiting ends with a status; training for it ends. -/
def linkTrainStop (st : Nat) (s : State) : State :=
  finishAll (startedOf s 0x0410) { status := st, result := leBytes 4 0 }
    { s with plt := { s.plt with trainWait := none, trainFor := if s.plt.trainFor = 2 then 0 else s.plt.trainFor
                                 state := if s.plt.trainFor = 2 then .l0 else s.plt.state } }

/-- The discharge sequence starts, at its row for 0 ms (R304, Table 12-3). A LINK_TRAIN that
another cause has not ended ends as one that finds the panel not ON (log 78). -/
def startDischarge (s : State) : State :=
  if s.pnl.state = .powering ∨ s.pnl.state = .on then
    let lvl := par s 0x4502
    pushPower (colDrivers.map (ownWrite true 0x11 lvl) ++ colDrivers.map (ownWrite true 0x10 1) ++
        gateDrivers.map (ownWrite true 0x10 1))
      (cutTraining (linkTrainStop St.wrongMode (blank { s with
        gcl := { s.gcl with own := s.gcl.own.filter (fun e => !e.power) }
        pnl := { s.pnl with state := .discharging, dischStep := 1, dischLevel := lvl, step := 0, waitReady := false
                            delay := false, waitCrack := false } })))
  else s

/-- FAULT or THERMAL_SHUTDOWN acts on the panel; in COAST the Coast sequence does, at its step 3 (R300, R562). -/
def dischargePanel (s : State) : State := if s.cond.coast then s else startDischarge s

/-- A loop enabled by CRK_ENABLE that is not OK (R302, R308). -/
def crackBad (s : State) : Bool :=
  (List.range 2).any (fun n => (par s 0x4500).testBit n && s.pnl.crk.getD n .ok != .ok)

/-- Panel power-on: its first step, or the wait for the crack loops (R302), or the wait for a discharge (R305). -/
def startPowerOn (s : State) : State :=
  match s.pnl.state with
  | .off =>
    if crackBad s then { s with pnl := { s.pnl with waitCrack := true } }
    else { s with pnl := { s.pnl with state := .powering, step := 2, waitReady := true, waitCrack := false
                                      delay := false, auxPnl := true, dischStep := 0, powerAfter := false } }
  | .discharging => { s with pnl := { s.pnl with powerAfter := true } }
  | .powering | .on => s

/-- The status a condition ends a command with (R413, R566). -/
def condStatus (s : State) : Nat :=
  if s.cond.coast then St.coastAbort else if s.cond.fault then St.faultActive else St.thermalHot

def pnlCode : PnlState → Nat
  | .off => 0 | .powering => 1 | .on => 2 | .discharging => 3

/-- A PANEL_POWER command ends, with the panel state in its RESULT. -/
def panelEnd (tag st : Nat) (s : State) : State :=
  finish tag { status := st, result := [BitVec.ofNat 8 (pnlCode s.pnl.state)] }
    { s with pnl := { s.pnl with cmds := s.pnl.cmds.filter (· != tag) } }

/-- ON of a PANEL_POWER in flight. -/
def panelOn (s : State) (tag : Nat) : Bool := ((flightOf s tag).map (fun f => pf f.p 0x14 1)).getD 0 == 1

/-- The PANEL_POWER at the head acts; one that completes at once lets the next act (R570). -/
def panelActs : Nat → State → State
  | 0, s => s
  | n + 1, s =>
    match s.pnl.cmds with
    | [] => s
    | t :: _ =>
      if panelOn s t then
        if anyStop s then panelActs n (panelEnd t (condStatus s) s)
        else match s.pnl.state with
          | .on => panelActs n (panelEnd t St.ok s)
          | .off | .discharging => startPowerOn s
          | .powering => s
      else match s.pnl.state with
        | .off => panelActs n (panelEnd t St.ok s)
        | .on => startDischarge s
        | .powering => extend t s
        | .discharging => s

/-- The PANEL_POWER commands go on. -/
def panelNext (s : State) : State := panelActs (s.pnl.cmds.length + 1) s

/-- A PANEL_POWER with ON = 1 that acts ends with a status, and the next one acts. -/
def panelStop (st : Nat) (s : State) : State :=
  match s.pnl.cmds with
  | t :: _ => if panelOn s t then panelNext (panelEnd t st s) else s
  | [] => s

/-! ### Flysheet requests (R317 to R320) -/

/-- Tenths of k by band (Table 12-7). -/
def flyK (b : Nat) : Nat := [6, 10, 16, 30, 60].getD b 0
/-- Duration of slot i in a band, ms (R317). -/
def flySlotMs (b i : Nat) : Nat := (flyK b * [40, 100, 200, 70, 40].getD i 0 + 5) / 10
/-- Duration of the waveform in a band, ms. -/
def flyMs (b : Nat) : Nat := ((List.range 5).map (flySlotMs b)).sum

/-- A temperature input is enabled (R464; on-die inputs always). -/
def tempEnabled (s : State) (n : Nat) : Bool := 16 ≤ n || par s (0x7200 + 16 * n) != 0

/-- The band of the input FLY_TEMP_INPUT names, 7 for COLD (R318, Table 12-7). -/
def flyBand (s : State) : Nat :=
  let n := par s 0x4600
  let i := s.therm.ins.getD n {}
  if !(tempEnabled s n && i.valid && i.hasRead) then 3
  else if 640 ≤ i.reading then 0
  else if 240 ≤ i.reading then 1
  else if 0 ≤ i.reading then 2
  else if -240 ≤ i.reading then 3
  else if -480 ≤ i.reading then 4
  else 7

/-- The estimate covers an update: 1.25 × 20 W × its duration, in mJ (R320). -/
def flyCovered (s : State) (b : Nat) : Bool := decide (25 * flyMs b ≤ s.pwr.est)

/-- A CRK1 trip has not been cleared (R319, log 10). -/
def flySuppressed (s : State) : Bool := s.pnl.cause.getLsbD 1

/-- What every drop does: FLY_SKIP_CNT, source 62 and a black-box entry (R319, R320). -/
def flySkip (s : State) : State :=
  blackBoxSrc 62 (BitVec.ofNat 32 s.pnl.cause.toNat) (raise 62 (count .flySkip s))

/-- The requested update is dropped; a re-drive that waits goes on waiting. -/
def flyDrop (st : Nat) (s : State) : State :=
  let tags := s.fly.tags
  let s1 := flySkip { s with fly := { s.fly with
    state := if s.fly.state = .redriveWaiting then .redriveWaiting else .idle
    requested := false, pend := false, tags := [], causes := [] } }
  finishAll tags { status := st, result := [BitVec.ofNat 8 s.fly.reqBand] } s1

/-- A requested update that no other holds back: dropped, waiting for energy, or ready to start (R319, R320). -/
def flyConsider (s : State) : State :=
  if s.fly.requested && s.fly.cur.isNone && (s.fly.state == .idle || s.fly.state == .waiting) then
    if flySuppressed s then flyDrop St.faultActive s
    else
      let b := flyBand s
      let s1 := { s with fly := { s.fly with reqBand := b } }
      if b = 7 then flyDrop St.flyCold { s1 with fly := { s1.fly with band := 7 } }
      else if flyCovered s b then { s1 with fly := { s1.fly with state := .idle } }
      else if s.cond.coast then flyDrop St.flyEnergy s1
      else { s1 with fly := { s1.fly with state := .waiting } }
  else s

/-- A request for an update (R319). -/
def flyRequest (c : FlyCause) (tag : Option Nat) (s : State) : State :=
  if flySuppressed s then
    let s1 := flySkip s
    match tag with
    | some t => finish t { status := St.faultActive, result := [BitVec.ofNat 8 s.fly.band] } s1
    | none => s1
  else
    let s1 := { s with fly := { s.fly with tags := s.fly.tags ++ tag.toList, causes := c :: s.fly.causes } }
    if s.fly.cur.isSome || s.fly.state == .redriveWaiting then { s1 with fly := { s1.fly with pend := true } }
    else flyConsider { s1 with fly := { s1.fly with requested := true } }

/-- The update under way ends, and a merged request follows (R319). -/
def flyEnd (st : Nat) (u : FlyUpdate) (s : State) : State :=
  let s1 := { s with fly := { s.fly with cur := none, state := .idle, requested := s.fly.pend, pend := false } }
  flyConsider (finishAll u.tags { status := st, result := [BitVec.ofNat 8 u.band] } s1)

/-- A CRK1 trip stops a waveform with ABORT, and requests that wait are dropped, behind a re-drive too (R319,
Table 12-9). -/
def flyAbort (s : State) : State :=
  match s.fly.cur with
  | some u => { s with fly := { s.fly with cur := some { u with aborting := true, tries := 0 } } }
  | none => if s.fly.state = .redriveWaiting ∧ s.fly.pend then flyDrop St.faultActive s else flyConsider s

/-! ### Entry sequences and CALIBRATE ended by a condition (R566, R484) -/

/-- An entry sequence stops at once; MODE keeps its value (R566). A PARKED flush no longer holds the Recorder (R516). -/
def failEntry (st : Nat) (s : State) : State :=
  match s.cond.seq with
  | none => s
  | some q =>
    let s1 := { s with cond := { s.cond with seq := none, parkNext := false }
                       ray := if q.steps.head? = some 10 then { s.ray with switchRev := 0 } else s.ray
                       sil := { s.sil with stopped := false, skipFrame := s.sil.skipFrame || s.sil.stopped } }
    match q.tag with
    | some t => finish t { status := st, rflags := if s.cond.coast then rfCoast else 0
                           result := [BitVec.ofNat 8 (modeCode s.cond.mode)] } s1
    | none => s1

/-- The 148 calibration values of a file, set at once (R478). -/
def calValues (bs : List Byte) (s : State) : State :=
  let put (t : State) (pn v : Nat) : State :=
    { t with cfg := { t.cfg with params := paramPut t.cfg.params pn (BitVec.ofNat 32 v) } }
  let z := (List.range 132).foldl (fun t k => put t (0xA000 + k) (field bs (0x20 + 4 * k) 4)) s
  (List.range 16).foldl (fun t k => put t (0xA100 + k) (field bs (0x230 + 4 * k) 4)) z

/-- A CAL_LOAD runs: length, MAGIC and CHECK only (R478). -/
def calLoad (tag : Nat) (bs : List Byte) (s : State) : State :=
  if bs.length = 628 ∧ field bs 0 2 = 0x4C43 ∧ field bs 0x270 4 = (crc32c (bs.take 0x270)).toNat then
    finishSt tag St.ok (calValues bs { s with therm := { s.therm with calTime := some (field bs 0x10 4) } })
  else finishSt tag St.calFormat s

/-- The CAL_LOADs that waited for CALIBRATE run (R484). -/
def runCalLoads (s : State) : State :=
  s.therm.calWait.foldl (fun t n => match flightOf t n with
    | some f => calLoad n (pdata t f.p) t
    | none => t) { s with therm := { s.therm with calWait := [] } }

/-- A condition ends every CALIBRATE that has started, and the CAL_LOADs that waited run (R483, R484). -/
def endCalibrate (e : Ending) (s : State) : State :=
  if s.therm.calRun.isSome then
    runCalLoads (finishAll (startedOf s 0x0A03) e
      { s with therm := { s.therm with calRun := none, spareZone := none, heldRead := [] } })
  else s

/-- ROTOR_START commands that run end, with the rotor state in RESULT. -/
def rotorStartEnd (st : Nat) (s : State) : State :=
  finishAll (startedOf s 0x0420) { status := st, result := [BitVec.ofNat 8 (rotCode s.rot.state)] } s

/-! ### FAULT (R236, R559, Table 22-3 G) -/

/-- ROT_FAULT_CAUSE and PNL_FAULT_CAUSE as the black box states them (Table 20-9). -/
def causeWord (s : State) : Word := BitVec.ofNat 32 (s.rot.cause.toNat + s.pnl.cause.toNat * 2 ^ 16)

/-- FAULT is set. The rotor's action is the caller's. Under BIVOUAC only the black box records it. -/
def setFault (s : State) : State :=
  if s.cond.bivouac then blackBox 0x0205 0xFF (causeWord s) s
  else
    let fresh := !s.cond.fault
    let s1 := { s with cond := { s.cond with fault := true } }
    let s2 := bbFaultFlush (blackBox 0x0205 0xFF (causeWord s1) s1)
    let s3 := dischargePanel (linkTrainStop St.faultActive (stopRay (blank s2)))
    let s4 := panelStop St.faultActive { s3 with pnl := { s3.pnl with powerAfter := false, waitCrack := false } }
    let s5 := endCalibrate { status := St.faultActive } (failEntry St.faultActive s4)
    when fresh (flyRequest .fault none) s5

/-- A fault whose rotor action is braking (R224). -/
def faultBrake (s : State) : State := rotorStartEnd St.rotorFail (brakeRotor (setFault s))

/-- A rotor fault: its bit, FAULT, its source and its black-box entry (R236). -/
def rotorFault (b src : Nat) (s : State) : State :=
  let s1 := { s with rot := { s.rot with cause := s.rot.cause ||| BitVec.ofNat 9 (2 ^ b) } }
  blackBoxSrc src (BitVec.ofNat 32 s1.rot.cause.toNat) (raise src (setFault (refreshLit s1)))

/-- Encoder loss is declared (R220): the counter stops, FAULT, and sensorless braking. -/
def encoderLoss (b : Nat) (s : State) : State :=
  let s1 := stopAngle { s with rot := { s.rot with encLost := true } }
  rotorStartEnd St.rotorFail (sensorlessRotor (rotorFault b 16 s1))

/-! ### THERMAL_SHUTDOWN (R470 to R472) -/

/-- The highest of some readings; a free value when there is none (log 2). -/
def highest (l : List Int) (s : State) : Nat × State :=
  match l with
  | [] => takeFree s
  | a :: t => (wrapTo 16 (t.foldl max a), s)

/-- Valid readings of a range of inputs. -/
def validReadings (s : State) (lo n : Nat) : List Int :=
  ((List.range n).map (· + lo)).filterMap (fun k =>
    let i := s.therm.ins.getD k {}
    if tempEnabled s k && i.valid && i.hasRead then some i.reading else none)

/-- An entry of the thermal log (Table 18-2); the log has 320 slots. -/
def thermLog (kind input : Nat) (temp rate : Nat) (s : State) : State :=
  let (mt, s1) := highest (validReadings s 0 16) s
  let (md, s2) := highest (validReadings s1 16 6) s1
  let sq := (s2.therm.logSeq + 1) % 2 ^ 32
  let body := leBytes 2 0x4854 ++ [0x01] ++ leBytes 1 kind ++ leBytes 4 sq ++ timeBytes (stampTime s2) ++
    leBytes 4 (s2.pwr.boot % 2 ^ 24) ++ leBytes 1 input ++ leBytes 1 (modeCode s2.cond.mode) ++
    leBytes 1 (condBits s2) ++ leBytes 1 s2.therm.step ++ leBytes 2 temp ++ leBytes 2 rate ++ leBytes 2 mt ++
    leBytes 2 md ++ leBytes 8 s2.cfg.epoch
  { s2 with therm := { s2.therm with
      logSeq := sq
      log := ({ bytes := withCheck (padTo 60 body) } : LogEntry) :: s2.therm.log.take 319 } }

/-- Entry to THERMAL_SHUTDOWN for an input that has tripped (R471). -/
def enterShutdown (n : Nat) (s : State) : State :=
  let i := s.therm.ins.getD n {}
  let s1 := stopRay (blank { s with cond := { s.cond with shutdown := true } })
  let s2 := thermLog 1 n (wrapTo 16 i.tripVal) (wrapTo 16 i.rate) s1
  let s3 := when (!(s2.cond.coast && !s2.pwr.flushDone)) (bbFlushSlot 3) s2
  let s4 := dischargePanel (linkTrainStop St.thermalHot s3)
  let s5 := panelStop (condStatus s4) { s4 with pnl := { s4.pnl with powerAfter := false, waitCrack := false } }
  let s6 := endCalibrate { status := St.thermalHot } (failEntry (condStatus s5) s5)
  flyRequest .thermal none (rotorStartEnd St.thermalHot (brakeRotor s6))

/-! ### COAST (R437, R441 and the rules it names) -/

/-- Opcodes that entry to COAST does not end (R407; FLYSHEET_UPDATE ends with its update, R319). -/
def coastKeeps (op : Nat) : Bool := op = 0x0101 || op = 0x0102 || op = 0x0105 || op = 0x0702

/-- A block in an engine is stopped by COAST: its bytes are undefined and recorded as damaged (R71, Table 5-1). -/
def coastBlock (b : BlockRec) (s : State) : State :=
  match b.engine with
  | none => s
  | some e =>
    let s1 := damageAdd b.buf (dLen b.desc) b.dst b.ulen (memUndef b.dst b.ulen s)
    blockFailed b.tag b.index St.coastAbort e (field b.header 0x10 4) (field b.header 0x16 2) b.plane b.offset s1

/-- The books of a SCENE_LOAD; those of one that has not been taken are empty. -/
def jobOf (s : State) (tag : Nat) : LoadJob := (s.sdec.jobs.find? (fun j => j.tag == tag)).getD {}

/-- The Scene Decoder stops; every SCENE_LOAD ends, with the blocks it has not attempted in its RESULT (R71, R105). -/
def coastLoads (s : State) : State :=
  let s1 := s.sdec.blocks.foldl (fun t b => coastBlock b t) s
  let s2 := (flightsOf s1 0x0201).foldl (fun t n =>
    finish n { status := St.coastAbort, rflags := rfCoast, result := loadResult (blockCount t n) (jobOf s1 n) } t) s1
  let s3 := (draftExtents s2).foldl (fun t r => memUndef r.1 r.2 t) s2
  { s3 with sdec := { s3.sdec with waiting := [], jobs := [], blocks := [] }
            cfg := { s3.cfg with carry := [], carryRun := false } }

/-- The Capture Encoder stops; its jobs are marked incomplete (R119). -/
def coastCapture (s : State) : State :=
  let th := s.sdec.cenc.map (fun j =>
    ({ region := j.region, status := 1, rseq := j.sceneId.toNat, offset := j.start, stream := j.out } : ThumbRec))
  { s with sdec := { s.sdec with cenc := [], thumbs := s.sdec.thumbs ++ th } }

/-- The composer, the ports, the Blitter, the triggers, training, a panel power-on, the debug halts and the rest stop
(R34, R153, R208, R382, R296, R535, R423). -/
def coastBlocks (s : State) : State :=
  let s0 := (startedFlights s 0x0803).foldl (fun t f => memUndef (pf f.p 0x18 8) (pf f.p 0x20 8) t) s
  let s1 := abandonComp (match s0.blt.queue, s0.blt.running with
    | b :: _, true => bltUndef b.desc s0
    | _, _ => s0)
  { s1 with
    acc := { s1.acc with
      queuedFrame := false
      ports := s1.acc.ports.map (fun p => { p with receiving := false, rx := none, stale := false }) }
    blt := { s1.blt with queue := [], running := false, staging := false }
    tu := { s1.tu with trig := s1.tu.trig.map (fun e => (e.1, if byteAt e.2.desc 1 / 2 % 2 = 1 then e.2
                                                              else { e.2 with active := false })) }
    plt := { s1.plt with state := if s1.plt.state = .training then .l3d else s1.plt.state, trainFor := 0
                         trainWait := none, loopBusy := false, loopTag := none, loopRes := none }
    gcl := { s1.gcl with host := [] }
    pnl := { s1.pnl with cmds := [], powerAfter := false, waitCrack := false, waitReady := false, delay := false
                         step := if s1.pnl.state = .powering then 0 else s1.pnl.step }
    dbg := { s1.dbg with halted := 0, brk := [] }
    therm := { s1.therm with calRun := none, spareZone := none, heldRead := [], calWait := [] }
    pwr := { s1.pwr with
      fwTag := none
      slots := match s1.pwr.fwTag with
        | some (_, k, img) => s1.pwr.slots.set k (img, false)
        | none => s1.pwr.slots } }

/-- The Blitter's operations end with ST_COAST_ABORT: counted, with NOTIFY and the idle source (R208, R209). -/
def coastBltCount (s : State) : State :=
  let s1 := s.blt.queue.foldl (fun t b => raiseIf (b.op != 0x0504 && (byteAt b.desc 2).testBit 0) 240 (count .bltFail t)) s
  raiseIf (!s.blt.queue.isEmpty) 241 s1

/-- The Time Unit takes no master in COAST (R382). -/
def coastTime (s : State) : State :=
  if s.tu.state = .acquiring ∨ s.tu.state = .locked then
    raise 160 { s with tu := { s.tu with state := .holdover, master := none } }
  else { s with tu := { s.tu with master := none } }

/-- The rotor passes to REGEN (Table 9-4, Table 9-6). -/
def coastRotor (s : State) : State :=
  match s.rot.state with
  | .catching | .align | .spinUp | .run | .brake | .sensorlessBrake => setRotState .regen s
  | .stopped | .freewheel | .regen => s

/-- A ray-map slot after one of its loads has gone: LOADING while another load of it is in flight; else EMPTY when
the load ran, and as it was when it did not (R43). -/
def raymapAfter (n : Nat) (ran : Bool) (s : State) : State :=
  if s.hif.flights.any (fun f => f.op == 0x0210 && pf f.p 0x14 1 == n) then s
  else
    let img := if ran then [] else s.rmap.image.getD n []
    { s with rmap := { state := s.rmap.state.set n (if img.isEmpty then .empty else .ready)
                       image := s.rmap.image.set n img } }

/-- Commands in flight end with ST_COAST_ABORT, pending commits are cancelled and consume no number (R28, R407). -/
def coastCommands (s : State) : State :=
  let s1 := { s with cfg := { s.cfg with commits := [], snap := none, nextEpoch := s.cfg.epoch } }
  let s2 := finishAll ((s1.hif.flights.filter (fun f => !coastKeeps f.op)).map (fun f => ptag f.p))
    { status := St.coastAbort, rflags := rfCoast } s1
  (List.range 4).foldl (fun t n => if t.rmap.state.getD n .empty = .loading then raymapAfter n true t else t) s2

/-! ### The hold-up bus (R432, R434) -/

/-- The hold-up bus as measured: a free value of a band, in 10 mV (log 2). -/
def hubBand (lo hi : Nat) (s : State) : State :=
  let (k, s1) := takeFree s
  { s1 with pwr := { s1.pwr with hub := lo + k % (hi + 1 - lo) } }

/-- HUB regulated at 48.0 V ±2 % by the input stage (R432). -/
def hubInput (s : State) : State := hubBand 4704 4896 s
/-- HUB held at 44.0 V ±2 % by the bridge (R434). -/
def hubRegen (s : State) : State := hubBand 4312 4488 s
/-- The bridge holds the hold-up bus: it regenerates, and its phases are not shorted (R214). -/
def regenHolds (s : State) : Bool := s.rot.state == .regen && !s.rot.shorting
/-- HUB as it stands: held by a bridge in REGEN, which the input stage never joins, else regulated by the input stage
while that runs, else falling (R432, R434). -/
def hubNow (s : State) : State :=
  if regenHolds s then hubRegen s
  else if s.pwr.inputOk && s.rot.state != .regen then hubInput s
  else hubBand 0 4896 s

/-- Entry to COAST (R437, R441). -/
def enterCoast (s : State) : State :=
  let s1 := raise 1 (count .coast { s with
    cond := { s.cond with coast := true }
    pwr := { s.pwr with coastStep := 1, flushDone := false, flyDone := false, flySkipped := false, returning := false
                        returnPend := false, stepEst := [s.pwr.est, 0, 0, 0, 0], stepsEnded := []
                        coastMode := s.cond.mode, coastSlow := decide (s.rot.speed16 < 1200 * 16) } })
  let s2 := coastTime (coastRotor (stopRay (blank s1)))
  let s3 := failEntry St.coastAbort (cutFlush s2)
  let s4 := onMem coastRequests (coastBlocks (coastBltCount (coastCapture (coastLoads s3))))
  flyConsider (coastCommands s4)

/-- COAST may be entered: after READY or under BIVOUAC, and not already in COAST (R437). -/
def mayCoast (s : State) : Bool := (s.hif.ready || s.cond.bivouac) && !s.cond.coast && !s.pwr.episode

end Sys2Proof.Machine
end

