-- ==== Sys2Proof/Machine/Commits.lean ====
section
/-! DEFINITION. Commits: the snapshot and its checks at the commit point, what taking effect does, operating points, and
the start of a frame composition (R21 to R28, R31, R64 to R66, R129, R137 to R141, R260 to R263, R352). -/
namespace Sys2Proof.Machine

/-! ### JT-40 frames (R428) -/

/-- A JT-40 reply frame: sync, status, length, payload, and the CRC-8 of what follows the sync byte. -/
def jtFrame (st : Nat) (payload : List Byte) : List Byte :=
  let body := leBytes 1 st ++ leBytes 1 payload.length ++ payload
  0xA5#8 :: (body ++ [crc8 body])

/-- A JT-40 reply. -/
def jtReply (st : Nat) (payload : List Byte) (s : State) : State :=
  { s with hif := { s.hif with jtOut := jtFrame st payload :: s.hif.jtOut } }

/-! ### Operating points (R31, R352) -/

/-- The point MEM_TEST_RATE names. -/
def ratePoint (n : Nat) : Point := if n = 0 then .p32 else if n = 1 then .p48 else .p56

/-- The point of a mode, with the timing of the service (Tables 1-4 and 22-3). -/
def modePoint (s : State) (m : Mode) : Point :=
  match m with
  | .lightfield => .p48
  | .flat => .p32
  | .service => if s.cond.svcTiming then .p48 else .p32
  | .test => ratePoint (par s 0x8007)
  | .parked => .off

/-- A loop of the Clock Unit changed: PLLs 0 to 3 are the core, memory, lane and PTP PLLs, 4 to 11 the aligners. -/
def onPll (n : Nat) (f : Plle → Plle) (s : State) : State :=
  { s with clk := { s.clk with plls := s.clk.plls.set n (f (s.clk.plls.getD n {})) } }

/-- A frequency change begins (R350): the queues drain and all banks are refreshed; every facet during it is dark (R352).
The memory PLL moves to bypass while it is set to its new frequency (R504). -/
def startChange (p : Point) (s : State) : State :=
  let s1 := darkNow (onMem (fun m => { refreshAll m with
    changing := some (m.point, p), required := none, verifying := false, changeBad := false, freqFrame := true }) s)
  if p = .off then s1
  else onPll 1 (fun l => { l with lock := false, bypass := true, requested := true, goodRun := 0, badRun := 0 }) s1

/-- An operating point is required (R352, R354): after the change that runs, at once, or in the next window;
self-refresh is no change of frequency. -/
def requirePoint (p : Point) (s : State) : State :=
  if s.mem.changing.isSome then { s with mem := { s.mem with required := some p } }
  else if s.mem.point = p then { s with mem := { s.mem with required := none } }
  else if p = .off then { s with mem := { s.mem with point := .off, required := none } }
  else if !s.rot.angleValid || (s.cond.mode == .test && s.cond.seq.isNone) || s.mem.point == .off then startChange p s
  else { s with mem := { s.mem with required := some p } }

/-! ### Camera ports (R129) -/

/-- One camera port changed. -/
def onPort (n : Nat) (f : CamPort → CamPort) (s : State) : State :=
  { s with acc := { s.acc with ports := s.acc.ports.set n (f (s.acc.ports.getD n {})) } }

/-- A camera frame as a layer's pick names it: its port and its sequence number. -/
def camKey (port seq : Nat) : Nat := port * 2 ^ 32 + seq % 2 ^ 32

/-- The camera frames that a layer shows, or shows again when the composition in progress is abandoned. -/
def shownCams (s : State) : List Nat :=
  s.acc.frameCams.map (·.2) ++ s.acc.facetCams.flatMap (fun e => e.2.map (·.2)) ++
  s.acc.targets.flatMap (fun e => (e.2.drawn ++ e.2.cams).map (·.2)) ++
  ((s.acc.comp.map (fun c => c.prev.map (·.2))).getD [])

/-- The frames of a port that a layer still shows. -/
def keptFrames (s : State) (n : Nat) (p : CamPort) : List CamFrame :=
  p.frames.filter (fun f => (shownCams s).contains (camKey n f.seq))

/-- A port starts under the parameters of a set: frames of an earlier run are discarded, those still shown apart. -/
def portStart (c : ConfigSet) (n : Nat) (s : State) : State :=
  onPort n (fun p => { p with receiving := true, params := camParams c n, rx := none, stale := false, good := false
                              inFrame := true, frames := keptFrames s n p }) s

/-- A port restarts: frames under the old settings are discarded, those still shown apart. -/
def portRestart (c : ConfigSet) (n : Nat) (s : State) : State :=
  onPort n (fun p => { p with params := camParams c n, rx := none, good := false, frames := keptFrames s n p }) s

/-- A port that no enabled camera layer names any more stops. -/
def portStop (n : Nat) (s : State) : State :=
  onPort n (fun p => { p with receiving := false, rx := none, stale := false }) s

/-- The ports that a new snapshot starts (R129). -/
def portsStart (c : ConfigSet) (s : State) : State :=
  (List.range 4).foldl (fun t n =>
    if camNamed c n && !(t.acc.ports.getD n {}).receiving then portStart c n t else t) s

/-- The ports at a latch angle: those whose parameters differ restart, those named no more stop (R129). -/
def portsLatch (s : State) : State :=
  (List.range 4).foldl (fun t n =>
    let p := t.acc.ports.getD n {}
    let c := t.cfg.active
    if !p.receiving then (if camNamed c n then portStart c n t else t)
    else if camNamed c n then (if p.params = camParams c n then t else portRestart c n t)
    else if (t.cfg.commits.any (fun x => camNamed x.snap.set n)) then t
    else portStop n t) s

/-! ### The commit point (R23, R24, R64) -/

/-- A plane has received a block since the commit point of the snapshot that last took effect (R64). -/
def planeWritten (s : State) (k : Nat) : Bool := s.cfg.writes.any (fun w => w.1 == k)

/-- The buffer of a paired plane that a commit point names (R64). -/
def commitBuf (s : State) (k : Nat) : Nat :=
  let d := planeOf s.cfg.draft k
  if planeWritten s k then draftBuf s k d else activeBuf s k d

/-- The snapshot of the draft set. -/
def snapshotOf (s : State) : ConfigSet :=
  { s.cfg.draft with bufB := (List.range 64).filter (fun k =>
      dPaired (planeOf s.cfg.draft k) && commitBuf s k == dBaseB (planeOf s.cfg.draft k)) }

/-- The first revolution at whose latch angle a commit point of this moment may take effect (R261). -/
def latchRev (s : State) : Nat := if atk s ≤ 32767 then rev s else (rev s + 1) % 65536

/-- A commit point: the refusal of its snapshot, or the state with the snapshot waiting (R23 to R25). -/
def commitPoint (tag path : Nat) (s : State) : Except Refuse State :=
  let c := snapshotOf s
  match commitChecks s c with
  | some r => .error r
  | none =>
    let before := (s.cfg.snap.map (·.set)).getD s.cfg.active
    let changes := decide (c ≠ before)
    let n := if changes then s.cfg.nextEpoch + 1 else ((s.cfg.commits.getLast?).map (·.epoch)).getD s.cfg.epoch
    let sn : Snapshot := { set := c, epoch := n, changes := changes, minRev := latchRev s
                           logLen := s.cfg.writes.length }
    .ok (portsStart c { s with cfg := { s.cfg with
      nextEpoch := if changes then n else s.cfg.nextEpoch
      snap := some sn
      commits := s.cfg.commits ++ [{ tag := tag, path := path, epoch := n, noChange := !changes, snap := sn }] } })

/-- The COMMIT under a tag reaches its commit point. -/
def commitNow (tag path : Nat) (s : State) : State :=
  match commitPoint tag path s with
  | .ok t => t
  | .error r => finish tag { status := r.status, rflags := if r.inDecode then rfInDecode else 0
                             result := objResult r.kind r.index } s

/-! ### What a change of set does to the composer (R137) -/

/-- The pair of buffers of a target that becomes active, every tile of it changed: the lowest free pair that no render in
progress reads; when all 33 are taken, the other buffer of a pair that only the outgoing epoch reads (log 11). -/
def newTarget (s : State) (k : Nat) : Target :=
  let used := s.acc.targets.map (·.2.slot)
  let free := (List.range 33).filter (fun n => !used.contains n)
  let read := ((s.ray.render.map (·.bufs)).getD []).map (·.2.1)
  let tiles := allTiles s.cfg.active k
  match (free.filter (fun n => !read.contains n)).head?, free.head? with
  | some n, _ => { slot := n, pendTiles := tiles }
  | none, some n => { slot := n, pendTiles := tiles }
  | none, none =>
    match s.acc.targets.find? (fun e => !(activeTargets s.cfg.active).contains e.1 && used.count e.2.slot == 1) with
    | some e => { slot := e.2.slot, read := e.2.read, pendTiles := tiles }
    | none => { pendTiles := tiles }

/-- The targets follow the set: those that became active have every tile changed; those that the outgoing epoch names
keep their buffers until it is released (R121, R137, R171). -/
def syncTargets (old : ConfigSet) (s : State) : State :=
  let act := activeTargets s.cfg.active
  let was := activeTargets old
  let held := (s.cfg.outgoing.map activeTargets).getD []
  act.foldl (fun t k => if (tget? t.acc.targets k).isSome then t else onTarget k (fun _ => newTarget t k) t)
    { s with acc := { s.acc with targets := s.acc.targets.filter (fun e =>
        was.contains e.1 && (act.contains e.1 || held.contains e.1)) } }

/-- The tiles of one byte range of a plane, by its offset in the buffer. -/
def rangeTiles (c : ConfigSet) (k : Nat) (r : Nat × Nat) : List Nat :=
  let d := planeOf c k
  let p := dPitch d
  let b := fmtBytes (dFmt d)
  if p = 0 ∨ r.2 = 0 then []
  else
    (List.range ((r.1 + r.2 - 1) / p + 1 - r.1 / p)).foldl (fun acc i =>
      let y := r.1 / p + i
      let x0 := (max r.1 (y * p) - y * p) / b
      let x1 := min (dW d) ((min (r.1 + r.2) ((y + 1) * p) - y * p + b - 1) / b)
      tileUnion acc (rectTiles (tilesWide c k) x0 x1 y (y + 1))) []

/-- The dirty region of a paired plane: ranges joined, the whole extent past 1,024 of them (R65). -/
def dirtyRegion (log : List (Nat × Nat × Nat)) (k len : Nat) : List (Nat × Nat) :=
  log.foldl (fun r w =>
    if w.1 = k ∧ w.2.2 ≠ 0 then
      let r' := rangeAdd r w.2.1 w.2.2
      if 1024 < r'.length then [(0, len)] else r'
    else r) []

/-- The paired planes whose buffer a change of set swaps. -/
def swappedPlanes (old new : ConfigSet) (writes : List (Nat × Nat × Nat)) : List Nat :=
  (List.range 64).filter (fun k => dPaired (planeOf new k) && namedBuf old k != namedBuf new k &&
    writes.any (fun w => w.1 == k))

/-- The tiles that the epoch changes: those of its LAYER_DEFINEs, old and new, those of changed planes, and those of
swapped dirty regions. -/
def markEpoch (old : ConfigSet) (dirty : List (Nat × List (Nat × Nat))) (s : State) : State :=
  let new := s.cfg.active
  let s1 := (List.range 32).foldl (fun t l =>
    if tget old.layerSeq l 0 = tget new.layerSeq l 0 ∧ layerOf old l = layerOf new l then t
    else
      markTiles (lTarget (layerOf new l)) (layerTiles new (layerOf new l))
        (markTiles (lTarget (layerOf old l)) (layerTiles old (layerOf old l)) t)) s
  let s2 := (activeTargets new).foldl (fun t k =>
    if k < 64 && planeOf old k != planeOf new k then markTiles k (allTiles new k) t else t) s1
  dirty.foldl (fun t e => e.2.foldl (fun u r => markTiles e.1 (rangeTiles new e.1 r) u) t) s2

/-! ### Modes (R263, R558) -/

/-- The mode changes: MODE, the staged mode of both sets, and the black-box entry. -/
def setMode (m : Mode) (s : State) : State :=
  blackBox 0x0210 0xFF (BitVec.ofNat 32 (modeCode s.cond.mode + modeCode m * 2 ^ 8))
    { s with
      cond := { s.cond with mode := m }
      cfg := { s.cfg with draft := { s.cfg.draft with mode := m }, active := { s.cfg.active with mode := m } } }

/-- Every facet buffer becomes invalid (R263). -/
def dropBuffers (s : State) : State :=
  { s with ray := { s.ray with shown := List.replicate 4 none, zoneRec := [], done := List.replicate 4 false } }

/-- The first frame in the new mode of a LIGHTFIELD and FLAT change (R263 step 4). -/
def completeSwitch (s : State) : State :=
  let m := s.cfg.active.mode
  let draft := s.cfg.draft.mode
  let s1 := setMode m { s with
    ray := { s.ray with switchRev := 0 }
    sco := { s.sco with flat := m == .flat, written := List.replicate 4 false } }
  { s1 with cfg := { s1.cfg with draft := { s1.cfg.draft with mode := draft } } }

/-- A committed change between LIGHTFIELD and FLAT begins at its latch angle (R263), or takes effect at once while the
counter does not run. -/
def beginSwitch (s : State) : State :=
  let m := s.cfg.active.mode
  if (s.cond.mode == .lightfield || s.cond.mode == .flat) && m != s.cond.mode && s.cond.seq.isNone then
    let s1 := requirePoint (modePoint s m) s
    if s.rot.angleValid then { s1 with ray := { s1.ray with switchRev := 2 } } else completeSwitch (dropBuffers s1)
  else s

/-! ### Taking effect (R25, R64, R65, R171, R260) -/

/-- The carry-forward of a swapped plane: from the buffer that the new set names into the other one (R66). -/
def carryJob (new : ConfigSet) (k : Nat) (dirty : List (Nat × Nat)) (free : Bool) : CarryJob :=
  { plane := k, src := namedBuf new k, dst := otherBuf (planeOf new k) (namedBuf new k), ranges := dirty, free := free }

/-- What a newly active set does beside the replies. -/
def applySet (old : ConfigSet) (logLen : Nat) (s : State) : State :=
  let new := s.cfg.active
  let taken := s.cfg.writes.take logLen
  let planes := swappedPlanes old new taken
  let dirty := planes.map (fun k => (k, dirtyRegion taken k (dLen (planeOf new k))))
  let out := if s.ray.running && !s.sco.flat then some old else none
  let s1 := { s with
   ray := { s.ray with flats := (s.ray.flats.filter (fun f => !f.old)).map (fun f =>
      { f with old := f != flatRec new f.slot }) }
   cfg := { s.cfg with
    outgoing := out
    carry := s.cfg.carry.map (fun c => { c with free := c.free || s.cfg.outgoing.isNone }) ++
      dirty.map (fun e => carryJob new e.1 e.2 out.isNone)
    writes := s.cfg.writes.drop logLen } }
  let s2 := portsLatch (markEpoch old dirty (syncTargets old s1))
  let s3 := if setParam new 0x4306 = setParam old 0x4306 then s2
            else { s2 with gcl := { s2.gcl with vcomDue := true } }
  let s4 := if setParam new 0x4100 ≠ setParam old 0x4100 ∧ s3.rot.state = .run then
      let lost := s3.rot.lock == .locked
      when lost (fun t => count .lockLoss (raise 22 t))
        { s3 with rot := { s3.rot with setpoint := setParam new 0x4100, ramp := true, accelRate := par s3 0x4101
                                       lock := .acquiring, lockRun := 0, unlockRun := 0, trim := 0 } }
    else s3
  beginSwitch (raise 35 s4)

/-- The reply of one commit that takes effect; `first` is the lowest number superseded before it, `last` the number of
the last commit that changed anything. -/
def commitReply (first : Option Nat) (last : Nat) (c : PendingCommit) (s : State) : State :=
  if c.path = 19 then jtReply 0 [] s
  else finish c.tag
    { status := St.ok, epoch := some c.epoch
      rflags := if c.noChange then rfNoChange else if c.epoch < last then rfSuperseded else 0
      result := leBytes 8 (if c.noChange then 0 else
        match first with | some e => (if e < c.epoch then e else 0) | none => 0) } s

/-- The commits that take effect at this latch angle or tick: all of them at a tick, and those accepted in time at a
latch angle (R261). -/
def dueCommits (tick : Bool) (s : State) : List PendingCommit :=
  s.cfg.commits.takeWhile (fun c => tick || decide ((rev s + 65536 - c.snap.minRev) % 65536 < 32768))

/-- Snapshots wait while an entry sequence runs, the service's own apart (Table 22-6, R427). -/
def commitsHeld (s : State) : Bool := s.cond.seq.isSome && !(s.cfg.commits.any (fun c => c.path == 18))

/-- The pending commits take effect, in commit-point order (R25, R260, R262, R401). -/
def takeEffect (tick : Bool) (s : State) : State :=
  if commitsHeld s then s
  else
    let due := dueCommits tick s
    match due.getLast? with
    | none => s
    | some lastC =>
      let ch := (due.filter (fun c => !c.noChange)).map (·.epoch)
      let rest := (s.cfg.commits.drop due.length).map (fun c =>
        { c with snap := { c.snap with logLen := c.snap.logLen - lastC.snap.logLen } })
      let first := ch.head?
      let last := ch.getLast?
      let old := s.cfg.active
      let s1 := due.foldl (fun t c => commitReply first (last.getD 0) c t)
        { s with cfg := { s.cfg with commits := rest, snap := rest.getLast?.map (·.snap) } }
      match last with
      | none => { s1 with cfg := { s1.cfg with writes := s1.cfg.writes.drop lastC.snap.logLen } }
      | some n =>
        applySet old lastC.snap.logLen { s1 with cfg := { s1.cfg with
          active := lastC.snap.set
          epoch := n
          skipped := match ch with
            | e :: _ :: _ => some (e, ch.length - 1)
            | _ => s1.cfg.skipped } }

/-! ### Frame composition (R139, R141) -/

/-- The newest complete frame of a port since its start or restart (R128, R129). -/
def newestFrame (s : State) (port : Nat) : Option CamFrame :=
  let p := s.acc.ports.getD port {}
  if p.good then p.frames.head? else none

/-- The enabled camera layers of the active set, by latching. -/
def camLayers (s : State) (latched : Bool) : List Nat :=
  (enabledLayers s.cfg.active).filter (fun l => lIsCam (layerOf s.cfg.active l) && lLatch (layerOf s.cfg.active l) == latched)

/-- The layers of a list with the newest frame of their ports; a layer keeps its last frame of the port until one
completes under the present settings (R129). -/
def pickFrames (s : State) (old : List (Nat × Nat)) (ls : List Nat) : List (Nat × Nat) :=
  ls.filterMap (fun l =>
    let port := lSrc (layerOf s.cfg.active l) - 1
    match newestFrame s port with
    | some f => some (l, camKey port f.seq)
    | none => ((old.lookup l).filter (fun k => k / 2 ^ 32 == port)).map (fun k => (l, k)))

/-- The key under which the present frames of the facet-latched layers are kept. -/
def camsNowKey : Nat := 4
/-- The frames that a composition of this moment shows, by layer (R139, R140). -/
def camsNow (s : State) : List (Nat × Nat) := s.acc.frameCams ++ tget s.acc.facetCams camsNowKey []
/-- Waiting buffers for which `p` holds are swapped in (R137); flats built from them are no longer valid (R167). -/
def swapIn (p : Target → Bool) (s : State) : State :=
  let due := (s.acc.targets.filter (fun e => e.2.due && p e.2)).map (·.1)
  { s with
    acc := { s.acc with targets := s.acc.targets.map (fun e =>
      (e.1, if e.2.due && p e.2 then { e.2 with read := 1 - e.2.read, due := false, cams := e.2.drawn } else e.2)) }
    ray := { s.ray with flats := s.ray.flats.filter (fun f =>
      !due.any (fun t => decide (f.note.first ≤ t) && decide (t ≤ f.note.last))) } }

/-- The buffers of a late composition are swapped in as soon as no render is in progress (R141). -/
def applySwaps (s : State) : State := if s.ray.render.isSome then s else swapIn (fun t => t.serves == 4) s

/-- The layers of a pick whose frame is another than before. -/
def freshLayers (old picks : List (Nat × Nat)) : List Nat :=
  (picks.filter (fun p => old.lookup p.1 != some p.2)).map (·.1)

/-- The destination tiles of layers of the active set are changed tiles. -/
def markLayers (ls : List Nat) (s : State) : State :=
  ls.foldl (fun t l => markTiles (lTarget (layerOf t.cfg.active l)) (layerTiles t.cfg.active (layerOf t.cfg.active l)) t) s

/-- The tiles of regions that failed their last check are changed tiles (R137). -/
def markFailed (s : State) : State :=
  (enabledRegions s.cfg.active).foldl (fun t n =>
    if t.acc.safetyFailed.contains n then
      markTiles (rTarget (regionOf t.cfg.active n)) (regionTiles t.cfg.active (regionOf t.cfg.active n)) t
    else t) s

/-- A composition starts for a facet: it takes the changed tiles of the active targets, and ends at once when there is
nothing to rewrite (R137). `prev` are the frames of the facet-latched layers before its pick. DESIGN CHOICE (log 74): a
composition for facet 1, 2 or 3 takes only the targets that have changed tiles of its own; one for facet 0 takes every
active target, and so rewrites the previous tiles of each. -/
def startComp (facet : Nat) (late : Bool) (cams prev : List (Nat × Nat)) (s : State) : State :=
  let s1 := markFailed (applySwaps s)
  let mine := s1.acc.targets.filter (fun e =>
    (activeTargets s1.cfg.active).contains e.1 && (facet == 0 || !e.2.pendTiles.isEmpty))
  let tiles := mine.map (fun e => (e.1, e.2.pendTiles))
  if mine.all (fun e => e.2.pendTiles.isEmpty && e.2.prevTiles.isEmpty) then s1
  else { s1 with acc := { s1.acc with
    comp := some { facet := facet, late := late, set := s1.cfg.active, tiles := tiles, cams := cams, prev := prev }
    targets := s1.acc.targets.map (fun e => (e.1, { e.2 with pendTiles := [] })) } }

/-- The frame composition of a latch angle: the layers not facet-latched take their frames, the tiles of those that take
another frame than before are changed (log 30), and it starts, or waits for a late one to end (R139, R141). -/
def frameComposition (s : State) : State :=
  if s.cond.coast then s
  else if s.acc.comp.isSome then
    { s with acc := { s.acc with queuedFrame := true, queuedLate := false } }
  else
    let picks := pickFrames s s.acc.frameCams (camLayers s false)
    let s1 := markLayers (freshLayers s.acc.frameCams picks) { s with acc := { s.acc with frameCams := picks } }
    startComp 0 false (camsNow s1) (tget s1.acc.facetCams camsNowKey []) s1

end Sys2Proof.Machine
end

