-- ==== Sys2Proof/Machine/Accept.lean ====
section
/-! DEFINITION. Acceptance: the opcodes with their modes, fields and data, the checks of Table 15-4 in order, and a
command's way from acceptance to its start (R394 to R397, R405 to R407, R411 to R413). -/
namespace Sys2Proof.Machine

/-! ### The opcode tables of chapter 16 -/

/-- The modes in which an opcode is accepted (R413): LIGHTFIELD, FLAT, PARKED, SERVICE, TEST as bits 0 to 4, B as
bit 5; none for an opcode that is not defined. -/
def opModes (op : Nat) : Option Nat :=
  if [0x0101, 0x0102, 0x0104, 0x0105, 0x0701, 0x0702, 0x0703, 0x0901, 0x0B01, 0x0B02, 0x0B10, 0x0B11, 0x0B12].contains op
  then some 63
  else if [0x0106, 0x0107, 0x0206, 0x0210, 0x0211, 0x0212, 0x0412, 0x0413, 0x0601, 0x0602, 0x0603, 0x0610, 0x0611,
    0x0612, 0x0903, 0x0904, 0x0A01, 0x0A02, 0x0F01, 0x0F02].contains op then some 31
  else if [0x0103, 0x0201, 0x0202, 0x0203, 0x0204, 0x0205, 0x0301, 0x0302, 0x0303, 0x0401, 0x0402, 0x0410, 0x0501,
    0x0502, 0x0503, 0x0504, 0x0801, 0x0802, 0x0902, 0x0A03].contains op then some 27
  else if [0x0411, 0x0414, 0x0420, 0x0421, 0x0803].contains op then some 16
  else none

/-- The PARAMS an opcode names: packet offset and size. -/
def opFields (op : Nat) (p : Pkt) : List (Nat × Nat) :=
  if op = 0x0104 then
    (0x14, 1) :: (List.range (pf p 0x14 1)).flatMap (fun k => [(0x18 + 8 * k, 2), (0x18 + 8 * k + 4, 4)])
  else if op = 0x0105 then [(0x14, 2), (0x16, 1)]
  else if op = 0x0201 then [(0x14, 2)]
  else if op = 0x0202 ∨ op = 0x0302 then [(0x14, 1), (0x18, 32)]
  else if op = 0x0212 then [(0x14, 1), (0x16, 2), (0x18, 2), (0x1A, 1)]
  else if op = 0x0411 then [(0x14, 1), (0x18, 4)]
  else if op = 0x0412 then [(0x14, 3), (0x18, 2)]
  else if op = 0x0413 then [(0x14, 3)]
  else if op = 0x0501 ∨ op = 0x0502 ∨ op = 0x0503 then [(0x18, 40)]
  else if op = 0x0504 then [(0x14, 1), (0x18, 8)]
  else if op = 0x0603 then [(0x18, 12)]
  else if op = 0x0610 then [(0x14, 1), (0x18, 40)]
  else if op = 0x0612 then [(0x14, 4)]
  else if op = 0x0801 ∨ op = 0x0802 then [(0x18, 12)]
  else if op = 0x0803 then [(0x14, 1), (0x18, 20)]
  else if op = 0x0901 then [(0x14, 1), (0x18, 12)]
  else if op = 0x0902 then [(0x14, 3), (0x18, 8)]
  else if op = 0x0903 then [(0x18, 8)]
  else if op = 0x0A03 then [(0x14, 1), (0x16, 2)]
  else if op = 0x0B11 then [(0x18, 32)]
  else if [0x0106, 0x0203, 0x0204, 0x0205, 0x0206, 0x0210, 0x0211, 0x0301, 0x0303, 0x0401, 0x0414, 0x0601, 0x0611,
    0x0B01, 0x0B02, 0x0F01, 0x0F02].contains op then [(0x14, 1)]
  else []

/-- A packet byte from 0x14 to 0x3F that the tables do not name is not 0 (R6, R411). -/
def rsvdParams (op : Nat) (p : Pkt) : Bool :=
  (List.range 44).any (fun i =>
    byteAt p.params i != 0 && !(opFields op p).any (fun f => f.1 ≤ 0x14 + i && 0x14 + i < f.1 + f.2))

/-- The ranges of the fields: offset, size, lowest and highest value. -/
def opRanges (op : Nat) : List (Nat × Nat × Nat × Nat) :=
  if op = 0x0104 then [(0x14, 1, 1, 5)]
  else if op = 0x0105 then [(0x16, 1, 0, 1)]
  else if op = 0x0106 then [(0x14, 1, 0, 4)]
  else if op = 0x0201 then [(0x14, 2, 1, 1023)]
  else if op = 0x0202 then [(0x14, 1, 0, 63)]
  else if op = 0x0203 then [(0x14, 1, 0, 16)]
  else if op = 0x0204 ∨ op = 0x0205 ∨ op = 0x0206 ∨ op = 0x0301 then [(0x14, 1, 0, 31)]
  else if op = 0x0210 ∨ op = 0x0F01 ∨ op = 0x0F02 then [(0x14, 1, 0, 3)]
  else if op = 0x0212 then [(0x14, 1, 0, 3), (0x16, 2, 0, 15359), (0x18, 2, 0, 8639), (0x1A, 1, 0, 2)]
  else if op = 0x0302 ∨ op = 0x0504 then [(0x14, 1, 0, 15)]
  else if op = 0x0303 then [(0x14, 1, 0, 7)]
  else if op = 0x0411 then [(0x14, 1, 0, 2), (0x18, 4, 1, 1000000)]
  else if op = 0x0412 ∨ op = 0x0413 then [(0x14, 1, 0, 31), (0x15, 1, 0, 15)]
  else if op = 0x0414 ∨ op = 0x0601 ∨ op = 0x0901 ∨ op = 0x0A03 ∨ op = 0x0B01 ∨ op = 0x0B02 then [(0x14, 1, 0, 1)]
  else if op = 0x0603 then [(0x1E, 4, 0, 999999999)]
  else if op = 0x0610 ∨ op = 0x0611 then [(0x14, 1, 0, 23)]
  else if op = 0x0612 then [(0x14, 1, 0, 15), (0x15, 1, 0, 1), (0x16, 1, 0, 2), (0x17, 1, 1, 255)]
  else if op = 0x0801 ∨ op = 0x0802 then [(0x20, 4, 64, 2 ^ 28)]
  else if op = 0x0803 then [(0x14, 1, 0, 2)]
  else if op = 0x0902 then [(0x14, 1, 0, 7), (0x16, 1, 0, 10), (0x1C, 2, 1, 1024), (0x1E, 2, 1, 1024)]
  else []

/-- A field lies outside its range; RAYMAP_SELECT also takes 0xFF, and lengths of memory are multiples. -/
def fieldsBad (op : Nat) (p : Pkt) : Bool :=
  (opRanges op).any (fun r => decide (pf p r.1 r.2.1 < r.2.2.1) || decide (r.2.2.2 < pf p r.1 r.2.1)) ||
  (op == 0x0211 && decide (3 < pf p 0x14 1) && pf p 0x14 1 != 0xFF) ||
  ((op == 0x0801 || op == 0x0802) && pf p 0x20 4 % 64 != 0) ||
  (op == 0x0803 && pf p 0x20 8 % 2 ^ 20 != 0)

/-- The status of a field outside its range. -/
def rangeStatus (op : Nat) : Nat :=
  if op = 0x0610 ∨ op = 0x0611 ∨ op = 0x0612 then St.trigParam else St.paramRange

/-- DATA_LEN is not what the table of the opcode gives. RAYMAP_LOAD, the table loads and CAL_LOAD carry length
statuses of their own. -/
def lengthBad (op : Nat) (p : Pkt) : Bool :=
  if op = 0x0201 then decide (plen p < 32) || decide (268435455 < plen p)
  else if op = 0x0203 then plen p != 8 * pf p 0x14 1
  else if op = 0x0301 then plen p != 48
  else if op = 0x0411 then plen p != 32
  else if op = 0x0802 then plen p != pf p 0x20 4
  else if op = 0x0A03 then pf p 0x14 1 == 0 && plen p != 16
  else if op = 0x0B01 then decide (2 ^ 24 < plen p)
  else if op = 0x0F01 then decide (plen p < 32) || decide (2 ^ 20 < plen p)
  else false

/-- Size of the image an opcode writes. -/
def opImage (op : Nat) (p : Pkt) : Nat :=
  if op = 0x0101 then 64 else if op = 0x0102 then 512 else if op = 0x0212 then 32
  else if op = 0x0703 then 16384 else if op = 0x0801 then pf p 0x20 4 else if op = 0x0901 then pf p 0x20 4
  else if op = 0x0A02 then 628 else 0

/-- The opcode reads data. -/
def opReads (op : Nat) : Bool :=
  [0x0201, 0x0203, 0x0210, 0x0301, 0x0303, 0x0401, 0x0402, 0x0411, 0x0802, 0x0A01, 0x0A03, 0x0B01, 0x0F01].contains op

/-- Bytes the opcode touches at DATA_ADDR. -/
def opSpan (op : Nat) (p : Pkt) : Nat := if opReads op then plen p else opImage op p

/-- An address of R394 and R412: a multiple of 4; module-local or 0 over Ethernet and the mailbox; the bytes inside
the ingest area (log 12). -/
def addrBad (op : Nat) (p : Pkt) : Bool :=
  p.addr.toNat % 4 != 0 || (16 ≤ p.path && !isLocal p && p.addr != 0) ||
  (isLocal p && decide (2 ^ 32 < p.addr.toNat % 2 ^ 32 + opSpan op p))

/-- A device address range that MEM_READ, MEM_WRITE or MEM_TEST does not reach in the present mode (R422). -/
def memRangeBad (s : State) (op : Nat) (p : Pkt) : Bool :=
  if op = 0x0801 ∨ op = 0x0802 then
    let a := pf p 0x18 8
    let n := pf p 0x20 4
    if s.cond.mode = .test then decide (memSize < a + n) else !(inHeap a n || inIngest a n)
  else if op = 0x0803 then decide (memSize < pf p 0x18 8 + pf p 0x20 8)
  else false

/-- A GC_WRITE to a register the module keeps for itself (R294). -/
def gcReserved (p : Pkt) : Bool :=
  decide (pf p 0x16 1 ≤ 3) || (pf p 0x14 1 == 0 && pf p 0x15 1 == 2)

/-- A ray-map slot that a set in use selects (R44). -/
def slotInUse (s : State) (n : Nat) : Bool :=
  setParam s.cfg.active 0x1000 == n || ((s.cfg.outgoing.map (fun c => setParam c 0x1000 == n)).getD false) ||
  s.cfg.commits.any (fun c => setParam c.snap.set 0x1000 == n)

/-- Check 6 of Table 15-4. -/
def check6 (s : State) (op : Nat) (p : Pkt) : Option Nat :=
  if addrBad op p then some St.dataAddr
  else if rsvdParams op p then some St.reservedField
  else if fieldsBad op p then some (rangeStatus op)
  else if lengthBad op p || (p.addr != 0 && opImage op p != 0 && decide (plen p < opImage op p)) then some St.dataLen
  else if memRangeBad s op p then some St.memRange
  else if op = 0x0210 ∧ slotInUse s (pf p 0x14 1) then some St.raymapInUse
  else if op = 0x0412 ∧ gcReserved p then some St.gcReserved
  else if (op = 0x0412 ∨ op = 0x0413) ∧ 32 ≤ s.gcl.host.length then some St.gcQueueFull
  else if 0x0501 ≤ op ∧ op ≤ 0x0504 ∧ 64 ≤ s.blt.queue.length then some St.bltQueueFull
  else none

/-- The opcodes refused while FAULT or THERMAL_SHUTDOWN is set (R413). -/
def condBlocked (op : Nat) (p : Pkt) : Bool :=
  (op == 0x0106 && [0, 1, 3].contains (pf p 0x14 1)) || op == 0x0420 || (op == 0x0414 && pf p 0x14 1 == 1) ||
  op == 0x0410 || op == 0x0A03

/-- The mode an opcode is judged in: a service descriptor's packets run for SERVICE (R427). -/
def pathMode (s : State) (p : Pkt) : Mode := if p.path = 18 then .service else s.cond.mode

/-- Check 5 of Table 15-4 (R413, R415, R207, R286). -/
def check5 (s : State) (op : Nat) (p : Pkt) (modes : Nat) : Option Nat :=
  let m := pathMode s p
  if 0x0501 ≤ op ∧ op ≤ 0x0504 ∧ (s.cond.bivouac ∨ m = .parked) then some St.bltStopped
  else if op = 0x0411 ∧ (s.cond.bivouac ∨ m ≠ .test) then some St.linkMode
  else if s.cond.bivouac && !modes.testBit 5 then some St.wrongMode
  else if !s.cond.bivouac && !modes.testBit (modeCode m) then some St.wrongMode
  else if op = 0x0901 ∧ s.cond.bivouac ∧ pf p 0x14 1 = 0 then some St.wrongMode
  else if op = 0x0410 ∧ s.pnl.state ≠ .on ∧ ¬ s.cond.fault ∧ ¬ s.cond.shutdown then some St.wrongMode
  else if condBlocked op p && s.cond.fault then some St.faultActive
  else if condBlocked op p && s.cond.shutdown then some St.thermalHot
  else if (op = 0x0106 ∨ op = 0x0103) ∧ s.cond.seq.isSome ∧ p.path ≠ 18 then some St.modeBusy
  else none

/-- The checks of Table 15-4, in order. -/
def acceptCheck (s : State) (op : Nat) (p : Pkt) : Option Nat :=
  if (flightOf s (ptag p)).isSome then some St.tagInUse
  else match opModes op with
    | none => some St.badOpcode
    | some m =>
      if 512 ≤ p.tag.toNat ∨ 2048 ≤ p.dep.toNat ∨ 2 ≤ p.flags.toNat ∨ p.rsvd ≠ 0 then some St.reservedField
      else if !s.hif.ready && !s.cond.bivouac && op != 0x0101 && op != 0x0102 then some St.notReady
      else match check5 s op p m with
        | some e => some e
        | none => check6 s op p

/-! ### From acceptance to start -/

/-- A packet refused at acceptance: counted, and its reply written at once (R395). -/
def refuse (op : Nat) (p : Pkt) (st : Nat) (s : State) : State :=
  let dup := st == St.tagInUse
  writeReply op p { status := st, rflags := if dup then rfDupTag else 0 } (when dup (count .dupTag) (count .refused s))

/-- The exchange of a GC_WRITE or GC_READ (R421). -/
def hostExchange (op : Nat) (p : Pkt) : Exchange :=
  { link := pf p 0x14 1, addr := pf p 0x15 1, reg := pf p 0x16 1
    data := if op = 0x0412 then BitVec.ofNat 16 (pf p 0x18 2) else 0
    kind := if op = 0x0412 then .write else .read, tag := some (ptag p) }

/-- What acceptance itself does: a place in the Blitter queue (R191), a place in the exchange queue (R421), the
LOADING state of a ray-map slot (R43). -/
def acceptHook (op : Nat) (p : Pkt) (dep : DepState) (s : State) : State :=
  if 0x0501 ≤ op ∧ op ≤ 0x0504 then
    let d := if op = 0x0504 then pbytes p 0x14 16 else pbytes p 0x18 40
    { s with blt := { s.blt with queue := s.blt.queue ++ [{ tag := ptag p, op := op, desc := d, dep := dep }] } }
  else if op = 0x0412 ∨ op = 0x0413 then
    { s with gcl := { s.gcl with host := s.gcl.host ++ [hostExchange op p] } }
  else if op = 0x0210 then
    { s with rmap := { s.rmap with state := s.rmap.state.set (pf p 0x14 1) .loading } }
  else s

/-- NOTIFY of a queued operation (Table 8-1). -/
def bltNotify (b : BlitOp) : Bool := b.op != 0x0504 && (byteAt b.desc 2).testBit 0

/-- A queued Blitter operation ends without running: counted, with NOTIFY, and the idle source (R209). -/
def dropBlit (tag : Nat) (s : State) : State :=
  match s.blt.queue.find? (fun b => b.tag == tag) with
  | none => s
  | some b =>
    let rest := s.blt.queue.filter (fun x => x.tag != tag)
    raiseIf rest.isEmpty 241 (raiseIf (bltNotify b) 240 (count .bltFail { s with blt := { s.blt with queue := rest } }))

/-- A command that ends before it starts leaves the places it took. -/
def withdraw (op : Nat) (p : Pkt) (s : State) : State :=
  if op = 0x0210 then raymapAfter (pf p 0x14 1) false s
  else dropBlit (ptag p) { s with gcl := { s.gcl with host := s.gcl.host.filter (fun e => e.tag != some (ptag p)) } }

/-- A command in flight starts. -/
def begin (tag : Nat) (p : Pkt) (start : Nat → Pkt → State → State) (s : State) : State :=
  start tag p (onFlight tag (fun f => { f with started := true }) s)

/-- A path delivers packets: the queues once the Host Interface runs, the mailbox after the episode (R405), none in
COAST (R407). -/
def pathOpen (s : State) (path : Nat) : Bool :=
  !s.cond.coast && !s.pwr.episode && (16 ≤ path || s.hif.fwUp)

/-- A command accepted takes its tag and binds its dependency (R395, R396); it starts when that is met. -/
def accept (op : Nat) (p : Pkt) (start : Nat → Pkt → State → State) (s : State) : State :=
  let t := ptag p
  let d := p.dep.toNat % 512
  let waits := p.dep.getLsbD 9 && (flightOf s d).isSome
  let dep := if waits then DepState.waiting else .met
  let f : Flight := { op := op, p := p, dep := dep, depTag := d, seq := s.hif.nextSeq }
  let s1 := acceptHook op p dep { s with hif := { s.hif with flights := s.hif.flights ++ [f]
                                                             nextSeq := s.hif.nextSeq + 1 } }
  if waits then s1 else begin t p start s1

/-- The Ethernet ports receive: from RUNNING on, and neither in COAST nor under BIVOUAC (R381, R382). -/
def ethUp (s : State) : Bool := s.tu.running && !s.cond.coast && !s.cond.bivouac && !s.pwr.episode

/-- A packet reaches the Command Processor (R395). While its path delivers nothing it waits at its path; an Ethernet
frame before RUNNING is dropped and counted (R381, R405). -/
def submit (op : Nat) (p : Pkt) (start : Nat → Pkt → State → State) (s : State) : State :=
  let s := wakeDomain s
  if p.path = 16 ∧ ¬ ethUp s then when (!s.tu.running) (count .tuEarlyDrop) s
  else if pathOpen s p.path then
    match acceptCheck s op p with
    | some st => refuse op p st s
    | none => accept op p start s
  else onQueue p.path (fun q => { q with ring := q.ring ++ [{ opcode := BitVec.ofNat 16 op, pkt := p }] }) s

end Sys2Proof.Machine
end

