-- ==== Sys2Proof/Machine/Geometry.lean ====
section
/-! DEFINITION. The ray-map slots and the commands on them: load, probe, select (chapter 2). -/
namespace Sys2Proof.Machine

/-! ### Commands (R43 to R46, R420) -/

/-- The copy and the checks end with RAYMAP_LOAD_COMPLETION. -/
def startRaymapLoad (_tag : Nat) (_p : Pkt) (s : State) : State := s

def execRaymapLoad (p : Pkt) (s : State) : Host.Outcome State Fault Refusal := done (submit 0x0210 p startRaymapLoad s)

/-- The object that a refusal of RAYMAP_LOAD or RAYMAP_PROBE names: the slot, as kind 6. Table 16-5 gives no RESULT for
them, so that the refusal names the slot is the model's choice (DESIGN CHOICE, log 74). -/
def slotNamed (n : Nat) : List Byte := objResult 6 n

/-- The loads of one slot in flight, in order of acceptance. -/
def slotLoads (s : State) (n : Nat) : List Nat :=
  (s.hif.flights.filter (fun f => f.op == 0x0210 && pf f.p 0x14 1 == n)).map (fun f => ptag f.p)

def raymapDone (tag : Nat) (s : State) : State :=
  match flightOf s tag with
  | none => s
  | some f =>
    let n := pf f.p 0x14 1
    if f.op = 0x0210 ∧ f.started ∧ (slotLoads s n).head? = some tag then
      let img := pdata s f.p
      let st := raymapImageCheck img
      raymapAfter n false (finish tag { status := st, result := if st = St.ok then [] else slotNamed n }
        { s with rmap := { s.rmap with image := s.rmap.image.set n (if st = St.ok then img else []) } })
    else s

/-- R43: a load finishes its copy and checks. -/
def execRaymapLoadCompletion (tag : Nat) (s : State) : Host.Outcome State Fault Refusal := done (raymapDone tag s)

/-- R45: the draft slot selection. -/
def startRaymapSelect (tag : Nat) (p : Pkt) (s : State) : State :=
  finishSt tag St.ok (draftParam 0x1000 (BitVec.ofNat 32 (pf p 0x14 1)) s)

def execRaymapSelect (p : Pkt) (s : State) : Host.Outcome State Fault Refusal :=
  done (submit 0x0211 p startRaymapSelect s)

def slotCode : SlotState → Nat
  | .empty => 0 | .loading => 1 | .ready => 2

/-- The image of RAYMAP_PROBE (R420). -/
def probeImage (s : State) (n : Nat) (r : RayPoint) : List Byte :=
  let m := s.rmap.image.getD n []
  leBytes 4 (wrapTo 32 r.n) ++ leBytes 2 r.u ++ leBytes 1 r.s ++ leBytes 1 (slotCode (s.rmap.state.getD n .empty)) ++
  leBytes 4 r.xref ++ leBytes 4 r.yref ++ (List.range 4).flatMap (fun a => leBytes 1 (viewIndex m r a)) ++
  leBytes 4 (rmMapId m) ++ List.replicate 8 0

def startRaymapProbe (tag : Nat) (p : Pkt) (s : State) : State :=
  let n := pf p 0x14 1
  if s.rmap.state.getD n .empty = .ready then
    let m := s.rmap.image.getD n []
    let r := rayPoint m (pf p 0x16 2) (pf p 0x18 2) (pf p 0x1A 1)
    finish tag { result := leBytes 1 r.s ++ (List.range 4).flatMap (fun a => leBytes 1 (viewIndex m r a))
                 image := probeImage s n r } s
  else finish tag { status := St.raymapEmpty, result := slotNamed n } s

/-- R420: the ray-map results of one subpixel. -/
def execRaymapProbe (p : Pkt) (s : State) : Host.Outcome State Fault Refusal :=
  done (submit 0x0212 p startRaymapProbe s)

end Sys2Proof.Machine
end

