-- ==== Sys2Proof/Machine/Facets.lean ====
section
/-! DEFINITION. The start of a facet: what may be shown, the record of the facet, fresh, repeated and dark facets
(R243, R244, R250, R258, R265). -/
namespace Sys2Proof.Machine

/-- The mode lets facets be shown: a lit mode, or TEST with LIT_OK and a READY slot (Table 22-3). -/
def modeShows (s : State) : Bool :=
  litMode s.cond.mode || (s.cond.mode == .test && s.rot.litOk && slotReady s s.cfg.active)

/-- A facet may scan (R244, R257, R283, R300, R352); not over a loopback test (log 78). -/
def canShow (s : State) : Bool :=
  s.pnl.state == .on && s.plt.state != .training && !s.sco.linkDark && !s.plt.loopBusy && !anyStop s && modeShows s &&
  s.ray.switchRev != 1 && s.mem.changing.isNone

/-- SHOWN of a facet. -/
def shownOf (s : State) (j : Nat) : Option Nat := s.ray.shown.getD j none

/-- The drum facet before. -/
def facetBefore (j : Nat) : Nat := (j + 3) % 4

/-- The camera frame of each port drawn in the facet that SHOWN holds, for the record (R27, Table 20-4). -/
def portCams (s : State) (j : Nat) : Table Nat :=
  (List.range 4).filterMap (fun p =>
    ((tget s.acc.facetCams j []).find? (fun e => e.2 / 2 ^ 32 == p)).map (fun e => (p, e.2 % 2 ^ 32)))

/-- A facet record set; in FLAT the one scan is entered under all four drum facets (R265). -/
def setRecord (j : Nat) (f : FacetRec) (s : State) : State :=
  let fr := if s.sco.flat then
      (List.range 4).map (fun i => if i = 0 then f else { f with ofs := 0, levelStart := 0, levelEnd := 0
                                                                 escalations := 0, flatBuilt := false, abandoned := false })
    else s.sco.frame.set j f
  { s with sco := { s.sco with frame := fr } }

/-- SCO_LAST_START (Table 10-8). -/
def lastStartWord (ofs j : Nat) (rep isDark : Bool) : Word :=
  BitVec.ofNat 32 (ofs % 2 ^ 12 + j % 4 * 2 ^ 12 + bit rep 14 + bit isDark 15)

/-- Compensation acts in a facet (R249, R250). -/
def tcActs (s : State) (j : Nat) : Bool :=
  setParam s.sco.frameSet 0x4207 == 1 && !s.sco.flat && !s.sco.isDark && (shownOf s (facetBefore j)).isSome

/-- The head stores of SHOWN[j] and SHOWN[j − 1] are filled for a facet that comes (R252). -/
def fillHeads (j : Nat) (s : State) : State :=
  { s with sco := { s.sco with headShown := (shownOf s j).map (fillHead s.mem)
                               headPrev := (shownOf s (facetBefore j)).map (fillHead s.mem) } }

/-- A facet starts to scan SHOWN[j], fresh from the head store of its render or as a repeat from that of SHOWN[j], at an
offset from F_j (R243, R244, R252); its record takes the throttle step of this moment (R19). -/
def startFacet (j ofs : Nat) (rep : Bool) (s : State) : State :=
  let tc := tcActs s j
  let prev := if s.sco.isDark then none else shownOf s (facetBefore j)
  let r := s.ray.recs.getD j {}
  let s1 := setRecord j { r with
    ofs := ofs, outcome := if rep then .repeated else .fresh, tcBypass := !tc, camSeq := portCams s j
    step := s.therm.step } s
  let s2 := { s1 with
    ray := { s1.ray with done := s1.ray.done.set j false, recs := s1.ray.recs.set j {} }
    sco := { s1.sco with facet := j, scanning := true, repeating := rep, isDark := false, tcActive := tc, row := 0
                         inSlot := false, buf := shownOf s j, prevBuf := prev, underrunSeen := false, awaiting := none
                         startOfs := ofs, rowsAhead := 8
                         headShown := if rep then s1.sco.headShown else s1.sco.headNew
                         headNew := if rep then s1.sco.headNew else none
                         lastStart := lastStartWord ofs j rep false } }
  when rep (fun t => raise 32 (count .scoRepeat t)) s2

/-- A dark facet (R244): nothing is scanned, so FACET stays the one scanned last (Table 10-7). -/
def darkFacet (j : Nat) (s : State) : State :=
  let r := s.ray.recs.getD j {}
  let s1 := setRecord j { r with ofs := 2048, outcome := .dark, tcBypass := true, step := s.therm.step } s
  raise 34 (count .scoDark { s1 with
    ray := { s1.ray with done := s1.ray.done.set j false, recs := s1.ray.recs.set j {} }
    sco := { s1.sco with scanning := false, repeating := false, isDark := true, tcActive := false
                         inSlot := false, buf := none, prevBuf := none, awaiting := none, startOfs := 0
                         lastStart := lastStartWord 2048 j false true } })

/-- The modes in which facets exist (R242, R258); in FLAT only drum facet 0 starts a scan. -/
def hasFacet (s : State) (j : Nat) : Bool :=
  s.rot.angleValid && s.cond.mode != .parked && !s.cond.bivouac && decide (j < 4) && (!s.sco.flat || j == 0) && !s.pwr.episode

end Sys2Proof.Machine
end

