-- ==== Sys2Proof/Machine/Blitter.lean ====
section
/-! DEFINITION. The Blitter: its queue, checks, clipping, fills, copies and outlines (chapter 8). -/
namespace Sys2Proof.Machine

/-! ### The operation descriptor (Table 8-1) -/

def bFmt (d : List Byte) : Nat := byteAt d 1
def bThick (d : List Byte) : Nat := byteAt d 3
def bMask (d : List Byte) : Nat := field d 4 2
def bDst (d : List Byte) : Nat := field d 8 4 * 256
def bDstPitch (d : List Byte) : Nat := field d 0x0C 2 * 256
def bDx (d : List Byte) : Nat := field d 0x0E 2
def bDy (d : List Byte) : Nat := field d 0x10 2
def bW (d : List Byte) : Nat := field d 0x12 2
def bH (d : List Byte) : Nat := field d 0x14 2
def bSrcPitch (d : List Byte) : Nat := field d 0x16 2 * 256
def bSrc (d : List Byte) : Nat := field d 0x18 4 * 256
def bSx (d : List Byte) : Nat := field d 0x1C 2
def bSy (d : List Byte) : Nat := field d 0x1E 2
def bValue (d : List Byte) : Nat := field d 0x20 4
/-- Bytes per pixel. -/
def bB (d : List Byte) : Nat := fmtBytes (bFmt d)

/-- The source rows of a copy. -/
def bltSrcRows (d : List Byte) : List (Nat × Nat) := rectRows (bSrc d) (bSrcPitch d) (bSx d) (bSy d) (bW d) (bH d) (bB d)

/-- The byte range of a rectangle from its first pixel to its last: first byte and length. -/
def rectRange (base pitch x y w h b : Nat) : Nat × Nat := (base + y * pitch + x * b, (h - 1) * pitch + w * b)

def bltDstRange (d : List Byte) : Nat × Nat := rectRange (bDst d) (bDstPitch d) (bDx d) (bDy d) (bW d) (bH d) (bB d)
def bltSrcRange (d : List Byte) : Nat × Nat := rectRange (bSrc d) (bSrcPitch d) (bSx d) (bSy d) (bW d) (bH d) (bB d)

/-! ### Checks (Table 8-3) -/

/-- Check 1. -/
def bltFormatBad (op : Nat) (d : List Byte) : Bool :=
  byteAt d 0 + 0x0500 != op || decide (3 < bFmt d) || decide (4 ≤ byteAt d 2) || field d 6 2 != 0 || field d 0x24 4 != 0 ||
  (if op = 0x0503 then bThick d == 0 else bThick d != 0) ||
  (op != 0x0502 && (bSrcPitch d != 0 || bSrc d != 0 || bSx d != 0 || bSy d != 0)) ||
  (if op = 0x0502 then bValue d != 0 else decide (2 ≤ bFmt d) && decide (256 ≤ bValue d))

/-- Check 2. -/
def bltGeometryBad (op : Nat) (d : List Byte) : Bool :=
  decide (bW d < 1) || decide (8192 < bW d) || decide (bH d < 1) || decide (4096 < bH d) ||
  decide (bDstPitch d < 256) || decide (256 * 256 < bDstPitch d) || decide (bDstPitch d < (bDx d + bW d) * bB d) ||
  (op == 0x0502 && (decide (bSrcPitch d < 256) || decide (256 * 256 < bSrcPitch d) ||
    decide (bSrcPitch d < (bSx d + bW d) * bB d)))

/-- Check 3. -/
def bltAddressBad (op : Nat) (d : List Byte) : Bool :=
  !inHeap (bltDstRange d).1 (bltDstRange d).2 || (op == 0x0502 && !inHeap (bltSrcRange d).1 (bltSrcRange d).2)

/-- A copy goes through the staging buffer (R202). -/
def bltStaged (op : Nat) (d : List Byte) : Bool :=
  op == 0x0502 && bSrcPitch d != bDstPitch d &&
  overlaps (bltSrcRange d).1 (bltSrcRange d).2 (bltDstRange d).1 (bltDstRange d).2

/-- The checks at an operation's start, in order. -/
def bltCheck (s : State) (op : Nat) (d : List Byte) : Option Nat :=
  if op = 0x0504 then none
  else if bltFormatBad op d then some St.bltFormat
  else if bltGeometryBad op d then some St.bltGeometry
  else if bltAddressBad op d then some St.bltAddress
  else if (bltDstRows d).any (fun r => isLocked s r.1 r.2) then some St.planeBusy
  else if bltStaged op d && decide (262144 < bW d * bH d * bB d) then some St.bltStaging
  else none

/-! ### Pixels (R195, R199) -/

/-- A destination pixel lies in a clip slot that the mask selects. -/
def inClip (s : State) (mask x y : Nat) : Bool :=
  (List.range 16).any (fun n => mask.testBit n &&
    (let (cx, cy, cw, ch) := tget s.blt.clip n (0, 0, 0, 0)
     decide (cx ≤ x) && decide (x < cx + cw) && decide (cy ≤ y) && decide (y < cy + ch)))

/-- Pixel (i, j) of the rectangle is written. -/
def bltWrites (s : State) (op : Nat) (d : List Byte) (i j : Nat) : Bool :=
  (op != 0x0503 || decide (i < bThick d) || decide (j < bThick d) || decide (bW d ≤ i + bThick d) ||
    decide (bH d ≤ j + bThick d)) &&
  (bMask d == 0 || inClip s (bMask d) (bDx d + i) (bDy d + j) != (byteAt d 2).testBit 1)

/-- The runs of set elements of a list: first index and length. -/
def runs : List Bool → Nat → List (Nat × Nat)
  | [], _ => []
  | false :: l, i => runs l (i + 1)
  | true :: l, i =>
    match runs l (i + 1) with
    | (a, n) :: r => if a = i + 1 then (i, n + 1) :: r else (i, 1) :: (a, n) :: r
    | [] => [(i, 1)]

/-- The bytes of row j that an operation writes from, the source rows read before any write (R200). -/
def bltRow (op : Nat) (d : List Byte) (src : List (List Byte)) (j : Nat) : List Byte :=
  if op = 0x0502 then src.getD j [] else (List.replicate (bW d) (leBytes (bB d) (bValue d))).flatten

/-- The pixels of row j that an operation writes: first and number. -/
def bltRuns (s : State) (op : Nat) (d : List Byte) (j : Nat) : List (Nat × Nat) :=
  runs ((List.range (bW d)).map (fun i => bltWrites s op d i j)) 0

/-- First byte of row j of the destination rectangle. -/
def bltRowBase (d : List Byte) (j : Nat) : Nat := bDst d + (bDy d + j) * bDstPitch d + bDx d * bB d

/-- What an operation writes. -/
def bltRun (op : Nat) (d : List Byte) (s : State) : State :=
  let src := if op = 0x0502 then (bltSrcRows d).map (fun r => memBytes s.mem r.1 r.2) else []
  let b := bB d
  onMem (fun m => (List.range (bH d)).foldl (fun m j =>
    let row := bltRow op d src j
    (bltRuns s op d j).foldl (fun m r =>
      memStore (bltRowBase d j + r.1 * b) ((row.drop (r.1 * b)).take (r.2 * b)) m) m) m) s

/-- The byte ranges that an operation writes. -/
def bltRanges (s : State) (op : Nat) (d : List Byte) : List (Nat × Nat) :=
  (List.range (bH d)).flatMap (fun j => (bltRuns s op d j).map (fun r => (bltRowBase d j + r.1 * bB d, r.2 * bB d)))

/-- The operation moves traffic (R204). -/
def bltMoves (s : State) (op : Nat) (d : List Byte) : Bool :=
  op == 0x0502 || (op != 0x0504 && !(bltRanges s op d).isEmpty)

/-! ### Writes without an order (R193) -/

/-- A command names a tag in its dependency field. -/
def namesTag (f : Flight) (tag : Nat) : Bool := f.p.dep.getLsbD 9 && f.p.dep.toNat % 512 == tag

/-- The bytes of a range that a mark has too become undefined. -/
def crossMark (m : WriteMark) (r : Nat × Nat) (s : State) : State :=
  let a := max m.first r.1
  let e := min (m.first + m.len) (r.1 + r.2)
  if a < e then memUndef a (e - a) s else s

/-- The commands in flight note that the one under a tag has written some ranges; one that names it in its dependency
field is ordered behind it and need not. -/
def noteRanges (blit : Bool) (tag : Nat) (ranges : List (Nat × Nat)) (fs : List Flight) : List Flight :=
  fs.map (fun f => if ptag f.p = tag ∨ namesTag f tag then f
    else { f with marks := f.marks ++ ranges.map (fun r => { blit := blit, first := r.1, len := r.2 }) })

/-- The command under a tag has written some ranges. Bytes that the other kind of write has changed while it was in
flight, without its naming that command in its dependency field, have undefined content (R193, log 77). -/
def unordered (blit : Bool) (tag : Nat) (ranges : List (Nat × Nat)) (s : State) : State :=
  let hits := (((flightOf s tag).map (·.marks)).getD []).filter (·.blit != blit)
  let s1 := hits.foldl (fun t m => ranges.foldl (fun u r => crossMark m r u) t) s
  { s1 with hif := { s1.hif with flights := noteRanges blit tag ranges s1.hif.flights } }

/-! ### The queue (R191, R206, R209) -/

/-- The operation at the head ends: counted, NOTIFY, its reply, and the idle source. -/
def bltEnd (st : Nat) (s : State) : State :=
  match s.blt.queue with
  | [] => s
  | b :: rest =>
    let s1 := count (if st = St.ok then .bltOps else .bltFail)
      { s with blt := { s.blt with queue := rest, running := false, staging := false } }
    let s2 := finishSt b.tag st (raiseIf (bltNotify b) 240 s1)
    raiseIf rest.isEmpty 241 s2

/-- The Memory Controller extends the dead time (R205, R337). -/
def bltExtended (s : State) : Bool := decide (1 ≤ s.mem.pressure)

/-- Some operations at the head end with a status. -/
def bltStopN : Nat → Nat → State → State
  | 0, _, s => s
  | n + 1, st, s => bltStopN n st (bltEnd st s)

/-- Every operation still queued ends on the entry to PARKED or BIVOUAC and writes nothing (R207). -/
def bltStopAll (s : State) : State := bltStopN s.blt.queue.length St.bltStopped s

/-- A Blit command is queued at acceptance; the queue starts it. -/
def startBlit (_tag : Nat) (_p : Pkt) (s : State) : State := s

def execBlitFill (p : Pkt) (s : State) : Host.Outcome State Fault Refusal := done (submit 0x0501 p startBlit s)
def execBlitCopy (p : Pkt) (s : State) : Host.Outcome State Fault Refusal := done (submit 0x0502 p startBlit s)
def execBlitOutline (p : Pkt) (s : State) : Host.Outcome State Fault Refusal := done (submit 0x0503 p startBlit s)
def execBlitClipSet (p : Pkt) (s : State) : Host.Outcome State Fault Refusal := done (submit 0x0504 p startBlit s)

def bltStart (s : State) : State :=
  match s.blt.queue with
  | [] => s
  | b :: _ =>
    if s.blt.running || b.dep != .met || s.cond.coast || !memOpen s then s
    else if (bltCheck s b.op b.desc).isNone && bltMoves s b.op b.desc && requesterCap s 5 == some 0 then extend b.tag s
    else
      let s1 := { s with blt := { s.blt with running := true, staging := bltStaged b.op b.desc } }
      match bltCheck s b.op b.desc with
      | some st => bltEnd st s1
      | none => when (bltExtended s && bltMoves s b.op b.desc) (extend b.tag) s1

/-- R191, R203: the operation at the head starts, and its checks run. -/
def execBltOpStart (s : State) : Host.Outcome State Fault Refusal := done (bltStart s)

def bltFinish (s : State) : State :=
  match s.blt.queue with
  | [] => s
  | b :: _ =>
    if !s.blt.running || !memOpen s then s
    else if b.op = 0x0504 then
      bltEnd St.ok { s with blt := { s.blt with
        clip := tset s.blt.clip (field b.desc 0 1) (field b.desc 4 2, field b.desc 6 2, field b.desc 8 2, field b.desc 10 2) } }
    else if b.op = 0x0502 ∧ (bltSrcRows b.desc).any (fun r => memPoisoned s.mem r.1 r.2) then
      bltEnd St.memUncorr (bltUndef b.desc s)
    else bltEnd St.ok (unordered true b.tag (bltRanges s b.op b.desc) (bltRun b.op b.desc s))

/-- R209: the running operation ends. -/
def execBltOpEnd (s : State) : Host.Outcome State Fault Refusal := done (bltFinish s)

/-! ### Registers (Tables 8-5 and 8-6) -/

def bltStatus (s : State) : Nat :=
  s.blt.queue.length + bit s.blt.running 7 +
  (if s.blt.running then (s.blt.queue.head?.map (·.tag)).getD 0 % 512 * 2 ^ 8 else 0) +
  bit (bltExtended s) 17 + bit s.blt.staging 18

def bltReg (s : State) (off : Nat) : Nat :=
  if off = 0x000 then ctrReg s .bltOps
  else if off = 0x004 then ctrReg s .bltFail
  else if off = 0x010 then bltStatus s
  else 0

end Sys2Proof.Machine
end

