-- ==== Sys2Proof/Machine/Memory.lean ====
section
/-! DEFINITION. The Memory Controller: refresh, pressure, activate limits, errors and retries, operating points, and the
memory commands (chapter 13, R422). -/
namespace Sys2Proof.Machine

/-! ### Refresh and rows (R335, R336, R339) -/

/-- A refresh of the bank that is next falls due. -/
def refreshDue (pc : Nat) (s : State) : State :=
  let b := tget s.mem.refreshBank pc 0
  let k := bankKey pc b
  onMem (fun m => { m with refreshBank := tset m.refreshBank pc ((b + 1) % 64), due := tset m.due k (tget m.due k 0 + 1) }) s

/-- The refresh that the pick issues now, if it picks one: ahead of everything after 8 postponements, else behind the
urgent and the guaranteed class (R335). -/
def issueDue (pc : Nat) (ready : List Nat) (s : State) : State :=
  match overdue s.mem pc with
  | some b => refreshBank (bankKey pc b) s
  | none => match pickBank s pc ready with
    | some (2, b) => rotAfter pc b (refreshBank (bankKey pc b) s)
    | _ => s

/-- R339: a refresh falls due, and is issued or postponed. -/
def execMemRefreshDue (pc : Nat) (ready : List Nat) (s : State) : Host.Outcome State Fault Refusal :=
  done (if memRuns s && chanRuns s.mem pc then issueDue pc ready (refreshDue pc s) else s)

/-- R336: an open row whose bank, numbered over all pseudo-channels, has been idle for MEM_PAGE_IDLE_NS is precharged. -/
def execMemPageIdleClose (bank idleNs : Nat) (s : State) : Host.Outcome State Fault Refusal :=
  done (when (memRuns s && chanRuns s.mem (bank / 64) && decide (par s 0x8005 ≤ idleNs) && (bankQueue s.mem bank).isEmpty &&
      (tget? s.mem.openRow bank).isSome) (precharge bank) s)

/-- R339: the stack temperatures are read; above 85 °C the refresh interval is halved and HOT is shown. -/
def execMemTempRead (temps : List Int) (s : State) : Host.Outcome State Fault Refusal :=
  done (if !s.pwr.episode then
    { s with mem := { s.mem with temps := (List.range 4).map (fun i => temps.getD i 0)
                                 hot := (temps.take 4).any (fun t => decide (85 * 16 < t)) } }
  else s)

/-! ### Pressure (R337, R338) -/

/-- Weighted requests are served late: the pressure level moves at the end of an interval. -/
def pressureInterval (waited urgent : Bool) (s : State) : State :=
  let p := s.mem.pressure
  if waited || urgent then
    if p < 4 then raise 69 { s with mem := { s.mem with pressure := p + 1, relax := 0 } }
    else { s with mem := { s.mem with relax := 0 } }
  else if p ≠ 0 ∧ par s 0x8001 ≤ s.mem.relax + 1 then
    raise 69 { s with mem := { s.mem with pressure := p - 1, relax := 0 } }
  else { s with mem := { s.mem with relax := if p = 0 then 0 else s.mem.relax + 1 } }

/-- The bounds the level extends: the running Blitter operation (R206) and, from level 3, SCENE_LOADs (R419). -/
def pressureExtends (s : State) : State :=
  let s1 := match s.blt.queue with
    | b :: _ => when (s.blt.running && decide (1 ≤ s.mem.pressure) && bltMoves s b.op b.desc) (extend b.tag) s
    | [] => s
  if 3 ≤ s1.mem.pressure then s1.sdec.jobs.foldl (fun t j => extend j.tag t) s1 else s1

/-- R337: the end of a 16 µs interval, with the longest wait in it of a SCO request, and of one of CIN or SIL. -/
def execMemPressureInterval (scoNs otherNs : Nat) (s : State) : Host.Outcome State Fault Refusal :=
  done (if memRuns s then
    pressureExtends (pressureInterval (decide (par s 0x8000 < max scoNs otherNs)) (s.mem.urgentSeen || scoUrgent s)
      (onMem (fun m => { m with served := [], urgentSeen := false }) s))
  else s)

/-- A cap as MEM_GRANTS shows it, in units, `all` where there is none. -/
def capField (c : Option Nat) (unit all : Nat) : Nat :=
  match c with
  | some n => n / unit
  | none => all

/-- MEM_GRANTS (Tables 13-4 and 13-12). -/
def memGrants (s : State) : Nat :=
  capField (requesterCap s 3) 1 0xFF + capField (requesterCap s 2) 1 0xFF * 2 ^ 8 +
  (capField (requesterCap s 8) 4 0xF + capField (requesterCap s 0) 4 0xF * 2 ^ 4) * 2 ^ 16 +
  capField (requesterCap s 5) 1 0xFF * 2 ^ 24

/-! ### Row disturbance (R341, R342) -/

/-- R341: in service the activates of a bank have passed MEM_ACT_LIMIT. -/
def execMemActLimit (pc bank : Nat) (s : State) : Host.Outcome State Fault Refusal :=
  let k := bankKey pc bank
  done (if memRuns s && memPhase s == 0 && rfmPending s k then
    raise 68 (count .memThrottle (onMem (fun m => { m with bankWait := insertNat k m.bankWait }) (issueRfm k s)))
  else s)

/-- R342: outside service a row's count has reached MEM_ACT_COUNT_LIMIT. -/
def execMemActCountLimit (pc bank row : Nat) (s : State) : Host.Outcome State Fault Refusal :=
  let k := bankKey pc bank
  let t := tget s.mem.actTable k []
  done (if memRuns s && memPhase s != 0 && decide (par s 0x8003 ≤ (t.lookup row).getD 0) then
    count .memRfm (onMem (fun m => { m with
      actTable := tset m.actTable k (t.map (fun e => if e.1 = row then (row, 0) else e)) }) (issueRfm k s))
  else s)

/-- R342: every 32 ms the tables are cleared. -/
def execMemActTableClear (s : State) : Host.Outcome State Fault Refusal :=
  done { s with mem := { s.mem with actTable := [] } }

/-! ### Retry and retraining (R347, R348) -/

/-- R347: ALERT on a channel, with some of its buffered commands within the alert window. -/
def execMemAlert (alarm : MemAlarm) (s : State) : Host.Outcome State Fault Refusal :=
  let chan := alarm.chan
  let n := tget s.mem.retries chan 0
  done (if memRuns s && !s.mem.retraining.contains chan && !s.mem.chanFail.getLsbD chan && decide (n < par s 0x8004) then
    raise 66 (count .memRetry (onMem (fun m => { m with retries := tset m.retries chan (n + 1) }) (replay chan alarm.window s)))
  else s)

/-- R348, R356: MEM_RETRY_MAX attempts have failed: the channel is retrained, or the running change has failed. -/
def execMemRetryExhausted (chan : Nat) (s : State) : Host.Outcome State Fault Refusal :=
  done (if memRuns s && decide (par s 0x8004 ≤ tget s.mem.retries chan 0) then
    let s1 := onMem (fun m => { m with retries := tdel m.retries chan }) s
    if s.mem.changing.isSome then onMem (fun m => { m with changeBad := true }) s1
    else count .memRetrain (onMem (fun m => { m with retraining := insertNat chan m.retraining }) s1)
  else s)

/-- Channels are marked failed: source 67, FAULT and its braking, and a black-box entry (R348). -/
def failChannels (mask : BitVec 64) (s : State) : State :=
  blackBoxSrc 67 0 (faultBrake (raise 67 { s with mem := { s.mem with chanFail := s.mem.chanFail ||| mask } }))

/-- R348: a retraining ends. -/
def execMemRetrainDone (chan : Nat) (ok : Bool) (s : State) : Host.Outcome State Fault Refusal :=
  done (if s.mem.retraining.contains chan then
    let s1 := { s with mem := { s.mem with retraining := s.mem.retraining.filter (· != chan) } }
    if ok then s1 else failChannels (BitVec.ofNat 64 (2 ^ chan)) s1
  else s)

/-! ### Errors (R344, R345) -/

/-- MEM_UE_ADDR and MEM_UE_INFO take an error unless they hold one not yet read (R344). -/
def holdUe (req addr : Nat) (s : State) : State :=
  if s.mem.ueInfo.getLsbD 31 then s
  else
    let (pc, l) := interleave addr
    let (b, r) := bankRow l
    { s with mem := { s.mem with
      ueAddr := addr % 2 ^ 40
      ueInfo := BitVec.ofNat 32 (req % 16 + pc % 128 * 2 ^ 4 + b % 64 * 2 ^ 11 + r % 2 ^ 14 * 2 ^ 17 + 2 ^ 31) } }

/-- The running Capture Encoder job is abandoned; its thumbnail is incomplete (Table 13-5, R119). -/
def cencAbandon (s : State) : State :=
  match s.sdec.cenc with
  | [] => s
  | j :: rest =>
    { s with sdec := { s.sdec with
        cenc := rest
        thumbs := s.sdec.thumbs ++ [{ region := j.region, status := 1, rseq := j.sceneId.toNat, offset := j.start
                                      stream := j.out }] } }

/-- The scrub of the 1 MiB round a granule is wanted, unless one of it is (R344). -/
def wantScrub (a : Nat) (m : Mem) : Mem :=
  if m.scrub.any (fun x => x / 2 ^ 20 == a / 2 ^ 20) then m else { m with scrub := m.scrub ++ [a / 2 ^ 20 * 2 ^ 20] }

/-- The outcome of an ECC check of a granule; a corrected severity report of the on-die ECC is a correctable error
(R346). A read by the controller itself, `own`, is no bus error (log 14). -/
def eccOutcome (req addr : Nat) (own : Bool) (ecc : Ecc) (s : State) : State :=
  match ecc with
  | .clean => if req = 9 ∧ ¬ own ∧ memPoisoned s.mem (addr / 64 * 64) 64 then faultBrake (busError addr s) else s
  | .correctable => raise 64 (count .memCe s)
  | .uncorrectable =>
    let s1 := onMem (fun m => wantScrub addr { m with poison := insertNat (addr / 64) m.poison }) s
    let s2 := holdUe req addr (blackBoxSrc 65 0 (raise 65 (count .memUe s1)))
    if req = 9 ∧ ¬ own then faultBrake (busError addr s2)
    else if req = 1 then cencAbandon s2
    else s2

/-- The verify of a change reads a row of a pseudo-channel; an uncorrectable error there fails the change (R356). -/
def verifyRead (pc : Nat) (ecc : Ecc) (s : State) : State :=
  eccOutcome 9 (Config.verifyGranule pc) true ecc (onMem (fun m => { m with
    verifying := true
    changeBad := m.changeBad || ecc == .uncorrectable
    retries := tdel m.retries (chanOf pc) }) s)

/-- R333, R335, R344: accesses are split and enter the pools, a pseudo-channel issues commands over some command slots,
and the read that is served last is checked. -/
def execMemReadComplete (asks : List MemAsk) (issue : MemIssue) (ecc : Ecc) (s : State) :
    Host.Outcome State Fault Refusal :=
  done (if memRuns s then
    let s1 := takeAsks asks s
    if s.mem.changing.isSome then verifyRead issue.pc ecc s1
    else match memSlots issue.pc issue.slots none s1 with
      | (some r, s2) => eccOutcome r.req r.addr false ecc s2
      | (none, s2) => s2
  else s)

/-- The patrol is on and may read its next granule, `sinceNs` after it read the last: it reads all of memory, 2³¹
granules, once in MEM_SCRUB_HOURS (R345, log 79). -/
def patrolDue (s : State) (sinceNs : Nat) : Bool :=
  par s 0x8006 != 0 && decide (par s 0x8006 * 3600000000000 ≤ sinceNs * (memSize / 64))

/-- The granule that the controller's own reads take next: of a scrub after an uncorrectable error, else of the patrol
where it is due (R344, R345). -/
def scrubNext (sinceNs : Nat) (s : State) : Option Nat :=
  match s.mem.scrub with
  | a :: _ => some a
  | [] => if patrolDue s sinceNs then some s.mem.patrol else none

/-- The running scrub, or the patrol where none runs, moves to its next granule. -/
def scrubStep (patrol : Bool) (m : Mem) : Mem :=
  if patrol then { m with patrol := (m.patrol + 64) % memSize }
  else match m.scrub with
    | a :: rest => { m with scrub := if (a + 64) % 2 ^ 20 = 0 then rest else (a + 64) :: rest }
    | [] => m

/-- R344, R345: a scrub reads its next granule. -/
def execMemPatrolScrub (sinceNs : Nat) (ecc : Ecc) (s : State) : Host.Outcome State Fault Refusal :=
  done (if memRuns s && s.mem.changing.isNone then
    match scrubNext sinceNs s with
    | some a => onMem (scrubStep s.mem.scrub.isEmpty) (eccOutcome 9 a true ecc s)
    | none => s
  else s)

/-! ### Operating points (R350 to R352) -/

/-- Camera data that arrive during a change are discarded, and their frames are damaged (R350). -/
def damageCams (s : State) : State :=
  { s with acc := { s.acc with ports := s.acc.ports.map (fun p =>
    { p with rx := p.rx.map (fun r => { r with damaged := true }) }) } }

/-- A change of operating point that is required starts in the dark revolution (R350). -/
def freqWindow (s : State) : State :=
  match s.mem.required with
  | some p =>
    if (s.ray.switchRev == 1 || s.cond.seq.isSome) && s.mem.changing.isNone && !s.cond.coast then
      damageCams (startChange p s)
    else s
  | none => s

/-- R350: the window opens at 1,024 ATK of the dark revolution. -/
def execMemFreqChangeWindow (s : State) : Host.Outcome State Fault Refusal :=
  done (when (!s.pwr.episode) (angleFire 5 1024 freqWindow) s)

/-- The memory PLL is back from bypass by the end of a change (R504). -/
def pllBack (s : State) : State :=
  let l := s.clk.plls.getD 1 {}
  let s1 := raiseIf l.bypass 225 s
  if l.requested then onPll 1 (fun l => { l with lock := true, bypass := false, requested := false }) s1 else s1

/-- A memory read or write that waited for the end of a change (R350). -/
def startMemRead (tag : Nat) (p : Pkt) (s : State) : State :=
  let a := pf p 0x18 8
  let n := pf p 0x20 4
  if s.mem.changing.isSome then s
  else if memPoisoned s.mem a n then finishSt tag St.memUncorr s
  else finish tag { image := memBytes s.mem a n } s

def startMemWrite (tag : Nat) (p : Pkt) (s : State) : State :=
  let a := pf p 0x18 8
  if s.mem.changing.isSome then s
  else if isLocked s a (pf p 0x20 4) then finishSt tag St.planeBusy s
  else finishSt tag St.ok (unordered false tag [(a, pf p 0x20 4)] (onMem (memStore a (pdata s p)) s))

/-- What a change held goes on: requests, Sillage entries, and the memory commands in order (R350). -/
def releaseHeld (s : State) : State :=
  let fl := s.hif.flights.filter (fun f => f.started && (f.op == 0x0801 || f.op == 0x0802))
  let s1 := takeAsks [] (silRelease s)
  fl.foldl (fun t f => if f.op = 0x0801 then startMemRead (ptag f.p) f.p t else startMemWrite (ptag f.p) f.p t) s1

/-- What a change that has ended leaves: what was held goes on, and a change required meanwhile starts (R352). -/
def changeEnded (p : Point) (s : State) : State :=
  let s1 := pllBack (onMem (fun m => { m with point := p, changing := none, verifying := false, changeBad := false }) s)
  let s2 := releaseHeld s1
  match s2.mem.required with
  | some q => requirePoint q (onMem (fun m => { m with required := none }) s2)
  | none => s2

/-- R350, R351: a change completes; or it fails and returns, channels that do not return being marked failed. The entry
that needed it ends; a change required meanwhile by something else follows the return (R352). -/
def execMemFreqChangeDone (ok : Bool) (returned : BitVec 64) (s : State) : Host.Outcome State Fault Refusal :=
  done (match s.mem.changing with
    | none => s
    | some (old, new) =>
      if ok && !s.mem.changeBad then changeEnded new (raise 70 (count .memFreq s))
      else
        let s0 := when s.cond.seq.isSome (onMem (fun m => { m with required := none })) s
        let s1 := failEntry St.memFreq (changeEnded old s0)
        let s2 := raise 71 (blackBoxSrc 71 0 (faultBrake s1))
        if returned = 0 then s2 else failChannels returned s2)

/-! ### Commands (R422) -/

def execMemRead (p : Pkt) (s : State) : Host.Outcome State Fault Refusal := done (submit 0x0801 p startMemRead s)

def execMemWrite (p : Pkt) (s : State) : Host.Outcome State Fault Refusal := done (submit 0x0802 p startMemWrite s)

/-- The test runs until MEM_TEST_DONE. -/
def startMemTest (_tag : Nat) (_p : Pkt) (s : State) : State := s

def execMemTest (p : Pkt) (s : State) : Host.Outcome State Fault Refusal := done (submit 0x0803 p startMemTest s)

/-- R422: the oldest memory test ends; it has overwritten its range. -/
def memTestDone (fails first : Nat) (s : State) : State :=
  match startedFlights s 0x0803 with
  | [] => s
  | f :: _ =>
    let s1 := memUndef (pf f.p 0x18 8) (pf f.p 0x20 8) s
    raise 74 (finish (ptag f.p) { status := if fails = 0 then St.ok else St.memTest
                                  result := leBytes 4 (min fails 0xFFFFFFFF) ++ leBytes 8 (if fails = 0 then 0 else first) } s1)

def execMemTestDone (fails first : Nat) (s : State) : Host.Outcome State Fault Refusal := done (memTestDone fails first s)

/-! ### Registers (Tables 13-10 to 13-13) -/

def pointCode : Point → Nat
  | .p32 => 0 | .p48 => 1 | .p56 => 2 | .off => 3

/-- POINT: self-refresh too after the flush of COAST and while the memory PLL is lost (R355, Table 19-3). -/
def pointShown (s : State) : Point := if memServed s then s.mem.point else .off

def memStatus (s : State) : Nat :=
  pointCode (pointShown s) + bit s.mem.changing.isSome 2 + s.mem.pressure % 8 * 2 ^ 3 + memPhase s * 2 ^ 6 + bit s.mem.hot 8 +
  bit (s.mem.chanFail != 0) 9

def memReg (s : State) (off : Nat) : Nat :=
  if off = 0x000 then memStatus s
  else if off = 0x004 then memGrants s
  else if off = 0x008 then s.mem.ueAddr % 2 ^ 32
  else if off = 0x00C then s.mem.ueAddr / 2 ^ 32
  else if off = 0x010 then s.mem.ueInfo.toNat
  else if off = 0x018 then s.mem.chanFail.toNat % 2 ^ 32
  else if off = 0x01C then s.mem.chanFail.toNat / 2 ^ 32
  else if off = 0x020 then ctrReg s .memCe
  else if off = 0x024 then ctrReg s .memUe
  else if off = 0x028 then ctrReg s .memRetry
  else if off = 0x02C then ctrReg s .memRetrain
  else if off = 0x030 then ctrReg s .memThrottle
  else if off = 0x034 then ctrReg s .memRfm
  else if off = 0x038 then ctrReg s .memFreq
  else 0

/-- Reading a memory register that is read and cleared. -/
def memReadClear (off : Nat) (s : State) : State :=
  if off = 0x008 then { s with mem := { s.mem with ueAddr := s.mem.ueAddr / 2 ^ 32 * 2 ^ 32 } }
  else if off = 0x00C then { s with mem := { s.mem with ueAddr := s.mem.ueAddr % 2 ^ 32 } }
  else if off = 0x010 then { s with mem := { s.mem with ueInfo := 0 } }
  else s

end Sys2Proof.Machine
end

