-- ==== Sys2Proof/Machine/Rotor.lean ====
section
/-! DEFINITION. The Rotor Controller and the Angle Time Base: requests, encoder, angle counter, state changes and
faults (chapter 9). -/
namespace Sys2Proof.Machine

/-- No reset episode runs. -/
def live (s : State) : Bool := !s.pwr.episode

/-- The bridge runs: it keeps its state through a warm episode under local control (R232). -/
def bridgeLive (s : State) : Bool := !(s.pwr.episode && s.pwr.cold)

/-! ### Requests (R231, Table 16-6) -/

/-- Commands of an opcode that have started end, with the rotor state in RESULT. -/
def rotorEnd (op st : Nat) (s : State) : State :=
  finishAll (startedOf s op) { status := st, result := [BitVec.ofNat 8 (rotCode s.rot.state)] } s

/-- The rotor commands that the present state or request completes: a start in RUN, a stop in STOPPED, and one whose
request has been replaced (log 13). -/
def rotorCommands (s : State) : State :=
  let s1 := when (s.rot.state == .run || s.rot.req != .start) (rotorEnd 0x0420 St.ok) s
  when (s1.rot.state == .stopped || s1.rot.req == .start) (rotorEnd 0x0421 St.ok) s1

/-- ROTOR_START (R231). -/
def startRotorStart (tag : Nat) (_p : Pkt) (s : State) : State :=
  if s.cond.fault then finish tag { status := St.faultActive, result := [BitVec.ofNat 8 (rotCode s.rot.state)] } s
  else if s.cond.shutdown then
    finish tag { status := St.thermalHot, result := [BitVec.ofNat 8 (rotCode s.rot.state)] } s
  else rotorCommands (startRotor s)

/-- ROTOR_STOP (R231). -/
def startRotorStop (_tag : Nat) (_p : Pkt) (s : State) : State := rotorCommands (stopRotor s)

def execRotorStart (p : Pkt) (s : State) : Host.Outcome State Fault Refusal :=
  done (submit 0x0420 p startRotorStart s)

def execRotorStop (p : Pkt) (s : State) : Host.Outcome State Fault Refusal :=
  done (submit 0x0421 p startRotorStop s)

/-! ### Encoder and angle counter (R215 to R220) -/

/-- The place of the levels of A and B in the sequence in which A leads B. -/
def quadPos (ab : Nat) : Nat := [0, 1, 3, 2].getD ab 0

/-- A glitch (R215); the second within one revolution declares encoder loss (Table 9-5). -/
def encGlitch (s : State) : State :=
  let s1 := raise 26 (count .encGlitch { s with rot := { s.rot with glitches := s.rot.glitches + 1 } })
  if 2 ≤ s1.rot.glitches then encoderLoss 1 s1 else s1

/-- The counter advances by one encoder count of 16 ATK, its rate changed within 0.75 to 1.25 to remove what the last
index left (R216, R217). -/
def countForward (s : State) : State :=
  let c := clampI (-4) 4 s.rot.corr
  { s with rot := { s.rot with
      counts := s.rot.counts + 1
      reverse := s.rot.reverse - 1
      corr := s.rot.corr - c
      angle := if s.rot.angleValid then s.rot.angle + BitVec.ofInt 32 (16 + c) else s.rot.angle } }

def encoderTransition (a b : Bool) (speed16 : Nat) (s : State) : State :=
  let old := s.rot.ab
  let new := bit a 0 + bit b 1
  let s1 := refreshLit { s with rot := { s.rot with ab := new, speed16 := speed16 } }
  let d := (quadPos new + 4 - quadPos old) % 4
  if d = 0 then s1
  else if d = 2 then encGlitch s1
  else if (d = 1) = (s.rot.dir = 0) then countForward s1
  else { s1 with rot := { s1.rot with reverse := s1.rot.reverse + 1 } }

/-- R215: a filtered transition of A and B; the bridge goes on commutating from the encoder in a warm episode (R232). -/
def execEncoderTransition (a b : Bool) (speed16 : Nat) (s : State) : Host.Outcome State Fault Refusal :=
  done (if bridgeLive s then encoderTransition a b speed16 s else s)

/-- The counter starts (R219). -/
def startAngle (s : State) : State :=
  let r := if s.rot.everStarted then rev s + 1 else 0
  let x := par s 0x4108
  refreshLit { s with
    rot := { s.rot with
      angle := BitVec.ofNat 32 (r * 65536 + x), angleValid := true, everStarted := true, fired := []
      indexAtk := x, armed := false, reverse := 0, corr := 0, encLost := false
      startTime := stampTime s }
    sil := { s.sil with frameRev := r % 65536 } }

/-- The states in which the counter is stopped (Table 9-3). -/
def angleStopped (r : RotState) : Bool := [RotState.stopped, .align, .sensorlessBrake].contains r

/-- The counts and glitches of a revolution of the encoder begin again at an index edge. -/
def indexSeenNow (s : State) : State :=
  { s with rot := { s.rot with indexSeen := true, counts := 0, glitches := 0 } }

/-- An index edge while the counter counts. A count that a glitch of this revolution lost is restored here and is no
second glitch (R215); any other difference of 1 or 2 counts is one (R217). -/
def indexCheck (s : State) : State :=
  let off := s.rot.counts
  let s1 := { s with rot := { s.rot with corr := sext 16 (wrapTo 16 ((s.rot.indexAtk : Int) - (atk s : Int))) } }
  if 4098 < off ∨ off < 4094 then encoderLoss 2 (indexSeenNow s1)
  else if off = 4096 ∨ s.rot.glitches ≠ 0 then indexSeenNow s1
  else indexSeenNow (encGlitch s1)

/-- The next index edge starts the counter (R219, R220, Table 9-3). -/
def mayStart (s : State) : Bool :=
  live s && s.rot.armed && !angleStopped s.rot.state && s.rot.cause.toNat % 32 == 0

def indexEdge (s : State) : State :=
  if s.rot.angleValid then indexCheck s
  else
    let s1 := indexSeenNow s
    if mayStart s1 then startAngle s1 else s1

/-- R217, R219: an index edge starts the counter, or checks and corrects it. -/
def execIndexEdge (s : State) : Host.Outcome State Fault Refusal := done (if bridgeLive s then indexEdge s else s)

/-- R236: a differential fail-safe. -/
def execEncLossPair (s : State) : Host.Outcome State Fault Refusal := done (if bridgeLive s then encoderLoss 0 s else s)

/-- The states and speed at which a missing count declares encoder loss (Table 9-5). -/
def timeoutStates (s : State) : Bool :=
  decide (300 * 16 < s.rot.speed16) && [RotState.spinUp, .run, .brake, .regen].contains s.rot.state

/-- R236: no count for 8 expected intervals. -/
def execEncLossTimeout (s : State) : Host.Outcome State Fault Refusal :=
  done (if bridgeLive s && timeoutStates s then encoderLoss 3 s else s)

/-- R236: a net 8 counts opposite to ROT_DIR. -/
def execEncLossReverse (s : State) : Host.Outcome State Fault Refusal :=
  done (if bridgeLive s && decide (8 ≤ s.rot.reverse) then encoderLoss 4 s else s)

/-- R236: no index within 4,160 counts. -/
def execEncIndexMissing (s : State) : Host.Outcome State Fault Refusal :=
  done (if bridgeLive s && decide (4160 ≤ s.rot.counts) then encoderLoss 2 s else s)

/-! ### State changes (Table 9-4) -/

/-- R231: alignment ends. -/
def execAlignComplete (s : State) : Host.Outcome State Fault Refusal :=
  done (if live s && s.rot.state == .align then setRotState .spinUp s else s)

/-- R231, R233: catching ends once the first index has been seen, for SPIN_UP with a start request and for BRAKE
otherwise. -/
def execCatchComplete (s : State) : Host.Outcome State Fault Refusal :=
  done (if live s && s.rot.state == .catching && s.rot.indexSeen then
    rotorCommands (setRotState (if s.rot.req == .start then .spinUp else .brake) s) else s)

/-- The measured speed (Table 9-8). -/
def setSpeed (v : Nat) (s : State) : State := refreshLit { s with rot := { s.rot with speed16 := v } }

/-- The measured speed lies within a part per thousand of the setpoint. -/
def withinMille (s : State) (v m : Nat) : Bool :=
  let n := 16 * s.rot.setpoint
  decide ((max v n - min v n) * 1000 ≤ n * m)

/-- R231: SPIN_UP passes to RUN within ±1 % of the setpoint. -/
def execSpeedSetpointReached (speed16 : Nat) (s : State) : Host.Outcome State Fault Refusal :=
  done (if live s then
    let s1 := setSpeed speed16 s
    if s1.rot.state == .spinUp && withinMille s1 speed16 10 then rotorCommands (setRotState .run s1) else s1
  else s)

/-- R223: RAMP clears within ±0.2 % of the setpoint. -/
def execRampSettled (speed16 : Nat) (s : State) : Host.Outcome State Fault Refusal :=
  done (if live s then
    let s1 := setSpeed speed16 s
    if s1.rot.state == .run && withinMille s1 speed16 2 then { s1 with rot := { s1.rot with ramp := false } } else s1
  else s)

/-- The drum has fallen below 60 rpm: the counter stops, a freewheeling drum is STOPPED, a brake begins its 500 ms of
phase shorting (R220, Table 9-4). -/
def below60 (s : State) : State :=
  let s1 := stopAngle s
  match s1.rot.state with
  | .freewheel => rotorCommands (setRotState .stopped s1)
  | .brake | .sensorlessBrake => { s1 with rot := { s1.rot with shorting := true, shortMs := true } }
  | .stopped | .catching | .align | .spinUp | .run | .regen => s1

/-- R220: the measured speed falls below 60 rpm. -/
def execSpeedBelow60rpm (speed16 : Nat) (s : State) : Host.Outcome State Fault Refusal :=
  done (if bridgeLive s then
    let s1 := setSpeed speed16 s
    if speed16 < 60 * 16 then below60 s1 else s1
  else s)

/-- R231: regeneration ends below 300 rpm, and the hold-up bus is left to its capacitance. -/
def execSpeedBelow300rpm (speed16 : Nat) (s : State) : Host.Outcome State Fault Refusal :=
  done (if bridgeLive s then
    let s1 := setSpeed speed16 s
    if s1.rot.state == .regen && decide (speed16 < 300 * 16) then hubNow (setRotState .freewheel s1) else s1
  else s)

/-- The hold-up bus once more where the rotor was in REGEN (R214, R238). -/
def hubOfRegen (was : RotState) (s : State) : State := when (was == .regen) hubNow s

/-- R236: overspeed above ROT_OVERSPEED_RPM; in REGEN the rotor goes on (Table 9-6). -/
def execOverspeed (speed16 : Nat) (s : State) : Host.Outcome State Fault Refusal :=
  done (if bridgeLive s then
    let s1 := setSpeed speed16 s
    if par s 0x4106 * 16 < speed16 then rotorStartEnd St.rotorFail (brakeRotor (rotorFault 5 17 s1)) else s1
  else s)

/-- R214: the hardware trip shorts the phases above 4,250 rpm; in REGEN that stops regeneration. In a cold episode, which
ends without FAULT, it records no fault (R559). -/
def execHwOverspeedTrip (speed16 : Nat) (s : State) : Host.Outcome State Fault Refusal :=
  done (
    let s1 := setSpeed speed16 s
    if 4250 * 16 < speed16 then
      let s2 := hubOfRegen s.rot.state { s1 with rot := { s1.rot with hwTrip := true, shorting := true } }
      if bridgeLive s2 then rotorStartEnd St.rotorFail (rotorFault 6 17 s2) else s2
    else s1)

/-- R214: below 4,000 rpm the shorting ends and braking follows, or in REGEN regeneration once more. -/
def execHwOverspeedRelease (speed16 : Nat) (s : State) : Host.Outcome State Fault Refusal :=
  done (
    let s1 := setSpeed speed16 s
    if s1.rot.hwTrip && decide (speed16 < 4000 * 16) then
      hubOfRegen s.rot.state (brakeRotor { s1 with rot := { s1.rot with hwTrip := false, shorting := s1.rot.shortMs } })
    else s1)

/-- R231: a stall. -/
def execSpinupTimeout (s : State) : Host.Outcome State Fault Refusal :=
  done (if live s && s.rot.state == .spinUp then
    rotorStartEnd St.rotorFail (brakeRotor (rotorFault 7 19 s)) else s)

/-- R231: the 500 ms of phase shorting end. -/
def execPhaseShortEnd (s : State) : Host.Outcome State Fault Refusal :=
  done (if bridgeLive s && s.rot.shortMs then
    rotorCommands (setRotState .stopped { s with rot := { s.rot with shorting := s.rot.hwTrip } }) else s)

/-- R231: no encoder count for 10 s in FREEWHEEL. -/
def execFreewheelNoCount (s : State) : Host.Outcome State Fault Refusal :=
  done (if bridgeLive s && s.rot.state == .freewheel then rotorCommands (setRotState .stopped (stopAngle (setSpeed 0 s)))
    else s)

/-- R236: bridge overcurrent turns the bridge off (Table 9-6). -/
def execBridgeOvercurrent (s : State) : Host.Outcome State Fault Refusal :=
  done (if bridgeLive s then
    let s1 := hubOfRegen s.rot.state (setReq .none (setRotState .freewheel s))
    rotorStartEnd St.rotorFail (rotorFault 8 18 s1)
  else s)

/-! ### Registers (Tables 9-8 to 9-11) -/

/-- ROT_STATUS. -/
def rotStatus (s : State) : Nat :=
  rotCode s.rot.state + bit s.rot.angleValid 4 + lockCode s.rot.lock * 32 + bit s.rot.litOk 7 + bit s.rot.ramp 8 +
  bit s.rot.sensorless 9

/-- Word `i` of a packed time (R361). -/
def timeWord (t i : Nat) : Nat := timePack t / 2 ^ (32 * i) % 2 ^ 32

/-- A rotor register as read. -/
def rotReg (s : State) (off : Nat) : Nat :=
  if off = 0x000 then s.rot.angle.toNat
  else if off = 0x008 then s.rot.snapAngle.toNat
  else if 0x00C ≤ off ∧ off ≤ 0x018 then timeWord s.rot.snapTime ((off - 0x00C) / 4)
  else if off = 0x020 then rotStatus s
  else if off = 0x024 then s.rot.speed16 % 2 ^ 20
  else if off = 0x028 then wrapTo 32 s.rot.phaseErr
  else if off = 0x02C then s.rot.cause.toNat
  else if off = 0x030 then ctrReg s .encGlitch
  else if off = 0x034 then ctrReg s .lockLoss
  else 0

/-- R221: angle and time captured together. -/
def snapCapture (s : State) : State :=
  { s with rot := { s.rot with snapAngle := s.rot.angle, snapTime := stampTime s } }

def execRotSnapCapture (s : State) : Host.Outcome State Fault Refusal := done (if live s then snapCapture s else s)

/-- Bits of ROT_FAULT_CAUSE cleared by writing 1; the counter may start once the encoder bits are all 0 (R220). -/
def clearRotCause (v : Word) (s : State) : State :=
  let c := s.rot.cause &&& ~~~(v.setWidth 9)
  refreshLit { s with rot := { s.rot with cause := c, encLost := s.rot.encLost && c.toNat % 32 != 0 } }

def execRotFaultCauseClear (value : Word) (s : State) : Host.Outcome State Fault Refusal :=
  done (if live s then clearRotCause value s else s)

end Sys2Proof.Machine
end

