-- ==== Sys2Proof/Machine/Links.lean ====
section
/-! DEFINITION. Panel lanes and gate-control links: row packets, frames, training, loopback, exchanges and polling
(chapter 11). -/
namespace Sys2Proof.Machine

/-! ### Gate-control frames (R287 to R289) -/

/-- The line symbols of a frame: the start mark, then body and check in Manchester code. -/
def gcSymbols (body : Nat) : List Bool :=
  let check := (crc8 (leBytes 4 body)).toNat
  [true, true, true, true, false, false, false, false] ++
  (bitsLsb 32 body ++ bitsLsb 8 check).flatMap (fun b => [b, !b])

/-- A frame on a link; link 32 stands for all of them. -/
def gcSend (link body : Nat) (s : State) : State :=
  { s with gcl := { s.gcl with frames := { link := link, bits := gcSymbols body } :: s.gcl.frames } }

/-- The body of a ROW frame (Table 11-6). -/
def rowBody (row facet : Nat) (flat : Bool) : Nat :=
  1 + row % 2 ^ 13 * 2 ^ 4 + facet % 4 * 2 ^ 17 + bit flat 19

/-- The TYPE of the frame that an exchange sends (Table 11-6). -/
def exchType : ExchKind → Nat
  | .write => 2 | .read => 3 | .loop => 5

/-- The body of a WRITE, READ or LOOP frame. -/
def exchBody (e : Exchange) : Nat :=
  exchType e.kind + e.addr % 16 * 2 ^ 4 + (match e.kind with
    | .write => e.reg % 256 * 2 ^ 8 + e.data.toNat * 2 ^ 16
    | .read => e.reg % 256 * 2 ^ 8
    | .loop => e.pattern % 2 ^ 24 * 2 ^ 8)

/-- The reply of an exchange is right: its check, its TYPE, ADDR and REG, and for ECHO the pattern (R288, R292). -/
def replyGood (e : Exchange) (body : Word) (check : Byte) : Bool :=
  let v := body.toNat
  let want := exchBody e
  check == crc8 (leBytes 4 v) && (match e.kind with
    | .loop => v == want - 5 + 6
    | .write | .read => v % 2 ^ 16 == want % 2 ^ 16 - exchType e.kind + 4)

/-- DATA of a REPLY (Table 11-6). -/
def replyData (body : Word) : Half := BitVec.ofNat 16 (body.toNat / 2 ^ 16)

/-- The place of a lane's column driver on the links: its link and address (Table 11-7). -/
def driverOf (lane : Nat) : Nat × Nat := (lane / 8, 8 + lane % 8)

/-- The READ frames of some registers of the column drivers of some lanes (Table 11-8). -/
def sendReads (regs lanes : List Nat) (s : State) : State :=
  regs.foldl (fun t r => lanes.foldl (fun u l =>
    let d := driverOf l
    gcSend d.1 (exchBody { link := d.1, addr := d.2, reg := r }) u) t) s

/-! ### Final failures of exchanges (R292, R303, R305) -/

/-- A link's bit, counter and source of a final failure (R292). -/
def exchangeMark (link : Nat) (noReply : Bool) (s : State) : State :=
  let s1 := { s with gcl := { s.gcl with failMask := s.gcl.failMask ||| BitVec.ofNat 32 (2 ^ (link % 32)) } }
  if noReply then raise 51 (count .gclNoReply s1) else raise 52 (count .gclCrcErr s1)

/-- An exchange of the module has finally failed: FAULT and a black-box entry; one of a power sequence ends power-on,
and leaves a discharge running (R292, R303, R305). -/
def ownFailed (e : Exchange) (src : Nat) (s : State) : State :=
  let s1 := when e.power (fun t => { t with pnl := { t.pnl with cause := t.pnl.cause ||| 8 } }) s
  let s2 := when (e.power && s1.pnl.state == .powering)
    (fun t => failEntry St.panelPower (panelStop St.panelPower t)) s1
  faultBrake (blackBoxSrc src (if e.power then BitVec.ofNat 32 s2.pnl.cause.toNat else 0) s2)

/-- A read of the module's own has had no reply in any attempt. -/
def readLost (e : Exchange) (s : State) : State := ownFailed e 51 (exchangeMark e.link true s)

/-! ### Training (R281 to R283) -/

/-- The lanes run at 2.7 Gbit/s: FLAT timing in the mode that is in force or being entered (R258, R280). -/
def laneRate27 (s : State) : Bool :=
  let m := match s.cond.seq with
    | some q => q.toM
    | none => if s.ray.switchRev = 0 then s.cond.mode else s.cfg.active.mode
  m == .flat || (m == .service && !s.cond.svcTiming)

/-- PLT_POLARITY0 to 7 as one word. -/
def polarityWord (s : State) : BitVec 256 :=
  BitVec.ofNat 256 (((List.range 8).map (fun k => par s (0x4310 + k) * 2 ^ (32 * k))).sum)

/-- Training starts: what takes effect at a training is taken, the training packets go out on every lane, the VCOM code is
written, facets under way end (R281, R283, R285, R295, R506, R507). The VCOM writes of a power-on are its own (R303). -/
def startTraining (kind : Nat) (s : State) : State :=
  let s1 := { s with
    plt := { s.plt with state := .training, trainFor := kind, tries := par s 0x4303, rate27 := laneRate27 s
                        swing := par s 0x4301, deemph := par s 0x4302, polarity := polarityWord s
                        ssc := (par s 0x0202, par s 0x0203, par s 0x0204) }
    gcl := { s.gcl with phases := (List.range 4).map (fun k => par s (0x0208 + k)) } }
  pushVcom (kind == 1) (darkNow (sendTraining (List.range 256) 1024 s1))

/-- The LINK_TRAINs that wait for a training. -/
def trainWaiting (s : State) : List Nat :=
  ((startedFlights s 0x0410).filter (fun f => f.aux.isEmpty)).map (fun f => ptag f.p)

/-- The LINK_TRAINs that the training in progress serves. -/
def trainServed (s : State) : List Nat :=
  ((startedFlights s 0x0410).filter (fun f => !f.aux.isEmpty)).map (fun f => ptag f.p)

/-- The training of LINK_TRAIN begins; the facets it overlaps are dark (R283). -/
def beginTrain (s : State) : State :=
  match trainWaiting s with
  | [] => s
  | ts =>
    let s1 := ts.foldl (fun t n => onFlight n (fun f => { f with aux := [1] }) t) s
    startTraining 2 { s1 with plt := { s1.plt with trainWait := none }, sco := { s1.sco with linkDark := true } }

/-- LINK_TRAIN waits for a revolution start (R283). -/
def trainAtRev (s : State) : Bool := (s.cond.mode == .lightfield || s.cond.mode == .flat) && s.rot.angleValid

/-- LINK_TRAIN (R283): at the next revolution start in LIGHTFIELD and FLAT; with no revolution, and in the other
modes, as soon as no training runs. -/
def startLinkTrain (tag : Nat) (_p : Pkt) (s : State) : State :=
  if s.cond.fault then finish tag { status := St.faultActive, result := leBytes 4 0 } s
  else if s.cond.shutdown then finish tag { status := St.thermalHot, result := leBytes 4 0 } s
  else if s.pnl.state ≠ .on then finish tag { status := St.wrongMode, result := leBytes 4 0 } s
  else
    let s1 := { s with plt := { s.plt with trainWait := some (s.plt.trainWait.getD tag) } }
    if trainAtRev s then s1
    else if s.plt.state = .training then s1
    else beginTrain s1

def execLinkTrain (p : Pkt) (s : State) : Host.Outcome State Fault Refusal := done (submit 0x0410 p startLinkTrain s)

/-- A requested training may begin: nothing holds it back (R283, R296). -/
def mayTrain (s : State) : Bool :=
  s.plt.trainWait.isSome && s.pnl.state == .on && s.plt.state != .training && !s.cond.coast && live s

/-- The revolution start has come: the counter has just passed 0, or no revolution is to be waited for. -/
def atTrainStart (s : State) : Bool := !trainAtRev s || (!startOverdue s && decide (atk s < 64))

/-- R283: a requested training begins at the revolution start; one that a rate change holds back follows it (R296). -/
def execLinkTrainBegin (s : State) : Host.Outcome State Fault Refusal :=
  done (if mayTrain s && atTrainStart s then beginTrain s else s)

/-- The commands that a failed training ends: those of a power-on, of LINK_TRAIN, of a mode entry, and of a loopback
(R282, R286, R303). -/
def trainFailEnds (kind n : Nat) (s : State) : State :=
  if kind = 1 then failEntry St.linkTrain (panelStop St.linkTrain s)
  else if kind = 2 then finishAll (trainServed s) { status := St.linkTrain, result := leBytes 4 n } s
  else if kind = 3 then failEntry St.linkTrain s
  else match s.plt.loopRes with
    | some r => if kind = 5 then loopFinish St.linkTrain r.1 r.2 s else s
    | none => s

/-- Training passes (R281): the panel is ON after power-on, and the commands it serves end. -/
def trainPass (kind : Nat) (s : State) : State :=
  if kind = 1 then
    panelNext (raise 56 { s with pnl := { s.pnl with state := .on, step := 0 } })
  else if kind = 2 then finishAll (trainServed s) { result := leBytes 4 0 } s
  else if kind = 5 then loopCut s
  else s

/-! #### Attempts (Table 11-4) -/

/-- A lane passes: CDR_LOCK and SYNC_OK, at least 1,000 good packets and none in error (Table 11-4 step 5). -/
def lanePasses (r : LaneRead) : Bool :=
  r.status.getLsbD 0 && r.status.getLsbD 1 && decide (1000 ≤ r.good.toNat) && r.err == 0

/-- What the attempts of a training come to: the lanes that failed every one, and a driver that answered no read. -/
structure TrainSum where
  failing : List Nat := []
  lost : Option Nat := none
  deriving DecidableEq, Repr

/-- Attempts at some lanes, each with what the reads of its drivers by lane gave: packets and reads go out on the lanes
that still fail, until they all pass, the attempts are used up, or a driver's reads finally fail. -/
def trainAttempts : Nat → List Nat → List (List (Option LaneRead)) → State → TrainSum × State
  | 0, lanes, _, s => ({ failing := lanes }, s)
  | n + 1, lanes, reads, s =>
    let s1 := sendReads [1, 2, 3] lanes (sendTraining lanes 1024 s)
    let got := reads.headD []
    match lanes.find? (fun l => (got.getD l none).isNone) with
    | some l => ({ failing := lanes, lost := some l }, s1)
    | none =>
      let bad := lanes.filter (fun l => !((got.getD l none).map lanePasses).getD false)
      if bad.isEmpty then ({}, s1) else trainAttempts n bad reads.tail s1

/-- Lanes as a word. -/
def laneMask (ls : List Nat) : BitVec 256 := BitVec.ofNat 256 ((ls.map (fun l => 2 ^ (l % 256))).sum)

/-- A training ends; one that a rate change held back follows it (R296), another its revolution start (R283). -/
def trainingEnd (fail : BitVec 256) (s : State) : State :=
  let kind := s.plt.trainFor
  let s1 := { s with
    plt := { s.plt with state := .l0, trainFor := 0, trained := fail == 0, trainFail := fail }
    sco := { s.sco with linkDark := false } }
  if fail = 0 then
    let s2 := trainPass kind s1
    if s2.plt.trainWait.isSome && s2.plt.state != .training && s2.pnl.state == .on && (kind == 3 || !trainAtRev s2) then
      beginTrain s2 else s2
  else
    let s2 := trainFailEnds kind ((lanesOf fail).length) { s1 with pnl := { s1.pnl with step := 0 } }
    blackBoxSrc 48 0 (raise 48 (faultBrake s2))

/-- Training runs its attempts, PLT_TRAIN_TRIES of them at most, and ends; a driver whose reads finally fail sets FAULT, and
the discharge that follows ends the training (R281, R282, R292). -/
def trainingRun (reads : List (List (Option LaneRead))) (s : State) : State :=
  let (r, s1) := trainAttempts s.plt.tries (List.range 256) reads s
  match r.lost with
  | some l =>
    let d := driverOf l
    readLost { link := d.1, addr := d.2, reg := 1, power := s.plt.trainFor == 1 } s1
  | none => trainingEnd (laneMask r.failing) s1

/-- R281, R282: lane training passes, or some lanes have failed every attempt. -/
def execTrainingEnd (reads : List (List (Option LaneRead))) (s : State) : Host.Outcome State Fault Refusal :=
  done (if s.plt.state = .training ∧ s.plt.trainFor ≠ 0 ∧ live s then trainingRun reads s else s)

/-! ### Loopback (R286) -/

/-- LINK_LOOPBACK: one test at a time, in order. -/
def startLinkLoopback (tag : Nat) (_p : Pkt) (s : State) : State :=
  if s.plt.loopTag.isSome then s else beginLoop tag s

def execLinkLoopback (p : Pkt) (s : State) : Host.Outcome State Fault Refusal :=
  done (submit 0x0411 p startLinkLoopback s)

/-- Tests 0 and 1: a lane fails with a bit in error (Table 11-5). -/
def nearEnd (lanes errs : List Nat) (s : State) : State :=
  let bad := laneMask (lanes.filter (fun l => errs.getD l 0 != 0))
  let n := (lanes.map (fun l => errs.getD l 0)).sum
  loopFinish St.ok bad n (countN .loopErr n { s with plt := { s.plt with loopFail := bad } })

/-- A lane passes the far-end test: every packet good, saturating as the register does, and none in error (Tables 11-5
and 11-8). -/
def farPasses (n : Nat) (r : Option LaneRead) : Bool :=
  (r.map (fun r => r.good.toNat == min n 0xFFFF && r.err == 0)).getD false

/-- Test 2: the drivers are read, and training ends the test. With the panel not ON no driver answers and none is trained
(log 78). Bits in error are not seen over the drivers' packet counts: their number is a free value where a packet was in
error (log 2). -/
def farEnd (n : Nat) (lanes : List Nat) (reads : List (Option LaneRead)) (s : State) : State :=
  let on := s.pnl.state == .on
  let got := if on then reads else []
  let bad := laneMask (lanes.filter (fun l => !farPasses n (got.getD l none)))
  let wrong := lanes.any (fun l => ((got.getD l none).map (fun r => r.err != 0)).getD false)
  let (k, s1) := if wrong then takeFree s else (0, s)
  let s2 := countN .loopErr k { s1 with plt := { s1.plt with loopFail := bad, loopRes := some (bad, k) } }
  if on then
    let s3 := sendReads [2, 3] lanes s2
    match lanes.find? (fun l => (got.getD l none).isNone) with
    | some l =>
      let d := driverOf l
      readLost { link := d.1, addr := d.2, reg := 2 } (loopCut s3)
    | none => startTraining 5 s3
  else loopCut s2

/-- The end of the test in progress. -/
def loopbackEnd (p : Pkt) (errs : List Nat) (reads : List (Option LaneRead)) (s : State) : State :=
  let lanes := lanesOf (loopMask s p)
  if pf p 0x14 1 = 2 then farEnd (pf p 0x18 4) lanes reads s else nearEnd lanes errs s

/-- R286: a loopback test ends; test 2 ends with training. -/
def execLoopbackEnd (errs : List Nat) (reads : List (Option LaneRead)) (s : State) : Host.Outcome State Fault Refusal :=
  done (if s.plt.loopRes.isSome then s else
    match s.plt.loopTag.bind (flightOf s) with
    | some f => loopbackEnd f.p errs reads s
    | none => s)

/-! ### Exchanges (R292 to R295) -/

/-- GC_WRITE and GC_READ wait in the exchange queue from their acceptance (R421). -/
def startGcWrite (_tag : Nat) (_p : Pkt) (s : State) : State := s
def startGcRead (_tag : Nat) (_p : Pkt) (s : State) : State := s
def execGcWrite (p : Pkt) (s : State) : Host.Outcome State Fault Refusal := done (submit 0x0412 p startGcWrite s)
def execGcRead (p : Pkt) (s : State) : Host.Outcome State Fault Refusal := done (submit 0x0413 p startGcRead s)

/-- The blank before drum facet 0: no window is open, and drum facet 3 has had its scan or is dark (R295). -/
def blankBefore0 (s : State) : Bool :=
  decide (49152 ≤ atk s) && !s.sco.scanning && s.sco.awaiting.isNone &&
    (s.sco.flat || !canShow s || (s.sco.frame.getD 3 {}).outcome != .none)

/-- The VCOM code of a changed epoch is written in the blank before facet 0 (R295). -/
def vcomNow (s : State) : Bool :=
  s.gcl.vcomDue && s.pnl.state == .on && (!s.rot.angleValid || blankBefore0 s)

/-- Where the next start window opens. -/
def nextWindow (s : State) : Nat := if s.sco.flat then 65536 else 16384 * (atk s / 16384 + 1)

/-- An exchange may start: outside scan and start windows, with its frame, its full reply window and the reply over before
the next window opens at the measured speed; nothing holds it back where no facet can be shown (R293, R300). -/
def exchFits (s : State) : Bool :=
  !s.rot.angleValid || !canShow s ||
    (!s.sco.scanning && s.sco.awaiting.isNone &&
      decide ((440 + par s 0x4304) * s.rot.speed16 * 65536 ≤ (nextWindow s - atk s) * 960000000000))

/-- A host exchange whose command has started. -/
def exchReady (s : State) (e : Exchange) : Bool :=
  match e.tag with
  | some t => ((flightOf s t).map (·.started)).getD false
  | none => true

/-- The next exchange: the module's own first, then the host's in order of acceptance (R293). -/
def nextExchange (s : State) : Option (Exchange × State) :=
  match s.gcl.own with
  | e :: es => some (e, { s with gcl := { s.gcl with own := es } })
  | [] =>
    match s.gcl.host.find? (exchReady s) with
    | some e => some (e, { s with gcl := { s.gcl with host := s.gcl.host.erase e } })
    | none => none

/-- An attempt of an exchange: its frame is sent. -/
def sendExchange (e : Exchange) (s : State) : State :=
  gcSend e.link (exchBody e) { s with gcl := { s.gcl with cur := some { e with tries := e.tries + 1 } } }

def exchangeStart (s : State) : State :=
  if s.gcl.cur.isSome || !exchFits s then s
  else
    match nextExchange (when (vcomNow s) (pushVcom false) s) with
    | some (e, s1) => sendExchange e s1
    | none => s

/-- R293: a queued exchange starts, outside scan windows. -/
def execGcExchangeStart (s : State) : Host.Outcome State Fault Refusal :=
  done (if live s then exchangeStart s else s)

/-- Step 7 of power-on ends when its exchanges have; training follows (Table 12-2). -/
def afterExchange (s : State) : State :=
  if s.pnl.state = .powering ∧ s.pnl.step = 7 ∧ ¬ s.gcl.own.any (fun e => e.power) then
    startTraining 1 { s with pnl := { s.pnl with step := 8 } }
  else s

/-- An exchange has succeeded. -/
def exchangeOk (e : Exchange) (data : Half) (s : State) : State :=
  let s1 := { s with gcl := { s.gcl with cur := none } }
  match e.tag with
  | some t => finish t { result := leBytes 2 data.toNat } s1
  | none => afterExchange s1

/-- An attempt has failed: it is repeated up to GCL_RETRIES times, at once or when it next fits, then the failure is final
(R292, R293, R296). -/
def exchangeFail (e : Exchange) (noReply : Bool) (s : State) : State :=
  if e.tries ≤ par s 0x4305 then
    if exchFits s then sendExchange e s
    else { s with gcl := match e.tag with
      | some _ => { s.gcl with cur := none, host := e :: s.gcl.host }
      | none => { s.gcl with cur := none, own := e :: s.gcl.own } }
  else
    let s1 := exchangeMark e.link noReply { s with gcl := { s.gcl with cur := none } }
    match e.tag with
    | some t => finish t { status := if noReply then St.gcNoReply else St.gcCrc, result := leBytes 2 0 } s1
    | none => ownFailed e (if noReply then 51 else 52) s1

/-- A gate-control link is stopped: its aligner has lost lock (Table 19-3). No reply comes over it. -/
def gcStopped (s : State) (link : Nat) : Bool := (s.clk.plls.getD (4 + link / 8) {}).bypass

/-- R292: a reply arrives, body and check as received. -/
def execGcReplyReceived (body : Word) (check : Byte) (s : State) : Host.Outcome State Fault Refusal :=
  done (match s.gcl.cur with
    | none => s
    | some e =>
      if gcStopped s e.link then s
      else if replyGood e body check then exchangeOk e (replyData body) s
      else exchangeFail e false s)

/-- R292: no reply start mark within GCL_REPLY_NS. -/
def execGcReplyTimeout (s : State) : Host.Outcome State Fault Refusal :=
  done (match s.gcl.cur with
    | none => s
    | some e => exchangeFail e true s)

/-! ### Polling (R284) -/

/-- The devices of a link in address order (Table 11-7). -/
def linkDevices (link : Nat) : List Nat :=
  [0] ++ (if link = 0 ∨ link = 16 then [1] else []) ++ (if link = 0 then [2] else []) ++ (List.range 8).map (· + 8)

/-- LOCK_LOST of a column driver. -/
def lockLost (lane : Nat) (s : State) : State :=
  raise 49 (count .pltLockLoss { s with plt := { s.plt with
    lockLost := s.plt.lockLost ||| BitVec.ofNat 256 (2 ^ (lane % 256)) } })

/-- An exchange of the module run to its end, with the replies to its attempts: one more attempt than `n` at most. It
gives the DATA of a right reply, or whether the last attempt had none (R292). -/
def runExchange (e : Exchange) : Nat → List (Option (Word × Byte)) → State → (Half ⊕ Bool) × State
  | n, replies, s =>
    let s1 := gcSend e.link (exchBody e) s
    match (if gcStopped s e.link then none else replies.headD none) with
    | some r =>
      if replyGood e r.1 r.2 then (.inl (replyData r.1), s1)
      else match n with
        | 0 => (.inr false, s1)
        | m + 1 => runExchange e m replies.tail s1
    | none => match n with
      | 0 => (.inr true, s1)
      | m + 1 => runExchange e m replies.tail s1

/-- The device of a link whose turn it is has its STATUS read. -/
def statusPoll (link : Nat) (replies : List (Option (Word × Byte))) (s : State) : State :=
  let devs := linkDevices link
  let e : Exchange := { link := link, addr := devs.getD (s.gcl.pollLink.getD link 0 % devs.length) 0, reg := 1 }
  let s0 := { s with gcl := { s.gcl with
    pollLink := s.gcl.pollLink.set link ((s.gcl.pollLink.getD link 0 + 1) % devs.length)
    polled := s.gcl.polled.set link true } }
  match runExchange e (par s 0x4305) replies s0 with
  | (.inl v, s1) => when (decide (8 ≤ e.addr) && v.getLsbD 2) (lockLost (8 * link + e.addr - 8)) s1
  | (.inr noReply, s1) => ownFailed e (if noReply then 51 else 52) (exchangeMark link noReply s1)

/-- A link may be polled: in a blank, once in each, while the panel is ON and no exchange is in progress (R284, R293). -/
def mayPoll (link : Nat) (s : State) : Bool :=
  s.pnl.state == .on && decide (link < 32) && live s && s.rot.angleValid && s.gcl.cur.isNone && exchFits s &&
    !s.gcl.polled.getD link false

/-- R284: in each blank one device of a link has its STATUS read, with the replies to the attempts. -/
def execGclStatusPoll (link : Nat) (replies : List (Option (Word × Byte))) (s : State) :
    Host.Outcome State Fault Refusal :=
  done (if mayPoll link s then statusPoll link replies s else s)

/-! ### Power states (R279) -/

/-- 8 ATK after the last packet of a facet, whose scan has ended: row pairs 0 to `row` − 1 of it were sent. -/
def l1sEntryAtk (s : State) : Nat := 16384 * s.sco.facet + s.sco.startOfs + 3 * s.sco.row + 8

/-- 12 ATK before the start of the next drum facet. -/
def l1sExitAtk (s : State) : Nat := 16384 * (atk s / 16384 + 1) - 12

/-- The lanes are to enter L1s: PLT_BLANK_L1S, LIGHTFIELD, and a facet whose scan has ended here (R279). -/
def l1sDue (s : State) : Bool :=
  s.plt.state == .l0 && s.plt.blankL1s && lfTiming s && !s.sco.scanning && !s.sco.inSlot && s.sco.awaiting.isNone &&
    decide (0 < s.sco.row) && !s.sco.isDark && decide (s.sco.facet = atk s / 16384)

/-- R279: the lanes enter L1s 8 ATK after the last packet of a facet. -/
def execLaneL1sEntry (s : State) : Host.Outcome State Fault Refusal :=
  done (when (l1sDue s) (angleFire 6 (l1sEntryAtk s) (fun t => { t with plt := { t.plt with state := .l1s } })) s)

/-- R279: at F_(j+1) − 12 the lanes leave L1s and send the idle pattern. -/
def execLaneL1sExit (s : State) : Host.Outcome State Fault Refusal :=
  done (when (s.plt.state == .l1s)
    (angleFire 7 (l1sExitAtk s) (fun t => { t with plt := { t.plt with state := .l0 } })) s)

/-! ### Registers (Tables 11-11 to 11-13) -/

def laneCode : LaneState → Nat
  | .l0 => 0 | .l1s => 1 | .l3d => 2 | .training => 3

def pltStatus (s : State) : Nat :=
  laneCode s.plt.state + bit s.plt.rate27 2 + bit s.plt.trained 3 + bit s.plt.loopBusy 4

/-- Word `k` of a lane mask. -/
def laneWord (m : BitVec 256) (k : Nat) : Nat := m.toNat / 2 ^ (32 * k) % 2 ^ 32

def pltReg (s : State) (off : Nat) : Nat :=
  if off = 0x000 then pltStatus s
  else if 0x010 ≤ off ∧ off ≤ 0x02C then laneWord s.plt.trainFail ((off - 0x010) / 4)
  else if 0x030 ≤ off ∧ off ≤ 0x04C then laneWord s.plt.lockLost ((off - 0x030) / 4)
  else if 0x050 ≤ off ∧ off ≤ 0x06C then laneWord s.plt.loopFail ((off - 0x050) / 4)
  else if off = 0x070 then ctrReg s .loopErr
  else if off = 0x074 then ctrReg s .pltLockLoss
  else 0

def gclReg (s : State) (off : Nat) : Nat :=
  if off = 0x000 then bit s.gcl.cur.isSome 0 + min s.gcl.host.length 63 * 2 + bit (s.gcl.failMask != 0) 7
  else if off = 0x004 then ctrReg s .gclNoReply
  else if off = 0x008 then ctrReg s .gclCrcErr
  else if off = 0x010 then s.gcl.failMask.toNat
  else 0

/-- W1C of the lock-lost words and of GCL_FAIL_MASK. -/
def pltWrite (off : Nat) (v : Word) (s : State) : State :=
  if 0x030 ≤ off ∧ off ≤ 0x04C then
    { s with plt := { s.plt with
      lockLost := s.plt.lockLost &&& ~~~(BitVec.ofNat 256 (v.toNat * 2 ^ (32 * ((off - 0x030) / 4)))) } }
  else s

def gclWrite (off : Nat) (v : Word) (s : State) : State :=
  if off = 0x010 then { s with gcl := { s.gcl with failMask := s.gcl.failMask &&& ~~~v } } else s

end Sys2Proof.Machine
end

