-- ==== Sys2Proof/Machine/Panel.lean ====
section
/-! DEFINITION. Panel power on and off, crack loops, and the panel and backlight registers (chapter 12). -/
namespace Sys2Proof.Machine

/-! ### PANEL_POWER (R302 to R305, R570) -/

/-- PANEL_POWER: the commands act one at a time; ON = 0 during a power-on has its bound extended. -/
def startPanelPower (tag : Nat) (p : Pkt) (s : State) : State :=
  let s1 := { s with pnl := { s.pnl with cmds := s.pnl.cmds ++ [tag] } }
  panelNext (when (pf p 0x14 1 == 0 && s1.pnl.state == .powering) (extend tag) s1)

def execPanelPower (p : Pkt) (s : State) : Host.Outcome State Fault Refusal := done (submit 0x0414 p startPanelPower s)

/-- RAILS of each step of Table 12-2. -/
def stepRails (n : Nat) : Nat := [0x01, 0x03, 0x07, 0x0F].getD (n - 3) 0

/-- A step of power-on begins (Table 12-2). -/
def powerStep (n : Nat) (s : State) : State :=
  let s1 := { s with pnl := { s.pnl with step := n, waitReady := decide (n < 7), delay := false } }
  if n = 7 then
    pushPower (gateDrivers.map (ownWrite true 0x10 0) ++ colDrivers.map (ownWrite true 0x10 0)) s1
  else setRails (stepRails n) (when (n == 6) (pushVcom true) s1)

/-- The PMIC's STATUS is read; READY ends the wait of a step, and 2 ms follow in steps 3 to 6 (R302). A PMIC whose rail is
off does not answer (R554). -/
def pmicPoll (ready : Bool) (s : State) : State :=
  let s1 := gcSend 0 (exchBody { link := 0, addr := 2, reg := 1 }) s
  if !ready || !s.pnl.auxPnl then s1
  else if s.pnl.step = 2 then powerStep 3 s1
  else { s1 with pnl := { s1.pnl with waitReady := false, delay := true } }

/-- R302: PMIC STATUS is polled once each 1 ms during a READY wait. -/
def execPmicReadyPoll (ready : Bool) (s : State) : Host.Outcome State Fault Refusal :=
  done (if live s && s.pnl.state == .powering && s.pnl.waitReady then pmicPoll ready s else s)

/-- R302: the 2 ms of a step end. -/
def execPowerOnDelayEnd (s : State) : Host.Outcome State Fault Refusal :=
  done (if live s && s.pnl.state == .powering && s.pnl.delay then powerStep (s.pnl.step + 1) s else s)

/-- R303: a READY wait has timed out. -/
def readyTimeout (s : State) : State :=
  let s1 := { s with pnl := { s.pnl with cause := s.pnl.cause ||| 4 } }
  faultBrake (failEntry St.panelPower (panelStop St.panelPower s1))

def execPmicReadyTimeout (s : State) : Host.Outcome State Fault Refusal :=
  done (if live s && s.pnl.state == .powering && s.pnl.waitReady then readyTimeout s else s)

/-- The rows of Table 12-3 after the first. -/
def dischargeRow (n : Nat) (s : State) : State :=
  match n with
  | 1 => pushPower (colDrivers.map (ownWrite true 0x10 2)) s
  | 2 => setRails 0x17 s
  | 3 => setRails 0x13 s
  | 4 => setRails 0x11 s
  | 5 => setRails 0x10 s
  | 6 => { s with plt := { s.plt with state := .l3d }, pnl := { s.pnl with auxPnl := false } }
  | _ =>
    let s1 := raise 57 { s with pnl := { s.pnl with state := .off, dischStep := 8, rails := 0 }
                                gcl := { s.gcl with own := s.gcl.own.filter (fun e => !e.power) } }
    panelNext (when (s1.pnl.powerAfter && !anyStop s1) startPowerOn
      { s1 with pnl := { s1.pnl with powerAfter := false } })

/-- R304: the next row of the discharge sequence. -/
def execDischargeStep (s : State) : Host.Outcome State Fault Refusal :=
  done (if live s && s.pnl.state == .discharging then
    dischargeRow s.pnl.dischStep { s with pnl := { s.pnl with dischStep := s.pnl.dischStep + 1 } }
  else s)

/-! ### Crack loops (R306 to R308) -/

/-- The class of a sample under the present CRK_LIMIT_OHM (R306). -/
def crackClass (s : State) (ohm : Nat) (supply : Bool) : CrkClass :=
  if supply then .shorted else if 10000 < ohm then .opened else if par s 0x4501 < ohm then .high else .ok

/-- A sample of a loop: 4 samples not OK in a row are a trip; a run that has tripped is marked by 5. A power-on that
waited for the loops starts (R302). -/
def crackSample (n ohm : Nat) (supply : Bool) (s : State) : State :=
  let c := crackClass s ohm supply
  let old := s.pnl.crkRun.getD n 0
  let run := if c = .ok then 0 else if 4 < old then old else min 4 (old + 1)
  let s1 := { s with pnl := { s.pnl with
    crk := s.pnl.crk.set n c, crkRun := s.pnl.crkRun.set n run, crkOhm := s.pnl.crkOhm.set n (min ohm 0xFFFF) } }
  if s1.pnl.waitCrack && !crackBad s1 then startPowerOn { s1 with pnl := { s1.pnl with waitCrack := false } } else s1

def execCrackLoopSample (n ohm : Nat) (supply : Bool) (s : State) : Host.Outcome State Fault Refusal :=
  done (if live s && decide (n < 2) then crackSample n ohm supply s else s)

/-- A loop that CRK_ENABLE names has 4 samples not OK in a row and has not tripped for them (R306). -/
def crackTrips (s : State) (n : Nat) : Bool :=
  decide (n < 2) && (par s 0x4500).testBit n && decide (4 ≤ s.pnl.crkRun.getD n 0) &&
  (decide (s.pnl.crkRun.getD n 0 = 4) || !s.pnl.crkTripped.getD n false)

/-- A loop trips (R307). -/
def crackTrip (n : Nat) (s : State) : State :=
  let s1 := blank { s with pnl := { s.pnl with
    cause := s.pnl.cause ||| BitVec.ofNat 4 (2 ^ n), crkRun := s.pnl.crkRun.set n 5
    crkTripped := s.pnl.crkTripped.set n true } }
  let s2 := faultBrake (raise 58 (blackBoxSrc 58 (BitVec.ofNat 32 s1.pnl.cause.toNat) s1))
  when (n == 1) flyAbort s2

/-- R307: a crack loop trips. -/
def execCrackLoopTrip (n : Nat) (s : State) : Host.Outcome State Fault Refusal :=
  done (if live s && crackTrips s n then crackTrip n s else s)

/-! ### Registers (Tables 12-11 to 12-15) -/

def pnlStatus (s : State) : Nat :=
  pnlCode s.pnl.state + crkCode (s.pnl.crk.getD 0 .ok) * 4 + crkCode (s.pnl.crk.getD 1 .ok) * 16

/-- The BLS outputs regulate (R309). -/
def suppliesOn (s : State) : Bool :=
  s.cond.mode != .parked && !s.cond.bivouac && !anyStop s && s.pnl.state == .on

def blStatus (s : State) : Nat :=
  s.bl.cap + bit s.bl.capping 7 + s.bl.throttle * 2 ^ 8 + bit (suppliesOn s) 12

def flyStateCode : FlyState → Nat
  | .idle => 0 | .journal => 1 | .loading => 2 | .running => 3 | .waiting => 4 | .redriveWaiting => 5

def flyStatus (s : State) : Nat :=
  flyStateCode s.fly.state + s.fly.band * 8 + bit s.fly.pend 6 + bit (flySuppressed s) 7 + bit s.fly.torn 8

/-- A panel, backlight or Flysheet register as read. -/
def pnlReg (s : State) (off : Nat) : Nat :=
  if off = 0x000 then pnlStatus s
  else if off = 0x004 then s.pnl.cause.toNat
  else if off = 0x008 then s.pnl.crkOhm.getD 0 0
  else if off = 0x00C then s.pnl.crkOhm.getD 1 0
  else if off = 0x010 then blStatus s
  else if 0x020 ≤ off ∧ off ≤ 0x02C then s.bl.fault.toNat / 2 ^ (32 * ((off - 0x020) / 4)) % 2 ^ 32
  else if off = 0x030 then ctrReg s .zoneFault
  else if off = 0x040 then flyStatus s
  else if off = 0x044 then s.fly.imageLo.toNat
  else if off = 0x048 then s.fly.imageHi.toNat
  else if off = 0x04C then ctrReg s .flyUpdate
  else if off = 0x050 then ctrReg s .flySkip
  else 0

/-- BL_ZONE_FAULT `k` written: a zone whose bit is 1 is cleared and lit again (R313). -/
def clearZoneFault (k : Nat) (v : Word) (s : State) : State :=
  let m : BitVec 128 := BitVec.ofNat 128 (v.toNat * 2 ^ (32 * (k % 4)))
  { s with bl := { s.bl with
    fault := s.bl.fault &&& ~~~m
    verdict := s.bl.verdict.filter (fun e => !m.getLsbD e.1) } }

def execBlZoneFaultClear (k : Nat) (value : Word) (s : State) : Host.Outcome State Fault Refusal :=
  done (if live s && decide (k < 4) then clearZoneFault k value s else s)

/-- W1C of PNL_FAULT_CAUSE and of BL_ZONE_FAULT. -/
def pnlWrite (off : Nat) (v : Word) (s : State) : State :=
  if off = 0x004 then { s with pnl := { s.pnl with cause := s.pnl.cause &&& ~~~(v.setWidth 4) } }
  else if 0x020 ≤ off ∧ off ≤ 0x02C then clearZoneFault ((off - 0x020) / 4) v s
  else s

end Sys2Proof.Machine
end

