-- ==== Sys2Proof/Machine/Fly.lean ====
section
/-! DEFINITION. The Flysheet: the journal, the frames to its driver, updates and re-drives (chapter 12). -/
namespace Sys2Proof.Machine

/-- FLYSHEET_UPDATE (R319). -/
def startFlysheetUpdate (tag : Nat) (_p : Pkt) (s : State) : State := flyRequest .host (some tag) s

def execFlysheetUpdate (p : Pkt) (s : State) : Host.Outcome State Fault Refusal :=
  done (submit 0x0702 p startFlysheetUpdate s)

/-! ### Image and journal (R314, R321, R322) -/

/-- The image of this moment: host segments 0 to 55 and the module's own (Table 12-4). -/
def flyImage (s : State) : Dword :=
  let host := par s 0x4604 + par s 0x4605 % 2 ^ 24 * 2 ^ 32
  BitVec.ofNat 64 (host + bit s.cond.coast 56 + bit s.cond.fault 57 + bit s.cond.shutdown 58 + bit s.sil.flushedAll 59 +
    bit (s.pnl.crkTripped.any id) 60 + bit s.cond.bivouac 61 +
    bit (s.cond.mode == .parked || s.fly.causes.contains .parked) 62)

/-- The CAUSE of merged requests (Table 22-3): the first of this order that is present. -/
def flyCause (cs : List FlyCause) : FlyCause :=
  (([FlyCause.coast, .fault, .thermal, .bivouac, .parked].find? (fun c => cs.contains c)).getD .host)

def flyCauseCode : FlyCause → Nat
  | .host => 0 | .coast => 1 | .fault => 2 | .thermal => 3 | .parked => 4 | .bivouac => 5

/-- The 32 bytes of a journal entry (Table 12-8). -/
def journalBytes (e : JEntry) : List Byte :=
  let body := leBytes 2 0x4C4A ++ [0x01] ++ leBytes 1 (flyCauseCode e.cause) ++ leBytes 4 e.seq ++ leBytes 8 e.image.toNat ++
    leBytes 1 e.band ++ [0, 0, 0]
  body ++ leBytes 4 (crc32c body).toNat ++ leBytes 4 0 ++ leBytes 4 (if e.done then 0 else 0xFFFFFFFF)

/-- An entry programmed in the next free slot; the first of a sector erases the other sector (R322). -/
def journalAdd (e : JEntry) (s : State) : State :=
  { s with fly := { s.fly with
    journal := if s.fly.slot % 2048 = 0 then [e] else e :: s.fly.journal
    slot := (s.fly.slot + 1) % 4096 } }

/-- The SEQ of a new entry; a journal never programmed reads all ones. -/
def journalSeq (s : State) : Nat := match s.fly.journal with
  | e :: _ => (e.seq + 1) % 2 ^ 32
  | [] => 0

/-- An update may start: none runs, and in COAST only in the Flysheet step (R319, Table 17-1). -/
def flyMayStart (s : State) : Bool :=
  s.fly.requested && s.fly.cur.isNone && s.fly.state == .idle && (!s.cond.coast || s.pwr.coastStep == 4) && !s.pwr.episode

/-- The entry of the requested update is programmed, its band and levels latched (R318, R322). -/
def flyBegin (s : State) : State :=
  let img := flyImage s
  let b := s.fly.reqBand
  let s1 := journalAdd { cause := flyCause s.fly.causes, seq := journalSeq s, image := img, band := b } s
  { s1 with fly := { s1.fly with
    state := .loading, band := b, requested := false, tags := [], causes := []
    cur := some { image := img, band := b, vh := par s 0x4601, vm := par s 0x4602, tags := s.fly.tags } } }

/-- R322: an update starts, unless it is dropped or waits for energy (R319, R320). -/
def execFlyUpdateStart (s : State) : Host.Outcome State Fault Refusal :=
  done (if flyMayStart s then
    let s1 := flyConsider s
    if flyMayStart s1 then flyBegin s1 else s1
  else s)

/-! ### Frames to the driver (R315 to R317) -/

/-- Segments at level B in a slot (Table 12-6). -/
def flyMask (img : Nat) (slot : Nat) : Nat :=
  match slot with
  | 0 | 4 => 2 ^ 63
  | 1 => 2 ^ 63 - 1
  | 2 => (2 ^ 63 - 1) ^^^ (img % 2 ^ 63)
  | _ => 0

/-- The argument of PHASE for a slot (Tables 12-5 and 12-6). -/
def flyPhase (band slot : Nat) : Nat :=
  let b := [1, 1, 3, 0, 3].getD slot 0
  b * 8 + bit (slot != 3) 6 + flySlotMs band slot * 2 ^ 7 + slot * 2 ^ 20

/-- Frame `n` of the program: the two masks and the phase of each slot, then RUN. -/
def flyProgram (u : FlyUpdate) (n : Nat) : Nat × Nat :=
  if n < 15 then
    let m := flyMask u.image.toNat (n / 3)
    if n % 3 = 0 then (0x10, m % 2 ^ 32) else if n % 3 = 1 then (0x11, m / 2 ^ 32) else (0x20, flyPhase u.band (n / 3))
  else (0x30, 4)

/-- A re-drive sends ABORT first (R323). -/
def flyFrame (u : FlyUpdate) (n : Nat) : Nat × Nat :=
  if u.redrive then (if n = 0 then (0x50, 0) else flyProgram u (n - 1)) else flyProgram u n

def flyFrames (u : FlyUpdate) : Nat := if u.redrive then 17 else 16

/-- The 48 bits of a frame, as bytes (R315). -/
def flyBytes (op arg : Nat) : List Byte :=
  let b := leBytes 1 op ++ leBytes 4 arg
  b ++ [crc8 b]

/-- A frame put on the wire. -/
def flySend (op arg : Nat) (s : State) : State := { s with fly := { s.fly with sent := flyBytes op arg :: s.fly.sent } }

/-- The update is abandoned (R316). -/
def flyFail (u : FlyUpdate) (s : State) : State :=
  flyEnd St.flyLink u (blackBoxSrc 62 (BitVec.ofNat 32 s.pnl.cause.toNat) (raise 62 s))

/-- A frame without ACK or with a bad reply check is sent again up to 3 times (R316). -/
def flyRetry (u : FlyUpdate) (s : State) : State :=
  if 3 ≤ u.tries then flyFail u s
  else { s with fly := { s.fly with cur := some { u with tries := u.tries + 1 } } }

/-- The driver's answer to a frame: the status byte and the CRC-8 of it; good with ACK and a right CRC (R315, R316). -/
def flyAck (status check : Byte) : Bool := status.getLsbD 0 && check == crc8 [status]

/-- A frame of the program is sent and answered. -/
def flyLoad (status check : Byte) (u : FlyUpdate) (s : State) : State :=
  let f := flyFrame u u.sent
  let s1 := flySend f.1 f.2 s
  if flyAck status check then
    { s1 with fly := { s1.fly with
      cur := some { u with sent := u.sent + 1, tries := 0 }
      state := if u.sent + 1 = flyFrames u then .running else .loading } }
  else flyRetry u s1

/-- The ABORT of a CRK1 trip is sent and answered; the update ends with it (R316, R319). -/
def flyAbortSent (status check : Byte) (u : FlyUpdate) (s : State) : State :=
  let s1 := flySend 0x50 0 s
  if flyAck status check then flyEnd St.faultActive u (raise 62 s1) else flyRetry u s1

/-- R315, R316: a frame is sent and answered. -/
def execFlyFrameExchange (status check : Byte) (s : State) : Host.Outcome State Fault Refusal :=
  done (match s.fly.cur with
    | some u =>
      if u.aborting then flyAbortSent status check u s
      else if s.fly.state = .loading then flyLoad status check u s
      else s
    | none => s)

/-- The waveform has ended: DONE is programmed (R322). -/
def flyDone (u : FlyUpdate) (s : State) : State :=
  let j := match s.fly.journal with
    | e :: l => { e with done := true } :: l
    | [] => []
  flyEnd St.ok u (raise 61 (count .flyUpdate { s with fly := { s.fly with
    journal := j, imageLo := u.image.setWidth 32, imageHi := BitVec.ofNat 32 (u.image.toNat / 2 ^ 32) } }))

/-- R316: STATUS during a run. -/
def execFlyStatusPoll (status check : Byte) (s : State) : Host.Outcome State Fault Refusal :=
  done (match s.fly.cur with
    | some u =>
      if s.fly.state = .running ∧ ¬ u.aborting then
        let s1 := flySend 0x40 0 s
        if flyAck status check then
          (if status.getLsbD 3 then flyDone u s1 else { s1 with fly := { s1.fly with cur := some { u with tries := 0 } } })
        else flyRetry u s1
      else s
    | none => s)

/-- R320: an update that waited 10 s for energy is dropped. -/
def execFlyEnergyTimeout (s : State) : Host.Outcome State Fault Refusal :=
  done (if s.fly.state = .waiting ∧ s.fly.requested then flyDrop St.flyEnergy s else s)

/-- A re-drive waits: the band is COLD, a CRK1 trip persists, or the input is below the sag warning level (R323). -/
def redriveHeld (s : State) : Bool := flyBand s == 7 || flySuppressed s || s.pwr.sagw

/-- R323: the re-drive of the newest entry, whose DONE is not programmed, starts. -/
def flyRedrive (s : State) : State :=
  if redriveHeld s then s
  else match s.fly.journal with
    | e :: l =>
      raise 62 { s with fly := { s.fly with
        state := .loading, band := flyBand s
        journal := e :: l
        cur := some { image := e.image, band := flyBand s, vh := par s 0x4601, vm := par s 0x4602, redrive := true } } }
    | [] => s

def execFlyRedriveStart (s : State) : Host.Outcome State Fault Refusal :=
  done (if s.fly.state = .redriveWaiting ∧ ¬ s.pwr.episode then flyRedrive s else s)

end Sys2Proof.Machine
end

