-- ==== Sys2Proof/Machine/Composer.lean ====
section
/-! DEFINITION. The Accord Composer and the camera ports: layers, compositions, safety regions, frames from the cameras,
and the staging commands of layers, regions and scalers (chapter 6). -/
namespace Sys2Proof.Machine

/-! ### Camera rings (log 11) -/

/-- First byte of a frame of a port's ring. -/
def camBase (port buf : Nat) : Nat := composeBase + 4982833152 + (4 * port + buf) * 37748736
/-! ### Camera frames shown -/

/-- The frame of a port that a pick names. -/
def frameBySeq (s : State) (port key : Nat) : Option CamFrame :=
  (s.acc.ports.getD port {}).frames.find? (fun f => camKey port f.seq == key)
/-- The layers of a stale port draw nothing (R130). -/
def camHidden (s : State) (c : ConfigSet) (port : Nat) : Bool :=
  (s.acc.ports.getD port {}).stale && setParam c 0x2101 == 1

/-! ### One composed pixel (R125, R126, R131 to R135) -/

/-- First byte of a pixel of a layer's surface. -/
def surfaceAddr (d : List Byte) (x y : Nat) : Nat := lBase d + y * lPitch d + x * fmtBytes (lFmt d)
/-- First byte of a pixel of a camera frame. -/
def cameraAddr (port : Nat) (f : CamFrame) (x y : Nat) : Nat := camBase port f.buf + 4 * (y * f.w + x)

/-- A source pixel of a surface as a premultiplied pair (R131 steps 1 to 3). -/
def surfacePx (m : Mem) (c : ConfigSet) (d : List Byte) (x y : Nat) : Px :=
  memPx m (surfaceAddr d x y) (fmtBytes (lFmt d)) (fun v =>
    if lKey d && keyed (lFmt d) v (field d 0x20 4) (field d 0x24 4) then Px.clear
    else convert c (lFmt d) (lFlag d 1) (lOpaque d) (field d 0x28 4) v)

/-- A source pixel of a camera frame. -/
def cameraPx (m : Mem) (c : ConfigSet) (d : List Byte) (port : Nat) (f : CamFrame) (x y : Nat) : Px :=
  let fmt := if f.fmt10 then 1 else 0
  memPx m (cameraAddr port f x y) 4 (fun v =>
    if lKey d && keyed fmt v (field d 0x20 4) (field d 0x24 4) then Px.clear else convert c fmt false (lOpaque d) 0 v)

/-- The source of a layer; none while it draws nothing. -/
def layerSource (s : State) (c : ConfigSet) (cams : List (Nat × Nat)) (l : Nat) : Option (Nat → Nat → Px) :=
  let d := layerOf c l
  if lIsCam d then
    let port := lSrc d - 1
    if camHidden s c port then none
    else ((cams.lookup l).bind (frameBySeq s port)).map (fun f => cameraPx s.mem c d port f)
  else some (surfacePx s.mem c d)

/-- A layer's pair at a target pixel, under its layer alpha. -/
def layerPx (c : ConfigSet) (d : List Byte) (src : Nat → Nat → Px) (x y : Nat) : Px :=
  let u := ((x : Int) - lDx d).toNat
  let v := ((y : Int) - lDy d).toNat
  let p := if lScaler d = 0xFF then src (lSx d + u) (lSy d + v)
    else scaleAxis c (lScaler d) (lSx d) (lSw d) (lDw d) u (fun col =>
      scaleAxis c (lScaler d) (lSy d) (lSh d) (lDh d) v (fun row => src col row))
  fade (lAlpha d) p

/-- A target pixel lies in a layer's clipped destination. -/
def layerCovers (c : ConfigSet) (d : List Byte) (x y : Nat) : Bool :=
  let (x0, x1, y0, y1) := layerClip c d
  decide (x0 ≤ x) && decide (x < x1) && decide (y0 ≤ y) && decide (y < y1)

/-- A composed pixel: the base, then the layers of the target in ascending order. -/
def composePx (s : State) (c : ConfigSet) (cams : List (Nat × Nat)) (t x y : Nat) : Px :=
  ((enabledLayers c).filter (fun l => lTarget (layerOf c l) == t && layerCovers c (layerOf c l) x y)).foldl
    (fun acc l => match layerSource s c cams l with
      | some src => blendOver (layerPx c (layerOf c l) src x y) acc
      | none => acc) (basePx s.mem c t x y)

/-- The pixels of a compose tile. -/
def tilePixels (c : ConfigSet) (t k : Nat) : List (Nat × Nat) :=
  let (w, h) := targetSize c t
  let tw := tilesWide c t
  let x0 := k % tw * 64
  let y0 := k / tw * 64
  (List.range (min h (y0 + 64) - y0)).flatMap (fun j => (List.range (min w (x0 + 64) - x0)).map (fun i => (x0 + i, y0 + j)))

/-- A byte of a target's buffer lies in one of some tiles. -/
def inTiles (c : ConfigSet) (t slot buf : Nat) (tiles : List Nat) (a : Nat) : Bool :=
  let (w, h) := targetSize c t
  let n := (a - targetBase slot buf) / 8
  decide (targetBase slot buf ≤ a) && decide (n < w * h) && tiles.contains (n / w / 64 * tilesWide c t + n % w / 64)

/-- Tiles of a target composed into one of its buffers; granules whose every byte they hold lose their poison (R344). -/
def writeTiles (c : ConfigSet) (cams : List (Nat × Nat)) (t slot buf : Nat) (tiles : List Nat) (s : State) : State :=
  onMem (fun m0 =>
    let m1 := (tiles.flatMap (tilePixels c t)).foldl
      (fun m p => memStore (targetPixel c t slot buf p.1 p.2) (pxBytes (composePx s c cams t p.1 p.2)) m) m0
    { m1 with poison := m1.poison.filter (fun g =>
        !(List.range 64).all (fun i => inTiles c t slot buf tiles (64 * g + i))) }) s

/-! ### Poisoned sources (Table 13-5) -/

/-- The source pixels that a layer reads for a target pixel. -/
def layerFetch (d : List Byte) (x y : Nat) : List (Nat × Nat) :=
  let u := ((x : Int) - lDx d).toNat
  let v := ((y : Int) - lDy d).toNat
  if lScaler d = 0xFF then [(lSx d + u, lSy d + v)]
  else
    let taps := fun (src0 src dst k : Nat) => (List.range 8).map (fun n : Nat =>
      (clampI src0 ((src0 : Int) + src - 1) ((scalerPos src0 src dst k).1 - 3 + n)).toNat)
    (taps (lSy d) (lSh d) (lDh d) v).flatMap (fun row => (taps (lSx d) (lSw d) (lDw d) u).map (fun col => (col, row)))

/-- Where a layer's source pixels lie, and their size; none while it draws nothing. -/
def layerAddr (s : State) (c : ConfigSet) (cams : List (Nat × Nat)) (l : Nat) : Option ((Nat → Nat → Nat) × Nat) :=
  let d := layerOf c l
  if lIsCam d then
    let port := lSrc d - 1
    if camHidden s c port then none
    else ((cams.lookup l).bind (frameBySeq s port)).map (fun f => (cameraAddr port f, 4))
  else some (surfaceAddr d, fmtBytes (lFmt d))

/-- A layer that occludes a whole tile (R138). -/
def layerOccludes (s : State) (c : ConfigSet) (cams : List (Nat × Nat)) (t k l : Nat) : Bool :=
  let d := layerOf c l
  lOpaque d && decide (lAlpha d = 1023) && !lKey d && (layerAddr s c cams l).isSome &&
  (tilePixels c t k).all (fun p => layerCovers c d p.1 p.2)

/-- The layers of a target that a tile fetches, from the highest that occludes it, and whether it fetches the base. -/
def tileFetches (s : State) (c : ConfigSet) (cams : List (Nat × Nat)) (t k : Nat) : List Nat × Bool :=
  let ls := (enabledLayers c).filter (fun l => lTarget (layerOf c l) == t)
  match ls.reverse.find? (layerOccludes s c cams t k) with
  | some l => (ls.filter (fun n => decide (l ≤ n)), false)
  | none => (ls, t != 64)

/-- A tile reads a poisoned granule of its sources. -/
def tilePoisoned (s : State) (c : ConfigSet) (cams : List (Nat × Nat)) (t k : Nat) : Bool :=
  let (ls, base) := tileFetches s c cams t k
  (tilePixels c t k).any (fun p =>
    (base && memPoisoned s.mem (planeAddr c t p.1 p.2) (fmtBytes (dFmt (planeOf c t)))) ||
    ls.any (fun l => layerCovers c (layerOf c l) p.1 p.2 && (match layerAddr s c cams l with
      | some (at', b) => (layerFetch (layerOf c l) p.1 p.2).any (fun q => memPoisoned s.mem (at' q.1 q.2) b)
      | none => false)))

/-- The tiles that read poisoned granules are changed tiles of the next composition. -/
def markPoisoned (c : ConfigSet) (cams : List (Nat × Nat)) (t : Nat) (tiles : List Nat) (s : State) : State :=
  if s.mem.poison.isEmpty && s.mem.chanFail == 0 then s
  else markTiles t (tiles.filter (tilePoisoned s c cams t)) s

/-! ### Safety regions (R146 to R148) -/

/-- The bytes of a region in a composed buffer. -/
def regionBytes (m : Mem) (c : ConfigSet) (d : List Byte) (slot buf : Nat) : List Byte :=
  (List.range (rH d)).flatMap (fun j => memBytes m (targetPixel c (rTarget d) slot buf (rX d) (rY d + j)) (8 * rW d))

/-- The rows of a region written with given bytes. -/
def regionFill (c : ConfigSet) (d : List Byte) (slot buf : Nat) (row : Nat → List Byte) (m : Mem) : Mem :=
  (List.range (rH d)).foldl (fun m j => memStore (targetPixel c (rTarget d) slot buf (rX d) (rY d + j)) (row j) m) m

/-- The composition that ends serves the frame after the one under way: the frame composition that runs from the latch
angle on, and the one for facet 1, whose pick falls before 0 ATK (Table 6-5). -/
def servesAhead (facet : Nat) (s : State) : Bool :=
  decide (facet ≤ 1) && decide (32768 ≤ atk s) && !s.acc.queuedFrame

/-- The result of a region entered for the frame that its composition serves; its CRC and action stay its last result in
the frames after (R146, R148). -/
def noteSafety (ahead : Bool) (n : Nat) (r : SafetyRes) (a : Acc) : Acc :=
  if ahead then { a with safetyAhead := a.safetyAhead.set n r, safetyNewAhead := true }
  else { a with safety := a.safety.set n r, safetyAhead := a.safetyAhead.set n { r with state := 3 }, safetyNew := true }

/-- One region checked: its CRC, result and action. -/
def checkRegion (c : ConfigSet) (facet slot buf n : Nat) (s : State) : State :=
  let d := regionOf c n
  let v := crc32c (regionBytes s.mem c d slot buf)
  let bad := v.toNat != rExpected d
  let r : SafetyRes := { state := if bad then 2 else 1, crc := v, act := if bad then rAction d % 4 else 0 }
  let a := noteSafety (servesAhead facet s) n r s.acc
  let s1 := { s with acc := { a with
    safetyFailed := if bad then insertNat n s.acc.safetyFailed else s.acc.safetyFailed.filter (· != n) } }
  when bad (fun t => raise 97 (count .safetyMismatch t)) s1

/-- The action of a failed region on the buffer (R147). -/
def regionAct (c : ConfigSet) (slot buf act n : Nat) (s : State) : State :=
  let d := regionOf c n
  if s.acc.safetyFailed.contains n ∧ rAction d = act then
    onMem (fun m => regionFill c d slot buf (fun j =>
      if act = 1 then memBytes s.mem (rFbBase d + j * rFbPitch d) (8 * rW d)
      else (List.replicate (rW d) (pxBytes ⟨0, 0, 0, 1023⟩)).flatten) m) s
  else s

/-- The regions of a target of which a tile has been rewritten. -/
def regionsOver (c : ConfigSet) (t : Nat) (tiles : List Nat) : List Nat :=
  (enabledRegions c).filter (fun n =>
    rTarget (regionOf c n) == t && (regionTiles c (regionOf c n)).any (fun k => tiles.contains k))

/-- The read-back of a target's rewritten regions: every check, then substitutions in order, then blanking. -/
def readBack (c : ConfigSet) (facet t slot buf : Nat) (tiles : List Nat) (s : State) : State :=
  let rs := regionsOver c t tiles
  let s1 := rs.foldl (fun u n => checkRegion c facet slot buf n u) s
  let s2 := rs.foldl (fun u n => regionAct c slot buf 1 n u) s1
  rs.foldl (fun u n => regionAct c slot buf 2 n u) s2

/-! ### The end of a composition (R137, R141) -/

/-- Capture jobs that still read a buffer are abandoned; their thumbnails are incomplete (R524). -/
def dropJobs (t buf : Nat) (s : State) : State :=
  let gone := fun (j : CencJob) => j.buf == some (t, buf) && decide (j.pos < j.input.length)
  let th := (s.sdec.cenc.filter gone).map (fun j =>
    ({ region := j.region, status := 1, rseq := j.sceneId.toNat, offset := j.start, stream := j.out } : ThumbRec))
  { s with sdec := { s.sdec with cenc := s.sdec.cenc.filter (fun j => !gone j), thumbs := s.sdec.thumbs ++ th } }

/-- The camera frames that a composition draws on a target. -/
def drawnCams (comp : Composition) (t : Nat) (s : State) : List (Nat × Nat) :=
  comp.cams.filter (fun e =>
    let d := layerOf comp.set e.1
    (enabledLayers comp.set).contains e.1 && lIsCam d && lTarget d == t && !camHidden s comp.set (lSrc d - 1))

/-- One target of a composition that ends: the union of its own tiles and those of the last composition that swapped is
rewritten, checked, and waits to be swapped in. A buffer that waits already takes these tiles too and keeps the facet it
waits for, and the next composition rewrites what both have. -/
def composeTarget (comp : Composition) (t : Nat) (own : List Nat) (s : State) : State :=
  match tget? s.acc.targets t with
  | none => s
  | some g =>
    let tiles := tileUnion own g.prevTiles
    if tiles.isEmpty then s
    else
      let buf := 1 - g.read
      let s1 := writeTiles comp.set comp.cams t g.slot buf tiles (markPoisoned comp.set comp.cams t tiles (dropJobs t buf s))
      onTarget t (fun x => { x with
        prevTiles := if x.due then tileUnion own x.prevTiles else own
        due := true
        drawn := drawnCams comp t s
        serves := if comp.late then 4 else if x.due then x.serves else comp.facet })
        (readBack comp.set comp.facet t g.slot buf tiles s1)

/-- The queued frame composition starts with the newest frames of its own start (R141). -/
def startQueued (s : State) : State :=
  if s.acc.queuedFrame then
    let old := tget s.acc.facetCams camsNowKey []
    let picks := pickFrames s s.acc.frameCams (camLayers s false)
    let latched := pickFrames s old (camLayers s true)
    let s1 := { s with acc := { s.acc with queuedFrame := false, queuedLate := false, frameCams := picks
                                           facetCams := tset s.acc.facetCams camsNowKey latched } }
    startComp 0 s.acc.queuedLate (picks ++ latched) old
      (markLayers (freshLayers s.acc.frameCams picks ++ freshLayers old latched) s1)
  else s

def compositionEnd (s : State) : State :=
  match s.acc.comp with
  | none => s
  | some c =>
    let s1 := c.tiles.foldl (fun t e => composeTarget c e.1 e.2 t) (applySwaps s)
    startQueued (applySwaps { s1 with acc := { s1.acc with comp := none } })

/-- R137: a composition ends. -/
def execCompositionEnd (atk : Nat) (s : State) : Host.Outcome State Fault Refusal :=
  done (if s.acc.comp.isSome then compositionEnd (angleTo atk s) else s)

/-- The angle of a composition deadline (Table 6-5). -/
def deadlineAtk (j : Nat) : Nat := if j = 0 then 49152 else (j - 1) * 16384

/-- A late composition is counted (R141). -/
def countLate (s : State) : State := raise 96 (count .composeLate s)

/-- The frame composition has not ended at its deadline, or waits still for a late one: no facet of its frame is rendered,
and it swaps as soon as it ends (R141). -/
def frameLate (c : Composition) (s : State) : State :=
  let fresh := c.facet == 0 && !c.late && !s.acc.queuedFrame
  when (fresh || (s.acc.queuedFrame && !s.acc.queuedLate)) countLate { s with acc := { s.acc with
    lateFrame := true
    queuedLate := s.acc.queuedFrame
    comp := some (if fresh then { c with late := true } else c) } }

/-- A facet composition is abandoned: its camera frames wait for the next pick (R141). -/
def facetLate (c : Composition) (s : State) : State :=
  let s1 := abandonComp s
  startQueued (countLate { s1 with acc := { s1.acc with facetCams := tset s1.acc.facetCams camsNowKey c.prev } })

/-- A composition has not ended at its deadline (R141). -/
def compositionDeadline (j : Nat) (s : State) : State :=
  match s.acc.comp with
  | none => if j = 0 then { s with acc := { s.acc with lateFrame := false } } else s
  | some c => if j = 0 then frameLate c s else if c.facet = j then facetLate c s else s

/-- R141: a composition deadline. -/
def execCompositionDeadline (j : Nat) (s : State) : Host.Outcome State Fault Refusal :=
  done (when (decide (j < 4)) (angleFire 4 (deadlineAtk j) (compositionDeadline j)) s)

/-! ### Picks (R140) -/

/-- The angle of a pick (Table 6-5). -/
def pickAtk (j : Nat) : Nat := if j = 0 then 47616 else if j = 1 then 64000 else j * 16384 - 17920

/-- Tiles of layers added to a list of tiles by target. -/
def addTiles (c : ConfigSet) (ls : List Nat) (tiles : Table (List Nat)) : Table (List Nat) :=
  ls.foldl (fun acc l =>
    let t := lTarget (layerOf c l)
    tset acc t (tileUnion (tget acc t []) (layerTiles c (layerOf c l)))) tiles

/-- The facet-latched layers take the newest frames of their ports (R140). -/
def facetPick (j : Nat) (s : State) : State :=
  if s.cond.coast then s
  else
    let running := (s.acc.comp.map (fun c => c.facet == 0)).getD false
    let late := (s.acc.comp.map (·.late)).getD false
    if running && (j != 0 || late) then s
    else
      let old := tget s.acc.facetCams camsNowKey []
      let picks := pickFrames s old (camLayers s true)
      let fresh := freshLayers old picks
      let s1 := { s with acc := { s.acc with facetCams := tset s.acc.facetCams camsNowKey picks } }
      if fresh.isEmpty then s1
      else
        let c := s1.cfg.active
        match running, s1.acc.comp with
        | true, some k =>
          { s1 with acc := { s1.acc with comp := some { k with tiles := addTiles c fresh k.tiles, cams := camsNow s1 } } }
        | _, _ =>
          let s2 := markLayers fresh (abandonComp s1)
          startComp j false (camsNow s2) old s2

/-- R140: the pick of a facet. -/
def execFacetPick (j : Nat) (s : State) : Host.Outcome State Fault Refusal :=
  done (when (decide (j < 4)) (angleFire 3 (pickAtk j) (facetPick j)) s)

/-! ### Camera ports (R127 to R130) -/

def pLanes (p : CamPort) : Nat := p.params.getD 0 0
def pVc (p : CamPort) : Nat := p.params.getD 2 0
def pDt (p : CamPort) : Nat := p.params.getD 3 0
def pW (p : CamPort) : Nat := p.params.getD 4 0
def pH (p : CamPort) : Nat := p.params.getD 5 0
def pMatrix (p : CamPort) : Nat := p.params.getD 6 0

/-- The damaged and dropped counters of a port. -/
def camDamagedCtr (n : Nat) : Ctr := [Ctr.camDamaged0, .camDamaged1, .camDamaged2, .camDamaged3].getD n .camDamaged0
def camDroppedCtr (n : Nat) : Ctr := [Ctr.camDropped0, .camDropped1, .camDropped2, .camDropped3].getD n .camDropped0

/-- A damaged frame is counted and raises source 98. -/
def camDamaged (n : Nat) (s : State) : State := raise 98 (count (camDamagedCtr n) s)

/-- A ring buffer for the next frame: one that neither the newest frame nor a frame shown lies in. -/
def freeBuf (s : State) (n : Nat) (p : CamPort) : Nat :=
  let busy := (p.frames.head?.map (·.buf)).toList ++ (keptFrames s n p).map (·.buf)
  ((List.range 4).find? (fun b => !busy.contains b)).getD 0

/-- The newest complete frame gets its number and time stamp (R128). -/
def camComplete (n : Nat) (s : State) : State :=
  let p := s.acc.ports.getD n {}
  match p.rx with
  | some r =>
    if r.ended then
      let seq := (p.nextSeq + 1) % 2 ^ 32
      let f : CamFrame := { buf := r.buf, seq := seq, time := stampTime s, w := pW p, h := pH p, fmt10 := r.fmt10 }
      let s1 := onPort n (fun q => { q with
        rx := none, nextSeq := seq, stale := false, good := true
        frames := f :: (keptFrames s n q).filter (fun g => g.buf != r.buf) }) s
      raiseIf (!p.good) 101 s1
    else s
  | none => s

/-- R128: the last byte of a frame is written. -/
def execCamFrameComplete (port : Nat) (s : State) : Host.Outcome State Fault Refusal :=
  done (if (s.acc.ports.getD port {}).receiving then camComplete port s else s)

/-- A Frame Start: a frame whose Frame End is missing is damaged (R128). -/
def camFrameStart (n : Nat) (h : CamHdr) (s : State) : State :=
  let s0 := camComplete n s
  let p := s0.acc.ports.getD n {}
  if h.ok && h.vc != pVc p then count (camDroppedCtr n) s0
  else
    let s1 := when p.rx.isSome (camDamaged n) s0
    onPort n (fun q => { q with rx := some { lines := 0, damaged := !h.ok, ended := false, buf := freeBuf s1 n q
                                             fmt10 := pDt q == 0x1F } }) s1

def execCamFrameStartPacket (port : Nat) (h : CamHdr) (s : State) : Host.Outcome State Fault Refusal :=
  done (if (s.acc.ports.getD port {}).receiving then camFrameStart port h s else s)

/-- Payload bytes of a line (Table 6-3; the packings are those of CSI-2). -/
def lineBytes (dt w : Nat) : Nat := if dt = 0x1E then 2 * w else if dt = 0x1F then (5 * w + 1) / 2 else 3 * w

/-- Weights of red and blue in luma, in ten-thousandths, by CAM_MATRIX. -/
def lumaWeights (matrix : Nat) : Nat × Nat := if matrix % 2 = 0 then (2990, 1140) else (2126, 722)

/-- One pixel converted from YUV by CAM_MATRIX, exact and rounded to nearest, halves upward, then held to the range of
`n` bits (R128). -/
def yuvToRgb (matrix n : Nat) (y u v : Nat) : Nat × Nat × Nat :=
  let (kr, kb) := lumaWeights matrix
  let kg := 10000 - kr - kb
  let z := 2 ^ (n - 8)
  let top := 2 ^ n - 1
  let lim := decide (matrix < 2)
  let yd := if lim then 219 * z else top
  let cd := if lim then 224 * z else top
  let y0 : Int := (y : Int) - (if lim then ((16 * z : Nat) : Int) else 0)
  let cu : Int := (u : Int) - ((2 ^ (n - 1) : Nat) : Int)
  let cv : Int := (v : Int) - ((2 ^ (n - 1) : Nat) : Int)
  let den := 10000 * kg * yd * cd
  let lum : Int := y0 * ((top * 10000 * kg * cd : Nat) : Int)
  let r := lum + cv * ((2 * (10000 - kr) * kg * top * yd : Nat) : Int)
  let b := lum + cu * ((2 * (10000 - kb) * kg * top * yd : Nat) : Int)
  let g := lum - cu * ((2 * kb * (10000 - kb) * top * yd : Nat) : Int) - cv * ((2 * kr * (10000 - kr) * top * yd : Nat) : Int)
  let fit := fun x : Int => (clampI 0 top (roundDiv x den)).toNat
  (fit r, fit g, fit b)

/-- Component `k` (U, Y0, V, Y1) of pair `i` of a line. DESIGN CHOICE (log 74): with an odd CAM_WIDTH the V of the last
pixel, and the low bits of its 10-bit components, lie past the payload and read as 0. -/
def yuvComp (dt : Nat) (bs : List Byte) (i k : Nat) : Nat :=
  if dt = 0x1E then byteAt bs (4 * i + k) else 4 * byteAt bs (5 * i + k) + byteAt bs (5 * i + 4) / 4 ^ k % 4

/-- The stored word of pixel `x` of a line (R128). -/
def camPixel (dt matrix : Nat) (bs : List Byte) (x : Nat) : Nat :=
  if dt = 0x24 then
    byteAt bs (3 * x + 2) + byteAt bs (3 * x + 1) * 2 ^ 8 + byteAt bs (3 * x) * 2 ^ 16 + 255 * 2 ^ 24
  else
    let i := x / 2
    let n := if dt = 0x1F then 10 else 8
    let (r, g, b) := yuvToRgb matrix n (yuvComp dt bs i (1 + 2 * (x % 2))) (yuvComp dt bs i 0) (yuvComp dt bs i 2)
    if dt = 0x1F then r + g * 2 ^ 10 + b * 2 ^ 20 + 3 * 2 ^ 30 else r + g * 2 ^ 8 + b * 2 ^ 16 + 255 * 2 ^ 24

/-- A line converted and written, unless its length or place damages the frame (R128). -/
def camLine (n : Nat) (crcOk : Bool) (payload : List Byte) (r : CamRx) (s : State) : State :=
  let p := s.acc.ports.getD n {}
  let good := crcOk && payload.length == lineBytes (pDt p) (pW p) && decide (r.lines < pH p) && s.mem.changing.isNone
  let s1 := onPort n (fun q => { q with rx := some { r with lines := r.lines + 1, damaged := r.damaged || !good } }) s
  if good then
    onMem (memStore (camBase n r.buf + 4 * r.lines * pW p)
      ((List.range (pW p)).flatMap (fun x => leBytes 4 (camPixel (pDt p) (pMatrix p) payload x)))) s1
  else s1

/-- A long packet. -/
def camLong (n : Nat) (h : CamHdr) (crcOk : Bool) (payload : List Byte) (s : State) : State :=
  let p := s.acc.ports.getD n {}
  if h.ok && (h.vc != pVc p || h.dt != pDt p) then count (camDroppedCtr n) s
  else match p.rx with
    | none => s
    | some r =>
      if r.ended then s
      else if h.ok then camLine n crcOk payload r s
      else onPort n (fun q => { q with rx := some { r with damaged := true } }) s

def execCamLongPacket (port : Nat) (h : CamHdr) (crcOk : Bool) (payload : List Byte) (s : State) :
    Host.Outcome State Fault Refusal :=
  done (if (s.acc.ports.getD port {}).receiving then camLong port h crcOk payload s else s)

/-- A Frame End: the frame is judged (R128). -/
def camFrameEnd (n : Nat) (h : CamHdr) (s : State) : State :=
  let p := s.acc.ports.getD n {}
  if h.ok && h.vc != pVc p then count (camDroppedCtr n) s
  else match p.rx with
    | none => s
    | some r =>
      if r.ended then s
      else if r.damaged || !h.ok || r.lines != pH p then camDamaged n (onPort n (fun q => { q with rx := none }) s)
      else onPort n (fun q => { q with rx := some { r with ended := true } }) s

def execCamFrameEndPacket (port : Nat) (h : CamHdr) (s : State) : Host.Outcome State Fault Refusal :=
  done (if (s.acc.ports.getD port {}).receiving then camFrameEnd port h s else s)

/-- A port is stale: where its layers draw nothing from now on, their tiles are changed (R130, log 30). -/
def camGoesStale (n : Nat) (s : State) : State :=
  let hidden := (enabledLayers s.cfg.active).filter (fun l => lSrc (layerOf s.cfg.active l) == n + 1)
  when (setParam s.cfg.active 0x2101 == 1) (markLayers hidden)
    (onPort n (fun q => { q with stale := true, staleFrame := true }) s)

/-- R130: no good frame for CAM_STALE_MS. -/
def execCamStale (port : Nat) (s : State) : Host.Outcome State Fault Refusal :=
  done (if (s.acc.ports.getD port {}).receiving then camGoesStale port s else s)

/-! ### Staging (R124, R135, R145) -/

/-- A change of the draft set. -/
def onDraft (f : ConfigSet → ConfigSet) (s : State) : State := { s with cfg := { s.cfg with draft := f s.cfg.draft } }

/-- LAYER_DEFINE: every definition counts, even one that changes no field (R137). -/
def startLayerDefine (tag : Nat) (p : Pkt) (s : State) : State :=
  let l := pf p 0x14 1
  let d := padTo 48 (pdata s p)
  finishSt tag St.ok (onDraft (fun c => { c with layers := descPut c.layers l d
                                                 layerSeq := tset c.layerSeq l (tget c.layerSeq l 0 + 1) }) s)

def execLayerDefine (p : Pkt) (s : State) : Host.Outcome State Fault Refusal := done (submit 0x0301 p startLayerDefine s)

/-- SAFETY_DEFINE (R145). -/
def startSafetyDefine (tag : Nat) (p : Pkt) (s : State) : State :=
  finishSt tag St.ok (onDraft (fun c => { c with safety := descPut c.safety (pf p 0x14 1) (pbytes p 0x18 32) }) s)

def execSafetyDefine (p : Pkt) (s : State) : Host.Outcome State Fault Refusal := done (submit 0x0302 p startSafetyDefine s)

/-- The entries of a table of u16. -/
def u16s (bs : List Byte) (n : Nat) : List Nat := (List.range n).map (fun i => field bs (2 * i) 2)

/-- SCALER_COEFF (R135). -/
def startScalerCoeff (tag : Nat) (p : Pkt) (s : State) : State :=
  let bs := pdata s p
  let taps := (u16s bs 512).map (sext 16)
  if bs.length ≠ 1024 then finishSt tag St.lutFormat s
  else if taps.any (fun t => decide (t < -2048) || decide (2047 < t)) then finishSt tag St.lutRange s
  else finishSt tag St.ok (onDraft (fun c => { c with scalers := tset c.scalers (pf p 0x14 1) taps }) s)

def execScalerCoeff (p : Pkt) (s : State) : Host.Outcome State Fault Refusal := done (submit 0x0303 p startScalerCoeff s)

/-! ### Registers (Tables 6-10 and 6-11) -/

/-- ACC_CAM_STALE. -/
def camStaleReg (s : State) : Nat :=
  ((List.range 4).map (fun n => bit (s.acc.ports.getD n {}).stale n + bit (s.acc.ports.getD n {}).receiving (4 + n))).sum

def accReg (s : State) (off : Nat) : Nat :=
  if off = 0x000 then ctrReg s .composeLate
  else if off = 0x004 then ctrReg s .safetyMismatch
  else if 0x010 ≤ off ∧ off ≤ 0x01C then ctrReg s (camDamagedCtr ((off - 0x010) / 4))
  else if 0x020 ≤ off ∧ off ≤ 0x02C then ctrReg s (camDroppedCtr ((off - 0x020) / 4))
  else if off = 0x030 then camStaleReg s
  else 0

end Sys2Proof.Machine
end

