-- ==== Sys2Proof/Machine/Nzb.lean ====
section
/-! DEFINITION. The Nymzeder block format: headers, the compressed bitstream, its decoder, and the Capture Encoder's
encoder (chapters 4 and 5). -/
namespace Sys2Proof.Machine

/-! ### Headers (R76 to R78) -/

def nzMagic (h : List Byte) : Nat := field h 0 2
def nzFlags (h : List Byte) : Nat := byteAt h 3
def nzRaw (h : List Byte) : Bool := (nzFlags h).testBit 0
def nzLast (h : List Byte) : Bool := (nzFlags h).testBit 1
def nzUlen (h : List Byte) : Nat := field h 4 4
def nzPlen (h : List Byte) : Nat := field h 8 4
def nzDcheck (h : List Byte) : Nat := field h 0x0C 4
def nzScene (h : List Byte) : Nat := field h 0x10 4
def nzPlane (h : List Byte) : Nat := field h 0x14 2
def nzBlock (h : List Byte) : Nat := field h 0x16 2
def nzDest (h : List Byte) : Nat := field h 0x18 4
def nzHcheck (h : List Byte) : Nat := field h 0x1C 4

/-- A header is well formed (R78). -/
def nzWellFormed (h : List Byte) : Bool :=
  nzMagic h == 0x4E5A && byteAt h 2 == 1 && decide (nzFlags h < 4) && decide (1 ≤ nzUlen h) &&
  decide (nzUlen h ≤ 262144) &&
  (if nzRaw h then nzPlen h == nzUlen h else decide (1 ≤ nzPlen h) && decide (nzPlen h ≤ 262144))

/-! ### Reading bits (R81) -/

/-- The bits of a payload in reading order. -/
def payloadBits (bs : List Byte) : List Bool := bs.flatMap (fun b => (List.range 8).map (fun i => b.getLsbD i))

/-- A number of `n` bits, least significant first, and the bits after it; none past the last bit. -/
def readBits : Nat → List Bool → Option (Nat × List Bool)
  | 0, bs => some (0, bs)
  | _ + 1, [] => none
  | n + 1, b :: bs => (readBits n bs).map (fun r => (bit b 0 + 2 * r.1, r.2))

/-! ### Canonical codes (R85, R86) -/

/-- Symbols of one code length, ascending. -/
def symbolsOf (lens : List Nat) (l : Nat) : List Nat := (List.range lens.length).filter (fun i => lens.getD i 0 == l)

/-- A code: its symbols of lengths 1 to the maximum. -/
def codeOf (maxlen : Nat) (lens : List Nat) : List (List Nat) := (List.range maxlen).map (fun l => symbolsOf lens (l + 1))

/-- The Kraft sum of R86. -/
def kraft (maxlen : Nat) (lens : List Nat) : Nat := (lens.map (fun l => if l = 0 then 0 else 2 ^ (maxlen - l))).sum

/-- The lengths that are not 0. -/
def usedLens (lens : List Nat) : List Nat := lens.filter (· != 0)

def preValid (lens : List Nat) : Bool := kraft 7 lens == 128 || usedLens lens == [1]
def litValid (lens : List Nat) : Bool := lens.getD 256 0 != 0 && kraft 15 lens == 32768
def distValid (lens : List Nat) : Bool :=
  (usedLens lens).isEmpty || usedLens lens == [1] || kraft 15 lens == 32768

/-- A symbol read with a code: the status of what fails, or the symbol and the bits after it. `code` is what has been
read of this length, `first` the first code of this length. -/
def readSym : List (List Nat) → Nat → Nat → List Bool → Except Nat (Nat × List Bool)
  | [], _, _, _ => .error St.nzIllegalCode
  | syms :: rest, code, first, bs =>
    if syms.isEmpty && rest.all List.isEmpty then .error St.nzIllegalCode
    else match bs with
      | [] => .error St.nzTruncated
      | b :: bs' =>
        let c := 2 * code + bit b 0
        if c < first + syms.length then .ok (syms.getD (c - first) 0, bs')
        else readSym rest c (2 * (first + syms.length)) bs'

/-! ### The tables of a payload (R82 to R84) -/

/-- The order in which the pre-code lengths are sent. -/
def preOrder : List Nat := [15, 14, 0, 8, 7, 9, 6, 10, 5, 11, 4, 12, 3, 13, 2, 1]

/-- The pre-code lengths, in symbol order. -/
def preLens (sent : List Nat) : List Nat := (List.range 16).map (fun s => sent.getD (preOrder.idxOf s) 0)

/-- `n` lengths of 3 bits. -/
def readPre : Nat → List Bool → Option (List Nat × List Bool)
  | 0, bs => some ([], bs)
  | n + 1, bs => match readBits 3 bs with
    | none => none
    | some (v, bs1) => (readPre n bs1).map (fun r => (v :: r.1, r.2))

/-- The code-length sequence, newest first, up to `total` lengths (R84). -/
def readLens (pre : List (List Nat)) (total : Nat) : Nat → List Nat → List Bool → Except Nat (List Nat × List Bool)
  | 0, acc, bs => .ok (acc, bs)
  | fuel + 1, acc, bs =>
    if total ≤ acc.length then .ok (acc, bs)
    else match readSym pre 0 0 bs with
      | .error e => .error e
      | .ok (sym, bs1) =>
        if sym ≤ 12 then readLens pre total fuel (sym :: acc) bs1
        else if sym = 13 then
          match readBits 2 bs1 with
          | none => .error St.nzTruncated
          | some (v, bs2) =>
            if v = 3 then .error St.nzTableBad else readLens pre total fuel ((13 + v) :: acc) bs2
        else if sym = 14 ∧ acc = [] then .error St.nzTableBad
        else
          match readBits (if sym = 14 then 3 else 7) bs1 with
          | none => .error St.nzTruncated
          | some (v, bs2) =>
            if total < acc.length + 3 + v then .error St.nzTableBad
            else readLens pre total fuel (List.replicate (3 + v) (if sym = 14 then acc.headD 0 else 0) ++ acc) bs2

/-- The literal/length code, the distance code and the data bits of a payload. -/
def readTables (bs : List Bool) : Except Nat (List (List Nat) × List (List Nat) × List Bool) :=
  match readBits 5 bs with
  | none => .error St.nzTruncated
  | some (hlit, bs1) => match readBits 5 bs1 with
    | none => .error St.nzTruncated
    | some (hdist, bs2) => match readBits 4 bs2 with
      | none => .error St.nzTruncated
      | some (hpre, bs3) =>
        if 29 < hdist then .error St.nzTableBad
        else match readPre (1 + hpre) bs3 with
          | none => .error St.nzTruncated
          | some (sent, bs4) =>
            let pl := preLens sent
            if !preValid pl then .error St.nzTableBad
            else
              let total := 257 + hlit + 1 + hdist
              match readLens (codeOf 7 pl) total total [] bs4 with
              | .error e => .error e
              | .ok (rev, bs5) =>
                let all := rev.reverse
                let lit := all.take (257 + hlit)
                let dist := all.drop (257 + hlit)
                if !litValid lit || !distValid dist then .error St.nzTableBad
                else .ok (codeOf 15 lit, codeOf 15 dist, bs5)

/-! ### Matches (R87 to R90) -/

/-- Base and extra bits of a length code (Table 4-5). -/
def lenCode (c : Nat) : Nat × Nat :=
  if c ≤ 264 then (c - 253, 0)
  else if c ≤ 268 then (12 + 2 * (c - 265), 1)
  else if c ≤ 272 then (20 + 4 * (c - 269), 2)
  else if c ≤ 276 then (36 + 8 * (c - 273), 3)
  else if c ≤ 280 then (68 + 16 * (c - 277), 4)
  else if c ≤ 284 then (132 + 32 * (c - 281), 5)
  else (260 + 256 * (c - 285), 8)

/-- Base and extra bits of a distance code (Table 4-6). -/
def distCode (c : Nat) : Nat × Nat :=
  if c ≤ 2 then (c + 1, 0)
  else if c ≤ 28 then
    let e := (c - 1) / 2
    (2 ^ (e + 1) + (c - 1) % 2 * 2 ^ e, e)
  else (32768, 15)

/-- A match copied byte by byte onto output kept newest first (R89). -/
def copyMatch (d : Nat) : Nat → List Byte → List Byte
  | 0, out => out
  | n + 1, out => copyMatch d n (out.getD (d - 1) 0 :: out)

/-- A match: the length code's extra bits, the distance, the copy. -/
def readMatch (dist : List (List Nat)) (ulen sym k : Nat) (out : List Byte) (bs : List Bool) :
    Except Nat (Nat × List Byte × List Bool) :=
  let lc := lenCode sym
  match readBits lc.2 bs with
  | none => .error St.nzTruncated
  | some (x, bs1) => match readSym dist 0 0 bs1 with
    | .error e => .error e
    | .ok (c, bs2) =>
      let dc := distCode c
      match readBits dc.2 bs2 with
      | none => .error St.nzTruncated
      | some (y, bs3) =>
        let len := lc.1 + x
        let d := dc.1 + y
        if k < d then .error St.nzDistBeyond
        else if ulen < k + len then .error St.nzLenOverrun
        else .ok (k + len, copyMatch d len out, bs3)

/-- The data of a payload: its status and the bytes produced, newest first (R90). -/
def readData (lit dist : List (List Nat)) (ulen : Nat) : Nat → Nat → List Byte → List Bool → Nat × List Byte
  | 0, _, out, _ => (St.nzLenOverrun, out)
  | fuel + 1, k, out, bs =>
    match readSym lit 0 0 bs with
    | .error e => (e, out)
    | .ok (sym, bs1) =>
      if sym < 256 then
        (if ulen < k + 1 then (St.nzLenOverrun, out)
         else readData lit dist ulen fuel (k + 1) (BitVec.ofNat 8 sym :: out) bs1)
      else if sym = 256 then
        (if k ≠ ulen then (St.nzLenOverrun, out) else if 8 ≤ bs1.length then (St.nzHdrField, out) else (St.ok, out))
      else match readMatch dist ulen sym k out bs1 with
        | .error e => (e, out)
        | .ok (k', out', bs2) => readData lit dist ulen fuel k' out' bs2

/-- Checks 7 to 11 of a payload: the status, and the bytes produced (R91). -/
def nzDecode (raw : Bool) (ulen : Nat) (payload : List Byte) : Nat × List Byte :=
  if raw then (St.ok, payload.take ulen)
  else match readTables (payloadBits payload) with
    | .error e => (e, [])
    | .ok (lit, dist, bs) =>
      let r := readData lit dist ulen (ulen + 1) 0 [] bs
      (r.1, r.2.reverse)

/-! ### The match search of the Capture Encoder (R113) -/

/-- A symbol of the data: a literal, or a match with its length and distance. -/
inductive NzTok where
  | lit (b : Byte)
  | mat (len dist : Nat)
  deriving DecidableEq, Repr

/-- The hash chains: heads and links, one more than the position, 0 where none is set. -/
structure NzChains where
  head : Array Nat
  prev : Array Nat

/-- The settings of a job that the search uses. -/
structure NzSet where
  chain : Nat
  nice : Nat
  lazy : Bool
  deriving DecidableEq, Repr

def nzAt (a : Array Byte) (i : Nat) : Nat := (a.getD i 0).toNat

def nzHash (a : Array Byte) (p : Nat) : Nat :=
  (nzAt a p + 256 * nzAt a (p + 1) + 65536 * nzAt a (p + 2) + 16777216 * nzAt a (p + 3)) * 0x9E3779B1 % 2 ^ 32 / 2 ^ 17

def nzInsert (a : Array Byte) (c : NzChains) (p : Nat) : NzChains :=
  let h := nzHash a p
  { head := c.head.setIfInBounds h (p + 1), prev := c.prev.setIfInBounds (p % 65536) (c.head.getD h 0) }

/-- Bytes equal at two positions, at most `n`. -/
def nzEqual (a : Array Byte) : Nat → Nat → Nat → Nat
  | 0, _, _ => 0
  | n + 1, i, j => if nzAt a i = nzAt a j then nzEqual a n (i + 1) (j + 1) + 1 else 0

/-- The chain walk from a candidate. -/
def nzWalk (a : Array Byte) (c : NzChains) (nice p : Nat) : Nat → Nat → Nat → Nat → Nat × Nat
  | 0, _, best, dist => (best, dist)
  | tries + 1, cand1, best, dist =>
    if cand1 = 0 ∨ 65535 < p - (cand1 - 1) then (best, dist)
    else
      let cand := cand1 - 1
      let len := nzEqual a (min 1027 (a.size - p)) cand p
      let r := if best < len then (len, p - cand) else (best, dist)
      if nice ≤ r.1 then r else nzWalk a c nice p tries (c.prev.getD (cand % 65536) 0) r.1 r.2

def nzLongest (a : Array Byte) (c : NzChains) (q : NzSet) (p : Nat) : Nat × Nat :=
  nzWalk a c q.nice p q.chain (c.head.getD (nzHash a p) 0) 3 0

/-- Positions inserted after a match. -/
def nzInserts (a : Array Byte) : Nat → Nat → NzChains → NzChains
  | 0, _, c => c
  | n + 1, p, c => nzInserts a n (p + 1) (if p + 4 ≤ a.size then nzInsert a c p else c)

/-- The symbols of a block from a position on, newest first. -/
def nzParse (a : Array Byte) (q : NzSet) : Nat → Nat → NzChains → List NzTok → List NzTok
  | 0, _, _, acc => acc
  | fuel + 1, p, c, acc =>
    if a.size ≤ p then acc
    else if a.size - p < 4 then nzParse a q fuel (p + 1) c (.lit (a.getD p 0) :: acc)
    else
      let m := nzLongest a c q p
      let c1 := nzInsert a c p
      let waits := 4 ≤ m.1 && q.lazy && 5 ≤ a.size - p && decide (m.1 < (nzLongest a c1 q (p + 1)).1)
      if waits || decide (m.1 < 4) then nzParse a q fuel (p + 1) c1 (.lit (a.getD p 0) :: acc)
      else nzParse a q fuel (p + m.1) (nzInserts a (m.1 - 1) (p + 1) c1) (.mat m.1 m.2 :: acc)

/-- The symbols of a block. -/
def nzTokens (q : NzSet) (bs : List Byte) : List NzTok :=
  let a := bs.toArray
  (nzParse a q bs.length 0 { head := Array.replicate 32768 0, prev := Array.replicate 65536 0 } []).reverse

/-! ### The codes of a block (R114) -/

/-- The length code of a match length. -/
def lenSym (l : Nat) : Nat :=
  (((List.range 31).map (· + 257)).find? (fun c => (lenCode c).1 ≤ l && l < (lenCode c).1 + 2 ^ (lenCode c).2)).getD 257

/-- The distance code of a distance. -/
def distSym (d : Nat) : Nat :=
  ((List.range 30).find? (fun c => (distCode c).1 ≤ d && d < (distCode c).1 + 2 ^ (distCode c).2)).getD 0

/-- One symbol counted. -/
def bump (t : List Nat) (i : Nat) : List Nat := t.set i (t.getD i 0 + 1)

/-- Symbol frequencies of the two alphabets, the end-of-block code included. -/
def nzFreqs (ts : List NzTok) : List Nat × List Nat :=
  ts.foldl (fun f t => match t with
    | .lit b => (bump f.1 b.toNat, f.2)
    | .mat l d => (bump f.1 (lenSym l), bump f.2 (distSym d)))
    (bump (List.replicate 288 0) 256, List.replicate 30 0)

/-- A symbol, or several taken together, with its frequency: what the building of a length-limited code sorts. -/
abbrev CodeItem := Nat × List Nat

/-- Two sorted lists of items in one, as far as `fuel` goes. -/
def mergeItems : Nat → List CodeItem → List CodeItem → List CodeItem
  | 0, a, b => a ++ b
  | _ + 1, [], b => b
  | _ + 1, a, [] => a
  | n + 1, x :: a, y :: b => if x.1 ≤ y.1 then x :: mergeItems n a (y :: b) else y :: mergeItems n (x :: a) b

/-- Neighbours of a list taken together by twos; an item left over is dropped. -/
def pairItems : List CodeItem → List CodeItem
  | x :: y :: l => (x.1 + y.1, x.2 ++ y.2) :: pairItems l
  | _ => []

/-- The used symbols by rising frequency. -/
def codeLeaves (freq : List Nat) : List CodeItem :=
  (List.range freq.length).foldl (fun l i =>
    if freq.getD i 0 = 0 then l else mergeItems (l.length + 1) l [(freq.getD i 0, [i])]) []

/-- The items of one level: the symbols, and the pairs of the level below it. -/
def codeLevel (leaves : List CodeItem) : Nat → List CodeItem
  | 0 => []
  | n + 1 => mergeItems (2 * leaves.length) leaves (pairItems (codeLevel leaves n))

/-- Lengths of least total size under a limit, for two symbols or more: a symbol's length is how often it stands in the
cheapest `2 n - 2` items of the top level. -/
def limitedLens (limit : Nat) (freq : List Nat) : List Nat :=
  let leaves := codeLeaves freq
  let all := ((codeLevel leaves limit).take (2 * leaves.length - 2)).flatMap (·.2)
  (List.range freq.length).map all.count

/-- Bits that code lengths spend on symbols of given frequencies. -/
def codeCost (freq lens : List Nat) : Nat := (List.zipWith (· * ·) freq lens).sum

/-- Lengths are those of a length-limited Huffman code for the frequencies (R114, R86): exactly the used symbols have a
code, no length passes the limit, the code is complete, and no such code is smaller. -/
def isHuffman (limit : Nat) (freq lens : List Nat) : Bool :=
  lens.length == freq.length && (List.zipWith (fun f l => (f == 0) == (l == 0) && decide (l ≤ limit)) freq lens).all id &&
  kraft limit lens == 2 ^ limit && codeCost freq lens == codeCost freq (limitedLens limit freq)

/-- Code lengths for frequencies (R114): one symbol alone has length 1; otherwise a length-limited Huffman code, and
which of those of the same size is left open (log 2). -/
def nzLengths (limit : Nat) (freq : List Nat) : List Nat :=
  let open' := Config.huffmanLengths limit freq
  if (usedLens freq).length ≤ 1 then freq.map (fun f => if f = 0 then 0 else 1)
  else if isHuffman limit freq open' then open' else limitedLens limit freq

/-- The bits of a number, least significant first. -/
def numBits (n v : Nat) : List Bool := (List.range n).map (fun i => v.testBit i)

/-- The first code of each length of a canonical code. -/
def firstCode (lens : List Nat) : Nat → Nat
  | 0 => 0
  | l + 1 => 2 * (firstCode lens l + (if l = 0 then 0 else (symbolsOf lens l).length))

/-- The code of a symbol, most significant bit first (R85). -/
def symBits (lens : List Nat) (sym : Nat) : List Bool :=
  let l := lens.getD sym 0
  (numBits l (firstCode lens l + (symbolsOf lens l).idxOf sym)).reverse

/-- A run of equal code lengths as pre-code symbols with their extra bits: symbol 14 after the first of a run of
lengths, symbol 15 for zeros, the longest repeats first. -/
def runSyms (v : Nat) : Nat → Nat → List (Nat × Nat × Nat)
  | 0, _ => []
  | fuel + 1, n =>
    let lo := if v = 0 then 130 else 10
    if n = 0 then []
    else if n < 3 then List.replicate n (if v ≤ 12 then (v, 0, 0) else (13, 2, v - 13))
    else (if v = 0 then (15, 7, min n lo - 3) else (14, 3, min n lo - 3)) :: runSyms v fuel (n - min n lo)

/-- Runs of a list: each value with its count. -/
def runLengths : List Nat → List (Nat × Nat)
  | [] => []
  | v :: l => match runLengths l with
    | (w, n) :: r => if w = v then (w, n + 1) :: r else (v, 1) :: (w, n) :: r
    | [] => [(v, 1)]

/-- The code-length sequence in pre-code symbols. -/
def seqSyms (lens : List Nat) : List (Nat × Nat × Nat) :=
  (runLengths lens).flatMap (fun r =>
    if r.1 = 0 then runSyms 0 r.2 r.2
    else (if r.1 ≤ 12 then (r.1, 0, 0) else (13, 2, r.1 - 13)) :: runSyms r.1 r.2 (r.2 - 1))

/-- Lengths up to the last that is not 0, at least `lo` of them. -/
def trimLens (lo : Nat) (lens : List Nat) : List Nat :=
  lens.take (max lo ((List.range lens.length).foldl (fun m i => if lens.getD i 0 = 0 then m else i + 1) 0))

/-- The bits of one symbol of the data. -/
def tokBits (lit dist : List Nat) (t : NzTok) : List Bool :=
  match t with
  | .lit b => symBits lit b.toNat
  | .mat l d =>
    let lc := lenSym l
    let dc := distSym d
    symBits lit lc ++ numBits (lenCode lc).2 (l - (lenCode lc).1) ++
    symBits dist dc ++ numBits (distCode dc).2 (d - (distCode dc).1)

/-- Bits packed into bytes, `n` of them. -/
def packBits : Nat → List Bool → List Byte
  | 0, _ => []
  | n + 1, bs => BitVec.ofNat 8 (((bs.take 8).zipIdx.map (fun e => bit e.1 e.2)).sum) :: packBits n (bs.drop 8)

/-- The compressed payload of a block (R82, R114). -/
def nzEncode (q : NzSet) (bs : List Byte) : List Byte :=
  let ts := nzTokens q bs
  let f := nzFreqs ts
  let lit := trimLens 257 (nzLengths 15 f.1)
  let dist := trimLens 1 (nzLengths 15 f.2)
  let seq := seqSyms (lit ++ dist)
  let pre := nzLengths 7 (seq.foldl (fun t e => bump t e.1) (List.replicate 16 0))
  let sent := trimLens 1 (preOrder.map (fun s => pre.getD s 0))
  let out := numBits 5 (lit.length - 257) ++ numBits 5 (dist.length - 1) ++ numBits 4 (sent.length - 1) ++
    sent.flatMap (numBits 3) ++ seq.flatMap (fun e => symBits pre e.1 ++ numBits e.2.1 e.2.2) ++
    ts.flatMap (tokBits lit dist) ++ symBits lit 256
  packBits ((out.length + 7) / 8) out

/-- The verify decoder and the Check-Value Unit pass a compressed payload (R116): checks 7 to 11 hold, and the CRC-32C of
what it decodes to is the DCHECK of the data. -/
def nzVerified (data payload : List Byte) : Bool :=
  let (st, out) := nzDecode false data.length payload
  st == St.ok && crc32c out == crc32c data

/-- A block of a capture job: header and payload (R112, R117). -/
def nzBlockBytes (raw lastB : Bool) (sceneId : Word) (plane block dest : Nat) (data payload : List Byte) : List Byte :=
  let h := leBytes 2 0x4E5A ++ [0x01] ++ leBytes 1 (bit raw 0 + bit lastB 1) ++ leBytes 4 data.length ++
    leBytes 4 payload.length ++ leBytes 4 (crc32c data).toNat ++ leBytes 4 sceneId.toNat ++ leBytes 2 plane ++
    leBytes 2 block ++ leBytes 4 dest
  h ++ leBytes 4 (crc32c h).toNat ++ payload

end Sys2Proof.Machine
end

