-- ==== Sys2Proof/Machine/Sdec.lean ====
section
/-! DEFINITION. The scene commands, the Scene Decoder and carry-forward (chapters 3 and 5). -/
namespace Sys2Proof.Machine

/-! ### COMMIT (R23 to R25) -/

/-- COMMIT: its commit point comes as it starts; while an entry sequence runs it is busy (R415). -/
def startCommit (tag : Nat) (p : Pkt) (s : State) : State :=
  if s.cond.seq.isSome && p.path != 18 then finishSt tag St.modeBusy s else commitNow tag p.path s

def execCommit (p : Pkt) (s : State) : Host.Outcome State Fault Refusal := done (submit 0x0103 p startCommit s)

/-! ### Planes, notes and the cache (R63, R67 to R69, R103) -/

/-- A block of a command, as one number. -/
def blockKey (b : BlockRec) : Nat := b.tag * 2 ^ 20 + b.index

/-- The blocks bound to a plane and not complete. -/
def boundBlocks (s : State) (k : Nat) : List Nat :=
  (s.sdec.blocks.filter (fun b => b.plane == k && !b.held)).map blockKey

/-- A PLANE_DEFINE takes effect: the descriptor, and the damage records of the buffers it names (R63, R101). -/
def planeDefined (tag k : Nat) (d : List Byte) (s : State) : State :=
  let s1 := onDraft (fun c => { c with planes := descPut c.planes k d }) s
  finishSt tag St.ok ((planeBufs d).foldl (fun t b => damageSet b [] t) s1)

/-- PLANE_DEFINE: it waits until the blocks bound to the plane have finished (R63). -/
def startPlaneDefine (tag : Nat) (p : Pkt) (s : State) : State :=
  match boundBlocks s (pf p 0x14 1) with
  | [] => planeDefined tag (pf p 0x14 1) (pbytes p 0x18 32) s
  | bs => onFlight tag (fun f => { f with aux := bs }) s

def execPlaneDefine (p : Pkt) (s : State) : Host.Outcome State Fault Refusal := done (submit 0x0202 p startPlaneDefine s)

/-- The PLANE_DEFINEs whose blocks have all finished take effect. -/
def planeDefines (s : State) : State :=
  let live := s.sdec.blocks.map blockKey
  (s.hif.flights.filter (fun f => f.op == 0x0202 && f.started && !f.aux.any (fun b => live.contains b))).foldl
    (fun t f => planeDefined (ptag f.p) (pf f.p 0x14 1) (pbytes f.p 0x18 32) t) s

/-- An entry of Table 3-3. -/
def noteOf (bs : List Byte) (i : Nat) : Note :=
  let b := bs.drop (8 * i)
  { first := byteAt b 0, last := byteAt b 1, cls := byteAt b 2, rsvd := b.getD 3 0, mergeD := BitVec.ofNat 32 (field b 4 4) }

def startNotesDefine (tag : Nat) (p : Pkt) (s : State) : State :=
  let bs := pdata s p
  finishSt tag St.ok (onDraft (fun c => { c with notes := (List.range (pf p 0x14 1)).map (noteOf bs) }) s)

def execNotesDefine (p : Pkt) (s : State) : Host.Outcome State Fault Refusal := done (submit 0x0203 p startNotesDefine s)

/-- The descriptor a cache entry records: a paired plane becomes a single one at the buffer a commit point would name
(R67). -/
def cachePlane (s : State) (k : Nat) (d : List Byte) : List Byte :=
  if dPaired d then
    leBytes 4 (commitBuf s k / 256) ++ (d.drop 4).take 7 ++ [BitVec.ofNat 8 (dFlags d) &&& 0xF7#8] ++
    (d.drop 0x0C).take 12 ++ [0, 0, 0, 0] ++ d.drop 0x1C
  else d

/-- The planes of the draft set as an entry records them. -/
def cachePlanes (s : State) : Table (List Byte) := s.cfg.draft.planes.map (fun e => (e.1, cachePlane s e.1 e.2))

def startCacheStore (tag : Nat) (p : Pkt) (s : State) : State :=
  let ps := cachePlanes s
  match ps.find? (fun e => !(damageOf s (dBase e.2)).isEmpty) with
  | some e => finish tag { status := St.planeDamaged, result := objResult 1 e.1 } s
  | none => finishSt tag St.ok { s with cfg := { s.cfg with
      cache := tset s.cfg.cache (pf p 0x14 1) { count := planeCount s.cfg.draft, planes := ps, notes := s.cfg.draft.notes } } }

def execCacheStore (p : Pkt) (s : State) : Host.Outcome State Fault Refusal := done (submit 0x0204 p startCacheStore s)

def startCacheRecall (tag : Nat) (p : Pkt) (s : State) : State :=
  match tget? s.cfg.cache (pf p 0x14 1) with
  | none => finishSt tag St.cacheEmpty s
  | some e =>
    finishSt tag St.ok (draftParam 0x2000 (BitVec.ofNat 32 e.count)
      (onDraft (fun c => { c with planes := e.planes, notes := e.notes }) s))

def execCacheRecall (p : Pkt) (s : State) : Host.Outcome State Fault Refusal := done (submit 0x0205 p startCacheRecall s)

def startCacheDrop (tag : Nat) (p : Pkt) (s : State) : State :=
  finishSt tag St.ok { s with cfg := { s.cfg with cache := tdel s.cfg.cache (pf p 0x14 1) } }

def execCacheDrop (p : Pkt) (s : State) : Host.Outcome State Fault Refusal := done (submit 0x0206 p startCacheDrop s)

/-! ### SCENE_LOAD: taking and parsing (R95, R96, Table 4-7) -/

/-- SCENE_LOAD waits to be taken (R95). -/
def startSceneLoad (tag : Nat) (_p : Pkt) (s : State) : State :=
  { s with sdec := { s.sdec with waiting := s.sdec.waiting ++ [tag] } }

def execSceneLoad (p : Pkt) (s : State) : Host.Outcome State Fault Refusal := done (submit 0x0201 p startSceneLoad s)

/-- The acceptance number of a command in flight. -/
def flightSeq (s : State) (tag : Nat) : Nat := ((flightOf s tag).map (·.seq)).getD 0

/-- The waiting SCENE_LOAD accepted first. -/
def oldestLoad (s : State) : Option Nat :=
  s.sdec.waiting.foldl (fun o t => match o with
    | none => some t
    | some u => if flightSeq s t < flightSeq s u then some t else some u) none

/-- R95: the Scene Decoder takes the next SCENE_LOAD while it works on fewer than eight. -/
def loadTaken (s : State) : State :=
  match oldestLoad s with
  | none => s
  | some t =>
    match flightOf s t with
    | none => s
    | some f =>
      let s1 := when (decide (3 ≤ s.mem.pressure)) (extend t) s
      { s1 with sdec := { s1.sdec with
        waiting := s1.sdec.waiting.filter (· != t)
        jobs := s1.sdec.jobs ++ [{ tag := t, next := 0, offset := 0, passed := 0, failed := 0, ended := false
                                   firstFail := none, stream := pdata s f.p }] } }

/-- The Scene Decoder works: no episode, no COAST, and memory is served. -/
def sdecRuns (s : State) : Bool := live s && !s.cond.coast && memOpen s

def execSceneLoadTaken (s : State) : Host.Outcome State Fault Refusal :=
  done (if sdecRuns s && decide (s.sdec.jobs.length < 8) then loadTaken s else s)

/-- Bytes of a stream that the module reads from a poisoned granule (Table 13-5). -/
def streamPoisoned (s : State) (tag off n : Nat) : Bool :=
  match flightOf s tag with
  | some f => isLocal f.p && memPoisoned s.mem (localAddr f.p + off) n
  | none => false

/-- The stream ends at a block whose header cannot be trusted (R96). -/
def streamEnds (j : LoadJob) (st id blk pl : Nat) (s : State) : State :=
  blockFailed j.tag j.next st 0 id blk pl j.offset
    (onJob j.tag (fun j => { j with ended := true, next := j.next + 1 }) s)

/-- A block refused at checks 4 to 6 is complete (R70). -/
def refuseBlock (b : BlockRec) (st : Nat) (s : State) : State :=
  sceneBlock (nzScene b.header) (nzLast b.header)
    (blockFailed b.tag b.index st 0 (nzScene b.header) (nzBlock b.header) b.plane b.offset s)

/-- The bytes a block needs from its stream are there. -/
def payloadThere (s : State) (b : BlockRec) : Bool :=
  match s.sdec.jobs.find? (fun j => j.tag == b.tag) with
  | some j => decide (b.offset + 32 + b.plen ≤ j.stream.length)
  | none => false

/-- A block bound to its plane waits for an engine, or is refused at checks 4 to 6 (R60, R61). What it is bound to, the
descriptor and the buffer, stays with it until it is complete. -/
def bindBlock (b : BlockRec) (s : State) : State :=
  let d := planeOf s.cfg.draft b.plane
  let off := nzDest b.header * 256
  let b1 := { b with dst := loadBuf s b.plane + off, held := false, desc := d, buf := loadBuf s b.plane }
  if 64 ≤ b.plane ∨ planeCount s.cfg.draft ≤ b.plane ∨ nzScene b.header ≠ dScene d ∨ dLen d < off + b.ulen then
    refuseBlock b St.sceneMismatch s
  else if isLocked s b1.dst b.ulen then refuseBlock b St.planeBusy s
  else if !payloadThere s b then refuseBlock b St.nzTruncated s
  else { s with sdec := { s.sdec with blocks := s.sdec.blocks ++ [b1] } }

/-- A plane waits for its carry-forward (R66). -/
def carryPlane (s : State) (k : Nat) : Bool := s.cfg.carry.any (fun c => c.plane == k)

/-- The next multiple of 8 (R79). -/
def align8 (n : Nat) : Nat := (n + 7) / 8 * 8

/-- The parser takes the next block of a command (R79, R96). -/
def blockParse (j : LoadJob) (s : State) : State :=
  let h := (j.stream.drop j.offset).take 32
  let n := blockCount s j.tag
  if h.length < 32 then streamEnds j St.nzTruncated 0 0 0 s
  else if streamPoisoned s j.tag j.offset 32 then streamEnds j St.memUncorr 0 0 0 s
  else if (crc32c (h.take 28)).toNat ≠ nzHcheck h then
    streamEnds j St.nzHdrCheck (nzScene h) (nzBlock h) (nzPlane h) s
  else if !nzWellFormed h then streamEnds j St.nzHdrField (nzScene h) (nzBlock h) (nzPlane h) s
  else
    let b : BlockRec := { tag := j.tag, index := j.next, offset := j.offset, header := h, plane := nzPlane h, dst := 0
                          ulen := nzUlen h, plen := nzPlen h, engine := none, held := carryPlane s (nzPlane h) }
    let s1 := onJob j.tag (fun j => { j with
      next := j.next + 1, offset := align8 (j.offset + 32 + nzPlen h), ended := decide (n ≤ j.next + 1) }) s
    if b.held then { s1 with sdec := { s1.sdec with blocks := s1.sdec.blocks ++ [b] } } else bindBlock b s1

/-- Of two active commands the one accepted first. -/
def earlierJob (s : State) (o : Option LoadJob) (j : LoadJob) : Option LoadJob :=
  match o with
  | none => some j
  | some i => if flightSeq s j.tag < flightSeq s i.tag then some j else some i

/-- The active command whose turn it is to have a block taken (R95): the first one accepted after the command whose block
was taken last, and after the last of them the first of all. Commands whose stream has ended take no turn. -/
def turnJob (s : State) : Option LoadJob :=
  let live := s.sdec.jobs.filter (fun j => !j.ended)
  match (live.filter (fun j => decide (s.sdec.turn ≤ flightSeq s j.tag))).foldl (earlierJob s) none with
  | some j => some j
  | none => live.foldl (earlierJob s) none

/-- R75, R91, R95: the parser takes a block of the active SCENE_LOAD whose turn it is; of another it takes none. -/
def execSdecBlockParse (tag : Nat) (s : State) : Host.Outcome State Fault Refusal :=
  done (match turnJob s with
    | some j =>
      if sdecRuns s && j.tag == tag then
        loadDone tag (blockParse j { s with sdec := { s.sdec with turn := flightSeq s tag + 1 } })
      else s
    | none => s)

/-! ### Engines (R97 to R101) -/

/-- Blocks of a command that were held and whose plane waits no longer are bound (R66). -/
def bindHeld (tag : Nat) (s : State) : State :=
  let ready := s.sdec.blocks.filter (fun b => b.held && b.tag == tag && !carryPlane s b.plane)
  ready.foldl (fun t b => bindBlock b t)
    { s with sdec := { s.sdec with blocks := s.sdec.blocks.filter (fun b => !ready.contains b) } }

/-- The free engine that takes a block: of several the one with the lowest number. R97 says only that a free engine takes
it (DESIGN CHOICE, log 74). -/
def freeEngine (s : State) : Option Nat :=
  (List.range 16).find? (fun e => !s.sdec.blocks.any (fun b => b.engine == some e))

/-- An earlier block of the same command that is not complete writes some of the same bytes (R97). -/
def blockWaits (s : State) (b : BlockRec) : Bool :=
  s.sdec.blocks.any (fun a => a.tag == b.tag && decide (a.index < b.index) && overlaps a.dst a.ulen b.dst b.ulen)

/-- The books of the decoder without a block. -/
def dropBlock (b : BlockRec) (s : State) : State :=
  { s with sdec := { s.sdec with blocks := s.sdec.blocks.filter (fun x => x != b) } }

/-- A block passes to an engine, or is refused when its bytes have been locked since it was bound (R61, R104). -/
def blockDispatch (tag : Nat) (s : State) : State :=
  let s1 := bindHeld tag s
  match s1.sdec.blocks.find? (fun b => b.tag == tag && b.engine.isNone && !b.held && !blockWaits s1 b), freeEngine s1 with
  | some b, some e =>
    if isLocked s1 b.dst b.ulen then refuseBlock b St.planeBusy (dropBlock b s1)
    else { s1 with sdec := { s1.sdec with
      blocks := s1.sdec.blocks.map (fun x => if x = b then { x with engine := some e } else x) } }
  | _, _ => s1

/-- R97: the next block of a command that may go passes to a free engine. -/
def execSdecBlockDispatch (tag : Nat) (s : State) : Host.Outcome State Fault Refusal :=
  done (if sdecRuns s then planeDefines (loadDone tag (blockDispatch tag s)) else s)

/-- The payload of a block. -/
def blockPayload (s : State) (b : BlockRec) : List Byte :=
  match s.sdec.jobs.find? (fun j => j.tag == b.tag) with
  | some j => (j.stream.drop (b.offset + 32)).take b.plen
  | none => []

/-- The `n` bytes that a block has written for a paired plane are entered in the log of writes (R64, R65). -/
def noteWrite (b : BlockRec) (n : Nat) (s : State) : State :=
  if dPaired b.desc then
    { s with cfg := { s.cfg with writes := s.cfg.writes ++ [(b.plane, nzDest b.header * 256, n)] } }
  else s

/-- The failure of a block in its engine, entered (R106). -/
def engineEntry (b : BlockRec) (st : Nat) (s : State) : State :=
  blockFailed b.tag b.index st (b.engine.getD 0) (nzScene b.header) (nzBlock b.header) b.plane b.offset s

/-- A block that fails in its engine: its range is recorded as damaged in the record of its buffer (R100, R101). -/
def engineFail (b : BlockRec) (st : Nat) (s : State) : State :=
  engineEntry b st (damageAdd b.buf (dLen b.desc) b.dst b.ulen s)

/-- A block that passes check 12. -/
def blockPassed (b : BlockRec) (s : State) : State :=
  count .blocksOk (damageSub b.buf b.dst b.ulen (onJob b.tag (fun j => { j with passed := j.passed + 1 }) s))

/-- A block ends in its engine, with the verdict of the Check-Value Unit (R98, R100, R109). Where its bytes have been
locked meanwhile it is refused and writes nothing (R61, R104; log 75). -/
def blockComplete (b : BlockRec) (s : State) : State :=
  let s1 := dropBlock b s
  let (st, out) := nzDecode (nzRaw b.header) b.ulen (blockPayload s b)
  let s2 :=
    if isLocked s b.dst b.ulen then engineEntry b St.planeBusy s1
    else if streamPoisoned s b.tag (b.offset + 32) b.plen then engineFail b St.memUncorr s1
    else
      let w := noteWrite b out.length (unordered false b.tag [(b.dst, out.length)] (onMem (memStore b.dst out) s1))
      if st ≠ St.ok then engineFail b st w
      else if (crc32c out).toNat ≠ nzDcheck b.header then
        engineFail b St.cvMismatch (raise 129 (count .cvuMismatch w))
      else blockPassed b w
  planeDefines (loadDone b.tag (sceneBlock (nzScene b.header) (nzLast b.header) s2))

def execSdecBlockComplete (engine : Nat) (s : State) : Host.Outcome State Fault Refusal :=
  done (match s.sdec.blocks.find? (fun b => b.engine == some engine) with
    | some b => if sdecRuns s then blockComplete b s else s
    | none => s)

/-! ### Carry-forward (R66) -/

/-- R66: carry-forward starts once the outgoing epoch has released its buffers. -/
def execCarryForwardStart (s : State) : Host.Outcome State Fault Refusal :=
  done (if sdecRuns s && !s.cfg.carry.isEmpty && s.cfg.outgoing.isNone && !s.cfg.carryRun then
    { s with cfg := { s.cfg with carryRun := true } } else s)

/-- The dirty region of a plane is copied from its new active buffer into its new draft buffer. Table 13-5 speaks of
blocks only where SDEC reads a poisoned granule; the model copies the bytes beneath it, records no damage, and the
destination's granules written whole lose their poison (DESIGN CHOICE, log 74). -/
def carryCopy (c : CarryJob) (s : State) : State :=
  c.ranges.foldl (fun t r => onMem (memStore (c.dst + r.1) (memBytes t.mem (c.src + r.1) r.2)) t) s

/-- R66: the copy of a plane ends; the next plane follows. A plane whose outgoing epoch still reads its new draft buffer
waits. -/
def execCarryForwardEnd (s : State) : Host.Outcome State Fault Refusal :=
  done (match s.cfg.carry with
    | c :: rest =>
      if sdecRuns s && s.cfg.carryRun && (c.free || s.cfg.outgoing.isNone) then
        let s1 := carryCopy c s
        { s1 with cfg := { s1.cfg with carry := rest, carryRun := !rest.isEmpty } }
      else s
    | [] => s)

/-! ### Registers (Tables 5-2 and 5-3) -/

/-- Word `i` of the head entry of the decoder error queue. -/
def errWord (s : State) (i : Nat) : Nat :=
  match s.sdec.errs with
  | [] => 0
  | e :: _ =>
    if i = 0 then e.status % 2 ^ 16 + e.tag % 512 * 2 ^ 16 + e.engine % 16 * 2 ^ 28
    else if i = 1 then e.sceneId.toNat
    else if i = 2 then e.block % 2 ^ 16 + e.plane % 2 ^ 16 * 2 ^ 16
    else e.offset % 2 ^ 32

/-- The head entry of the queue is removed (R106). -/
def popErr (s : State) : State :=
  { s with sdec := { s.sdec with errs := s.sdec.errs.drop 1, overflowed := false } }

/-- R106: 1 is written to bit 0 of SDEC_ERR_POP. -/
def execSdecErrPop (s : State) : Host.Outcome State Fault Refusal := done (if live s then popErr s else s)

def sdecReg (s : State) (off : Nat) : Nat :=
  if off ≤ 0x00C then errWord s (off / 4)
  else if off = 0x020 then ctrReg s .blocksOk
  else if off = 0x024 then ctrReg s .blocksFail
  else if off = 0x028 then ctrReg s .cvuMismatch
  else if off = 0x1000 then ctrReg s .cencVerifyFail
  else if off = 0x1004 then ctrReg s .cencRaw
  else if off = 0x1008 then ctrReg s .cencBlocks
  else 0

def sdecWrite (off : Nat) (v : Word) (s : State) : State := if off = 0x010 ∧ v.getLsbD 0 then popErr s else s

end Sys2Proof.Machine
end

