-- ==== Sys2Proof/Machine/Cenc.lean ====
section
/-! DEFINITION. Captures and the Capture Encoder (chapters 5 and 20). -/
namespace Sys2Proof.Machine

/-! ### Captures (R524) -/

/-- The buffers of a target that is active. -/
def activeTarget (s : State) (t : Nat) : Option Target :=
  if (activeTargets s.cfg.active).contains t then tget? s.acc.targets t else none

/-- The bytes of a region, row by row, from what the Ray Engine reads: the composed buffer of an active target, else
the plane's pixels. -/
def captureInput (s : State) (c : ConfigSet) (r : SilRegion) : List Byte :=
  let px := (List.range r.h).flatMap (fun j => (List.range r.w).map (fun i => (r.x + i, r.y + j)))
  match activeTarget s r.target with
  | some t => px.flatMap (fun p => memBytes s.mem (targetPixel c r.target t.slot t.read p.1 p.2) 8)
  | none =>
    let d := planeOf c r.target
    let b := fmtBytes (dFmt d)
    px.flatMap (fun p => memBytes s.mem (namedBuf c r.target + p.2 * dPitch d + p.1 * b) b)

/-- The rows that a region reads: first byte and length (R118). -/
def captureRows (s : State) (c : ConfigSet) (r : SilRegion) : List (Nat × Nat) :=
  match activeTarget s r.target with
  | some t => (List.range r.h).map (fun j => (targetPixel c r.target t.slot t.read r.x (r.y + j), 8 * r.w))
  | none =>
    let d := planeOf c r.target
    let b := fmtBytes (dFmt d)
    (List.range r.h).map (fun j => (namedBuf c r.target + (r.y + j) * dPitch d + r.x * b, r.w * b))

/-- The composed buffer that a region reads. -/
def captureBuf (s : State) (r : SilRegion) : Option (Nat × Nat) :=
  (activeTarget s r.target).map (fun t => (r.target, t.read))

/-- A capture is skipped: the previous job of the region has not ended, 8 jobs are queued, or the flat plane is not
active. -/
def captureSkips (s : State) (n : Nat) (r : SilRegion) : Bool :=
  s.sdec.cenc.any (fun j => j.region == n) || decide (8 ≤ s.sdec.cenc.length) ||
  (r.target == 64 && (activeTarget s 64).isNone)

/-- A job that starts takes its parameters and the head of the thumbnail ring (R120). -/
def cencBegin (s : State) : State :=
  match s.sdec.cenc with
  | j :: rest =>
    if j.units = 0 then
      { s with sdec := { s.sdec with cenc := { j with
        start := s.sil.thumbHead, chain := par s 0x9100, nice := par s 0x9101, lazy := par s 0x9102 == 1
        units := par s 0x9103, raw := par s 0x9104 == 1 } :: rest } }
    else s
  | [] => s

/-- A region is due: its job, or its skip. The job carries the RSEQ that the frame's entry takes when no seal of a
flush comes before it. -/
def captureRegion (n : Nat) (r : SilRegion) (s : State) : State :=
  let s1 := { s with sil := { s.sil with lastCap := tset s.sil.lastCap n s.clock } }
  let rseq := (s.sil.rseq + 1) % 2 ^ 32
  if captureSkips s n r then
    raise 247 (count .silThumbSkip { s1 with sdec := { s1.sdec with
      thumbs := s1.sdec.thumbs ++ [{ region := n, status := 2, rseq := rseq, offset := 0, stream := [] }] } })
  else
    cencBegin { s1 with sdec := { s1.sdec with cenc := s1.sdec.cenc ++ [{
      region := n, sceneId := BitVec.ofNat 32 rseq, input := captureInput s s.cfg.active r, pos := 0, block := 0
      start := 0, out := [], chain := 0, nice := 0, lazy := false, units := 0, raw := false, buf := captureBuf s r
      rows := captureRows s s.cfg.active r }] } }

/-- A region of a rate is due: 1,000 / RATE_HZ ms have passed since its previous capture. -/
def captureDue (s : State) (n : Nat) (r : SilRegion) : Bool :=
  r.rate != 0 && match tget? s.sil.lastCap n with
    | some t => decide (1000000000 ≤ (s.clock - t) * r.rate)
    | none => true

/-- The captures of a frame that starts. -/
def captures (s : State) : State :=
  if s.sil.running && !s.sil.stopped && !s.cond.coast then
    s.cfg.active.regions.foldl (fun t e => if captureDue t e.1 e.2 then captureRegion e.1 e.2 t else t) s
  else s

/-! ### Blocks (R112 to R117) -/

/-- Bytes of the thumbnail ring. -/
def thumbSize : Nat := 0x7C000000
/-- First byte of the thumbnail ring. -/
def thumbBase : Nat := silBase + 0x04000000

/-- Bytes written into the thumbnail ring from an offset of a stream on, over its end when it is reached (R515). -/
def thumbStore (start off : Nat) (bs : List Byte) (m : Mem) : Mem :=
  let a := (64 * start - 0x04000000 + off) % thumbSize
  let n := thumbSize - a
  memStore thumbBase (bs.drop n) (memStore (thumbBase + a) (bs.take n) m)

/-- The place behind a stream, in 64-byte units of the area. -/
def thumbNext (start len : Nat) : Nat := 0x100000 + (start - 0x100000 + (len + 63) / 64) % (thumbSize / 64)

/-- The data of the next block of a job (R112). -/
def cencData (j : CencJob) : List Byte := (j.input.drop j.pos).take (256 * j.units)

/-- Its compressed payload; the data themselves under CENC_FORCE_RAW. -/
def cencPayload (j : CencJob) : List Byte :=
  if j.raw then cencData j else nzEncode { chain := j.chain, nice := j.nice, lazy := j.lazy } (cencData j)

/-- A granule that the next block of a job reads is poisoned or lies in a failed channel (Table 13-5). -/
def cencPoisoned (s : State) (j : CencJob) : Bool :=
  let row := (j.rows.head?.map (·.2)).getD 1
  let lo := j.pos / row
  ((j.rows.drop lo).take ((j.pos + (cencData j).length + row - 1) / row - lo)).any (fun r => memPoisoned s.mem r.1 r.2)

/-- The verify decoder's failure, entered: counted, sources 133 and 129, and the black box (R108, R117). -/
def verifyFailed (s : State) : State := blackBoxSrc 133 0 (raise 129 (raise 133 (count .cencVerifyFail s)))

/-- The next block of the running job: compressed and verified, or raw. The verify decoder runs on the payload and the
Check-Value Unit compares its output with DCHECK (R109, R116); `sound` is false when the hardware of either errs. The
bytes between two blocks are written as 0, which R79 asks of a stream (log 74). -/
def cencBlock (sound : Bool) (j : CencJob) (rest : List CencJob) (s : State) : State :=
  let data := cencData j
  let pay := cencPayload j
  let small := !j.raw && decide (pay.length < data.length)
  let ok := sound && nzVerified data pay
  let raw := !small || !ok
  let lastB := decide (j.input.length ≤ j.pos + data.length)
  let bytes := List.replicate (align8 j.out.length - j.out.length) 0 ++
    nzBlockBytes raw lastB j.sceneId j.region j.block (j.pos / 256) data (if raw then data else pay)
  let s1 := onMem (thumbStore j.start j.out.length bytes) s
  let s2 := { s1 with
    sdec := { s1.sdec with cenc := { j with pos := j.pos + data.length, block := j.block + 1, out := j.out ++ bytes } :: rest }
    sil := { s1.sil with thumbHead := thumbNext j.start (j.out ++ bytes).length } }
  count .cencBlocks (when raw (count .cencRaw) (when (small && !ok) verifyFailed s2))

/-- R116, R117: a block of the running job is verified and written; a job that reads a poisoned granule is abandoned
(Table 13-5, R119). -/
def execCencBlockVerify (sound : Bool) (s : State) : Host.Outcome State Fault Refusal :=
  done (if sdecRuns s then
    let s1 := cencBegin s
    match s1.sdec.cenc with
    | j :: rest =>
      if j.pos < j.input.length then (if cencPoisoned s1 j then cencBegin (cencAbandon s1) else cencBlock sound j rest s1)
      else s1
    | [] => s1
  else s)

/-- R112: a job ends, and the next one starts. -/
def execCencJobDone (s : State) : Host.Outcome State Fault Refusal :=
  done (match s.sdec.cenc with
    | j :: rest =>
      if sdecRuns s && j.units != 0 && decide (j.input.length ≤ j.pos) then
        cencBegin (raise 132 { s with sdec := { s.sdec with
          cenc := rest
          thumbs := s.sdec.thumbs ++ [{ region := j.region, status := 0, rseq := j.sceneId.toNat, offset := j.start
                                        stream := j.out }] } })
      else s
    | [] => s)

end Sys2Proof.Machine
end

