-- ==== Sys2Proof/Machine/Sillage.lean ====
section
/-! DEFINITION. The commands of the Sillage record, its flushes, the black-box second, and the debug lock and TAP
(chapter 20); debug accesses stand in Debug.lean. -/
namespace Sys2Proof.Machine

/-! ### Export (R422, R526, R532) -/

/-- Bytes of the NAND logical space (Table 20-6). -/
def nandSize : Nat := 0x1E8000000
/-- First byte and size of the Sillage log. -/
def logBase : Nat := 0x08000000
def logSize : Nat := 0x1E0000000

/-- A byte of the black-box log: slot k of the ring of 512, 256 KiB each. -/
def slotByte (s : State) (o : Nat) : Byte :=
  let k := (s.sil.bbSeq + 511 - o / 0x40000) % 512
  (s.sil.bbSlots.getD k []).getD (o % 0x40000) 0xFF

/-- A byte of the Sillage log, whose segments lie end to end, newest first in the list; `total` bytes have been
written in all (log 16). -/
def logByte : List (List Byte) → Nat → Nat → Byte
  | [], _, _ => 0xFF
  | seg :: rest, total, p =>
    let start := total - seg.length
    let rel := (p + logSize - start % logSize) % logSize
    if rel < seg.length then seg.getD rel 0xFF else logByte rest start p

/-- A byte of the NAND logical space; a byte never programmed reads 0xFF (log 16). -/
def nandByte (s : State) (o : Nat) : Byte :=
  if o < logBase then slotByte s o else logByte s.sil.nand (s.sil.nand.map List.length).sum (o - logBase)

/-- The bytes of an export. -/
def exportBytes (s : State) (source start n : Nat) : List Byte :=
  if source = 0 then memBytes s.mem (silBase + start) n else (List.range n).map (fun i => nandByte s (start + i))

/-- SILLAGE_EXPORT: in PARKED the ring is read out of self-refresh and the bound is extended (R422). -/
def startSillageExport (tag : Nat) (p : Pkt) (s : State) : State :=
  let src := pf p 0x14 1
  let a := pf p 0x18 8
  let n := pf p 0x20 4
  if (if src = 0 then silSize else nandSize) < a + n then finishSt tag St.memRange s
  else
    let s1 := if src = 0 ∧ s.cond.mode = .parked then extend tag s else s
    finish tag { status := St.ok, result := leBytes 4 (if p.addr = 0 then 0 else n), image := exportBytes s src a n } s1

def execSillageExport (p : Pkt) (s : State) : Host.Outcome State Fault Refusal :=
  done (submit 0x0901 p startSillageExport s)

/-! ### Regions and marks -/

/-- SIL_REGION_DEFINE stages a capture region (R524). -/
def startSilRegionDefine (tag : Nat) (p : Pkt) (s : State) : State :=
  let r : SilRegion := { target := pf p 0x15 1, rate := pf p 0x16 1, x := pf p 0x18 2, y := pf p 0x1A 2
                         w := pf p 0x1C 2, h := pf p 0x1E 2 }
  let regions := tset s.cfg.draft.regions (pf p 0x14 1) r
  finishSt tag St.ok { s with cfg := { s.cfg with draft := { s.cfg.draft with regions := regions } } }

def execSilRegionDefine (p : Pkt) (s : State) : Host.Outcome State Fault Refusal :=
  done (submit 0x0902 p startSilRegionDefine s)

/-- SILLAGE_MARK waits for the next frame entry (R520). -/
def startSillageMark (tag : Nat) (p : Pkt) (s : State) : State :=
  finishSt tag St.ok { s with sil := { s.sil with marks := s.sil.marks ++ [{ mark := pbytes p 0x18 8, tag := tag }] } }

def execSillageMark (p : Pkt) (s : State) : Host.Outcome State Fault Refusal :=
  done (submit 0x0903 p startSillageMark s)

/-! ### Flushes (R526 to R528) -/

/-- SILLAGE_FLUSH: 0 bytes in PARKED and after the PARKED seal; behind a flush that runs it waits (log 16). -/
def startSillageFlush (tag : Nat) (_p : Pkt) (s : State) : State :=
  if s.cond.mode = .parked ∨ s.sil.stopped then finish tag { status := St.ok, result := leBytes 4 0 } s
  else if s.sil.flush.isSome then s
  else startFlush .command (some tag) s

def execSillageFlush (p : Pkt) (s : State) : Host.Outcome State Fault Refusal :=
  done (submit 0x0904 p startSillageFlush s)

/-- The SILLAGE_FLUSHes that wait go on: the next one begins. -/
def flushNext (s : State) : State :=
  (startedFlights s 0x0904).foldl (fun t f => startSillageFlush (ptag f.p) f.p t) s

/-- A flush that no spare block can take (R528): the pages written stay, without a trailer (R530). -/
def flushFailed (s : State) : State := blackBoxSrc 246 0 (raise 246 (count .silNandErr (tearFlush s)))

/-- R528: a flush ends. -/
def silFlushEnd (ok : Bool) (s : State) : State :=
  match s.sil.flush with
  | none => s
  | some j =>
    let s1 := if ok then flushDone j s else flushFailed s
    flushNext (match j.tag with
      | some t =>
        finish t { status := if ok then St.ok else St.nand
                   result := leBytes 4 (if ok then j.bytes.length else 0) } s1
      | none => s1)

def execSilFlushEnd (ok : Bool) (s : State) : Host.Outcome State Fault Refusal :=
  done (if live s then silFlushEnd ok s else s)

/-- R522: 1,000 ms of free-running time after the last seal; the seal follows the records of the frame. -/
def execSilPeriodicSeal (s : State) : Host.Outcome State Fault Refusal :=
  done (if live s && s.sil.running && !s.sil.stopped && decide (s.sil.freeNs + 1000000000 ≤ s.clock) then
    { s with sil := { s.sil with sealNext := true } } else s)

/-- R532: the second after a FAULT flush ends; settings held back are flushed together. -/
def bbSecondEnd (s : State) : State :=
  if !s.bb.second then s
  else if s.bb.again && !(s.cond.coast && !s.pwr.flushDone) then
    let s1 := bbFlushSlot 2 s
    { s1 with bb := { s1.bb with again := false } }
  else { s with bb := { s.bb with second := false, again := false } }

def execBbFlushSecondEnd (s : State) : Host.Outcome State Fault Refusal := done (if live s then bbSecondEnd s else s)

/-! ### The debug lock (R424, R533) -/

/-- The debug key. -/
def debugKey : List Byte := (List.range 32).map Config.debugKeyByte
/-- The correct response to a nonce. -/
def dbgAnswer (n : Nat) : List Byte := hmacSha256 debugKey (leBytes 8 (Config.nonce n).toNat)

/-- A new nonce, which serves one attempt. -/
def newNonce (s : State) : State :=
  { s with dbg := { s.dbg with nonce := some s.dbg.nonces, nonces := s.dbg.nonces + 1 } }

/-- DEBUG_CHALLENGE answers with a nonce; in the hold-off it waits. -/
def startDebugChallenge (tag : Nat) (_p : Pkt) (s : State) : State :=
  if s.dbg.holdoff then s
  else finish tag { status := St.ok, result := leBytes 8 (Config.nonce s.dbg.nonces).toNat } (newNonce s)

def execDebugChallenge (p : Pkt) (s : State) : Host.Outcome State Fault Refusal :=
  done (submit 0x0B10 p startDebugChallenge s)

/-- The lock opens; `path` is 0 for the commands and 1 for the TAP. -/
def openLock (path : Nat) (s : State) : State :=
  if s.dbg.unlocked then s
  else blackBox 0x0220 0xFF (BitVec.ofNat 32 path) (raise 250 { s with
    dbg := { s.dbg with unlocked := true }
    sil := { s.sil with frameOpen := s.sil.frameOpen || s.sil.flush.isNone } })

/-- The lock closes. -/
def closeLock (path : Nat) (s : State) : State :=
  if s.dbg.unlocked then
    blackBox 0x0221 0xFF (BitVec.ofNat 32 path) (raise 250 { s with dbg := { s.dbg with unlocked := false } })
  else s

/-- An unlock refused: the hold-off of 1 s begins. -/
def refuseUnlock (path : Nat) (s : State) : State :=
  blackBox 0x0222 0xFF (BitVec.ofNat 32 path) (raise 251 (count .dbgUnlockFail
    { s with dbg := { s.dbg with holdoff := true } }))

/-- One attempt with a response: it uses the nonce up. The answer is whether the lock opens. -/
def unlockWith (path : Nat) (resp : List Byte) (s : State) : Bool × State :=
  let s1 := { s with dbg := { s.dbg with nonce := none } }
  match s.dbg.nonce with
  | some n => if resp = dbgAnswer n then (true, openLock path s1) else (false, refuseUnlock path s1)
  | none => (false, refuseUnlock path s1)

def startDebugUnlock (tag : Nat) (p : Pkt) (s : State) : State :=
  let (ok, s1) := unlockWith 0 (pbytes p 0x18 32) s
  finishSt tag (if ok then St.ok else St.debugKey) s1

def execDebugUnlock (p : Pkt) (s : State) : Host.Outcome State Fault Refusal := done (submit 0x0B11 p startDebugUnlock s)

def startDebugLock (tag : Nat) (_p : Pkt) (s : State) : State := finishSt tag St.ok (closeLock 0 s)

def execDebugLock (p : Pkt) (s : State) : Host.Outcome State Fault Refusal := done (submit 0x0B12 p startDebugLock s)

/-- R533: the hold-off ends, and a DEBUG_CHALLENGE that waits is answered. -/
def holdoffEnd (s : State) : State :=
  if s.dbg.holdoff then
    (startedOf s 0x0B10).foldl (fun t n =>
      finish n { status := St.ok, result := leBytes 8 (Config.nonce t.dbg.nonces).toNat } (newNonce t))
      { s with dbg := { s.dbg with holdoff := false } }
  else s

def execDebugHoldoffEnd (s : State) : Host.Outcome State Fault Refusal := done (holdoffEnd s)

/-! ### The TAP (Table 20-10) -/

/-- IDCODE. -/
def idcode : Word :=
  if Config.steppingByte 0 = 0x42 ∧ Config.steppingByte 1 = 0x31 then 0x17128B47 else Config.idcode

/-- The low `n` bits of a number, least significant first. -/
def toBits (n v : Nat) : List Bool := (List.range n).map v.testBit

/-- EXTEST, CLAMP or HIGHZ takes effect: the lock is open in TEST or under BIVOUAC (R533). -/
def boundaryOpen (s : State) : Bool := s.dbg.unlocked && (s.cond.mode == .test || s.cond.bivouac)

/-- An instruction selected, with the data register it captures. -/
def tapSelect (ir : Byte) (dr : List Bool) (s : State) : State := { s with dbg := { s.dbg with ir := ir, dr := dr } }

/-- An instruction that acts as BYPASS while it may not take effect. -/
def tapGuarded (ir : Byte) (s : State) : State :=
  if boundaryOpen s then tapSelect ir [] s else tapSelect 0xFF [false] s

/-- The cells of the boundary-scan register are not given: its content is left out (log 17). -/
def execTapExtest (s : State) : Host.Outcome State Fault Refusal := done (tapGuarded 0x00 s)
def execTapSamplePreload (s : State) : Host.Outcome State Fault Refusal := done (tapSelect 0x01 [] s)
def execTapIdcode (s : State) : Host.Outcome State Fault Refusal := done (tapSelect 0x02 (toBits 32 idcode.toNat) s)
def execTapClamp (s : State) : Host.Outcome State Fault Refusal := done (tapGuarded 0x03 s)
def execTapHighz (s : State) : Host.Outcome State Fault Refusal := done (tapGuarded 0x04 s)
def execTapBypass (s : State) : Host.Outcome State Fault Refusal := done (tapSelect 0xFF [false] s)
/-- Test-Logic-Reset. -/
def execTapReset (s : State) : Host.Outcome State Fault Refusal := done (tapSelect 0x02 [] s)

/-- R533: Capture-DR of DBG_CHALLENGE loads a new nonce; in the hold-off it loads none, and what it captures is a free
value (log 2). -/
def challengeCapture (s : State) : State :=
  if s.dbg.holdoff then
    let (v, s1) := takeFree s
    tapSelect 0x21 (toBits 64 v) s1
  else tapSelect 0x21 (toBits 64 (Config.nonce s.dbg.nonces).toNat) (newNonce s)

def execDbgChallengeCapture (s : State) : Host.Outcome State Fault Refusal := done (challengeCapture s)

/-- R533: Update-DR of DBG_RESPONSE submits the response. -/
def execDbgResponseUpdate (resp : List Byte) (s : State) : Host.Outcome State Fault Refusal :=
  done (tapSelect 0x22 [] (unlockWith 1 (padTo 32 resp) s).2)

/-- DBG_STATUS (Table 20-14). -/
def dbgStatus (s : State) : Nat :=
  bit s.dbg.unlocked 0 + s.dbg.halted.toNat * 2 + bit s.dbg.nonce.isSome 5 + bit s.dbg.holdoff 6

def execDbgStatusCapture (s : State) : Host.Outcome State Fault Refusal :=
  done (tapSelect 0x23 (toBits 32 (dbgStatus s)) s)

/-! ### Registers (Tables 20-13 and 20-14) -/

/-- SIL_STATUS. -/
def silStatus (s : State) : Nat :=
  bit s.sil.running 0 + bit s.sil.flush.isSome 1 + bit (!s.sdec.cenc.isEmpty) 2 + bit s.sil.cutFound 3

/-- A Sillage or debug register as read. -/
def silReg (s : State) (off : Nat) : Nat :=
  if off = 0x000 then silStatus s
  else if off = 0x004 then s.sil.rseq
  else if off = 0x008 then s.sil.recHead
  else if off = 0x00C then s.sil.thumbHead
  else if off = 0x010 then s.sil.flushed
  else if off = 0x014 then s.sil.sealSeq
  else if off = 0x018 then s.bb.head + bit s.bb.wrapped 12
  else if off = 0x020 then ctrReg s .silThumbSkip
  else if off = 0x024 then ctrReg s .silFlush
  else if off = 0x028 then ctrReg s .silNandErr
  else if off = 0x02C then ctrReg s .bbFlush
  else if off = 0x030 then ctrReg s .dbgUnlockFail
  else if off = 0x040 then dbgStatus s
  else if 0x20000 ≤ off ∧ off < 0x40000 then field (bbIndex s ((off - 0x20000) / 32)) ((off - 0x20000) % 32) 4
  else 0

end Sys2Proof.Machine
end

