-- ==== Sys2Proof/Machine/Time.lean ====
section
/-! DEFINITION. The Time Unit: the counter, PTP, the servo and the refusal of steps (chapter 14). -/
namespace Sys2Proof.Machine

/-! ### The counter (R360 to R362, R371) -/

/-- The part of a slew that one nanosecond takes, in 10⁻⁹ ns. -/
def slewPart (s : State) : Int :=
  if s.tu.slewing then clampI (-(s.tu.slewPpb : Int)) s.tu.slewPpb s.tu.slewLeft else 0

/-- What the counter adds in one nanosecond, in units of 2⁻⁴⁰ ns. -/
def timeRate (s : State) : Int := nsUnit + (nsUnit : Int) * (s.tu.freqPpb + slewPart s) / 1000000000

/-- One nanosecond passes (log 1). -/
def tick (s : State) : State :=
  { s with
    clock := s.clock + 1
    tu := if s.tu.running then
        { s.tu with time := (((s.tu.time : Int) + timeRate s) % (timeMod : Int)).toNat
                    slewLeft := s.tu.slewLeft - slewPart s }
      else s.tu }

/-- Time moved forward to a time that an event names; it never moves backward (log 4). -/
def timeUpTo (t : Nat) (s : State) : State :=
  if s.tu.running && decide (s.tu.time < t) then { s with tu := { s.tu with time := t } } else s

/-! ### State changes -/

def setTuState (n : TuState) (s : State) : State :=
  if s.tu.state = n then s else raise 160 { s with tu := { s.tu with state := n, lockRun := 0, unlockRun := 0 } }

/-- The edges that a forward step passes over count as missed; an edge already sent is not sent again (R378). -/
def edgeTime (t : Trigger) (k : Nat) : Nat :=
  let start := timeUnpack (field t.desc 4 12)
  let per := field t.desc 0x10 4 * 65536 + field t.desc 0x14 2
  let half := start + k * per * 2 ^ 24 + nsUnit / 2
  half / nsUnit * nsUnit

/-- MODE of a trigger. -/
def trigMode (t : Trigger) : Nat := byteAt t.desc 0
def trigFlag (t : Trigger) (n : Nat) : Bool := (byteAt t.desc 1).testBit n

def trigOf (s : State) (n : Nat) : Trigger := tget s.tu.trig n {}
def onTrig (n : Nat) (f : Trigger → Trigger) (s : State) : State :=
  { s with tu := { s.tu with trig := tset s.tu.trig n (f (trigOf s n)) } }

/-- Edges missed: counted, source 166. -/
def missEdges (n : Nat) (s : State) : State := if n = 0 then s else raise 166 (countN .ttMissed n s)

/-- The first edge number from `k` on whose time is not before a time. -/
def firstEdge (t : Trigger) (k now : Nat) : Nat :=
  let per := (field t.desc 0x10 4 * 65536 + field t.desc 0x14 2) * 2 ^ 24
  let e := edgeTime t k
  if now ≤ e ∨ per = 0 then k
  else
    let j := k + (now - e) / per
    if now ≤ edgeTime t j then j else j + 1

/-- A time-scheduled trigger after a step (R378). -/
def trigStep (n : Nat) (s : State) : State :=
  let t := trigOf s n
  if !t.armed then s
  else if trigMode t = 1 then
    (if edgeTime t 0 < s.tu.time then missEdges 1 (onTrig n (fun t => { t with armed := false }) s) else s)
  else if trigMode t = 2 then
    let k := firstEdge t t.k s.tu.time
    missEdges (k - t.k) (onTrig n (fun t => { t with k := k }) s)
  else s

/-- A step of the time in one instant (R371, R373, R374): source 164, TSEQ, the TIME detail and the triggers. -/
def stepTime (t : Nat) (off : Int) (s : State) : State :=
  let s1 := raise 164 { s with tu := { s.tu with
    time := t, tseq := (s.tu.tseq + 1) % 256, stepRec := some (s.tu.time, t, off), pendStep := false, pendOff := 0
    outliers := [], refused := none, slewing := false, slewLeft := 0
    rates := s.tu.rates.map (fun r => (((r.1 : Int) + t - s.tu.time).toNat, r.2)) } }
  if s.tu.time < t then (List.range 24).foldl (fun u n => trigStep n u) s1 else s1

/-! ### Masters (R363, R364, R368, R372) -/

/-- A PTP frame reaches the module: Ethernet is not stopped, and the port is selected (R363, R381). -/
def ptpPort (s : State) (m : PtpMsg) : Bool :=
  !s.cond.coast && !s.cond.bivouac && !s.pwr.episode && decide (m.port < 4) && (par s 0x6002).testBit m.port

/-- The transport in use: UDP only under the two 1588 profiles (Tables 14-2 and 14-7). -/
def ptpTransport (s : State) : Nat := if par s 0x6000 = 2 then 0 else par s 0x6003

/-- A PTP frame is taken: its domain, profile and transport are the configured ones, and it is no management message
(R363, R364). -/
def ptpMatch (s : State) (m : PtpMsg) : Bool :=
  m.domain == par s 0x6001 && m.profile == par s 0x6000 && m.transport == ptpTransport s && !m.management

/-- What every received PTP frame meets before it is used. -/
def ptpTake (m : PtpMsg) (f : State → State) (s : State) : State :=
  if !s.tu.running then count .tuEarlyDrop s
  else if !ptpPort s m then s
  else if !ptpMatch s m then count .tuPtpDrop s
  else f s

/-- Comparison of two lists of fields, first field first. -/
def rankLess : List Nat → List Nat → Bool
  | a :: l, b :: m => a < b || (a == b && rankLess l m)
  | [], _ :: _ => true
  | _, [] => false

/-- The better of two masters by the BMCA. -/
def betterGm (a b : Gm) : Bool :=
  rankLess (a.rank ++ [a.source.toNat, a.port]) (b.rank ++ [b.source.toNat, b.port])

/-- The best master heard. -/
def bestGm (l : List Gm) : Option Gm :=
  l.foldl (fun o g => match o with
    | none => some g
    | some h => if betterGm g h then some g else o) none

/-- The master selected; a grandmaster other than the last in use is a change (R372). -/
def selectMaster (o : Option Gm) (s : State) : State :=
  match o with
  | none => { s with tu := { s.tu with master := none } }
  | some g =>
    let changed := match s.tu.lastGm with
      | some x => x != g.gmId
      | none => false
    let s1 := { s with tu := { s.tu with master := some g, lastGm := some g.gmId } }
    if changed then
      raise 162 (count .tuGmChange { s1 with tu := { s1.tu with
        pendStep := false, pendOff := 0, refused := none, declined := false, outliers := [], firstOffs := []
        slewing := false, slewLeft := 0, syncPend := none, lastSync := none, reqSent := none } })
    else if s.tu.master.map (·.source) = some g.source then s1
    else { s1 with tu := { s1.tu with
      syncPend := none, lastSync := none, reqSent := none, outliers := [], firstOffs := [], lockRun := 0, unlockRun := 0 } }

/-- Announce: the master is entered, and the BMCA selects (R364). -/
def announce (m : PtpMsg) (s : State) : State :=
  let g : Gm := { port := m.port, source := m.source, gmId := m.gmId, rank := m.rank, traceable := m.traceable }
  let ms := s.tu.masters.filter (fun x => !(x.source == m.source && x.port == m.port)) ++ [g]
  selectMaster (bestGm ms) { s with tu := { s.tu with masters := ms } }

def execPtpAnnounce (m : PtpMsg) (s : State) : Host.Outcome State Fault Refusal := done (ptpTake m (announce m) s)

/-- The average rate of the last TU_HOLD_AVG_S seconds (R368). -/
def holdRate (s : State) : Int :=
  let l := (s.tu.rates.filter (fun r => decide (s.tu.time ≤ r.1 + par s 0x600A * 1000000000 * nsUnit))).map (·.2)
  if l.isEmpty then s.tu.freqPpb else l.sum / (l.length : Int)

/-- HOLDOVER from a state in which a master was followed. -/
def toHoldover (s : State) : State :=
  if s.tu.state = .acquiring ∨ s.tu.state = .locked then
    setTuState .holdover { s with tu := { s.tu with freqPpb := holdRate s } }
  else s

/-- The master is lost (R368): the next best heard is selected. -/
def masterLost (s : State) : State :=
  match s.tu.master with
  | none => s
  | some g =>
    let ms := s.tu.masters.filter (fun x => !(x.source == g.source && x.port == g.port))
    let s1 := raise 163 (toHoldover s)
    selectMaster (bestGm ms) { s1 with tu := { s1.tu with
      masters := ms, master := none, syncPend := none, firstOffs := [], outliers := [] } }

/-- PTP runs: the counter runs and Ethernet is not stopped. -/
def ptpRuns (s : State) : Bool := s.tu.running && !s.cond.coast && !s.cond.bivouac && !s.pwr.episode

/-- R368: no Sync for TU_LOSS_INTERVALS sync intervals. -/
def execPtpSyncTimeout (s : State) : Host.Outcome State Fault Refusal := done (if ptpRuns s then masterLost s else s)

/-- R368: the Announce receipt timeout expires. -/
def execPtpAnnounceTimeout (s : State) : Host.Outcome State Fault Refusal := done (if ptpRuns s then masterLost s else s)

/-- A change to one of the first four parameters restarts PTP (R383). -/
def ptpRestart (s : State) : State :=
  let s1 := toHoldover s
  { s1 with tu := { s1.tu with masters := [], master := none, syncPend := none, lastSync := none, reqSent := none
                               firstOffs := [], outliers := [], meanPath := 0 } }

/-! ### Offsets and the servo (R365, R367, R370, R373) -/

/-- Receive and transmit latency of a port, in 1/65,536 ns (R365). -/
def rxLat (s : State) (p : Nat) : Int := (par s (0x6010 + p) / 65536 * 65536 : Nat)
def txLat (s : State) (p : Nat) : Int := (par s (0x6010 + p) % 65536 * 65536 : Nat)

/-- Nanoseconds of an offset in 1/65,536 ns. -/
def offNs (o : Int) : Int := o / 65536

/-- The mean of some offsets, in ns. -/
def meanNs (l : List Int) : Int := l.sum / (65536 * (l.length : Int))

/-- The servo sets the rate adjustment within ±TU_MAX_PPB; its value is free (log 2). -/
def servo (s : State) : State :=
  let (v, s1) := takeFree s
  let lim := par s 0x6006
  let f : Int := ((v % (2 * lim + 1) : Nat) : Int) - lim
  { s1 with tu := { s1.tu with freqPpb := f, rates := (s1.tu.time, f) :: s1.tu.rates.take 16383 } }

/-- LOCKED and ACQUIRING follow the run of offsets (R367). -/
def lockRule (o : Int) (s : State) : State :=
  let lim : Int := par s 0x6005 * 65536
  let a : Int := o.natAbs
  match s.tu.state with
  | .acquiring =>
    let n := if a ≤ lim then s.tu.lockRun + 1 else 0
    if 16 ≤ n then setTuState .locked s else { s with tu := { s.tu with lockRun := n } }
  | .locked =>
    let n := if 4 * lim < a then s.tu.unlockRun + 1 else 0
    if 4 ≤ n then setTuState .acquiring s else { s with tu := { s.tu with unlockRun := n } }
  | .freerun | .holdover => s

/-- An offset within TU_STEP_LIMIT_NS: a pending step is resolved, and the servo takes it (R369, R371). -/
def goodOffset (s : State) : State :=
  let s1 := { s with tu := { s.tu with outliers := [], pendStep := false, pendOff := 0, refused := none } }
  servo (if s1.tu.state = .holdover then setTuState .acquiring s1 else s1)

/-- Four outliers of one sign within the limit of one another (R370). -/
def stepRefused (s : State) (l : List Int) : Bool :=
  let lim : Int := par s 0x6004 * 65536
  l.length == 4 && (l.all (fun o => 0 < o) || l.all (fun o => o < 0)) &&
  l.all (fun a => l.all (fun b => decide (((a - b).natAbs : Int) ≤ lim)))

/-- An outlier (R370). -/
def outlier (o : Int) (s : State) : State :=
  let l := o :: s.tu.outliers.take 3
  let s1 := count .tuOutlier { s with tu := { s.tu with outliers := l } }
  if s1.tu.pendStep then { s1 with tu := { s1.tu with pendOff := meanNs l } }
  else if stepRefused s1 l then
    let s2 := toHoldover s1
    blackBoxSrc 161 0 (raise 161 (count .tuRefuse { s2 with tu := { s2.tu with
      pendStep := true, pendOff := meanNs l, refused := s2.tu.master.map (·.gmId) } }))
  else s1

/-- The first four offsets of the first master step the time (R373). -/
def firstOffset (o : Int) (s : State) : State :=
  let l := o :: s.tu.firstOffs
  if l.length < 4 then { s with tu := { s.tu with firstOffs := l } }
  else
    let m := meanNs l
    let s1 := stepTime (timeAdd s.tu.time (-(m * 65536))) m { s with tu := { s.tu with firstOffs := [], timeSet := true } }
    setTuState .acquiring s1

/-- The offset of a Sync is judged (R367, R370, R371, R373). While an accepted step is slewed, what is still to be
slewed makes no outlier; the state is judged by the whole offset. -/
def judgeOffset (o : Int) (s : State) : State :=
  let s1 := { s with tu := { s.tu with offset := clampI (-2147483647) 2147483647 (offNs o) } }
  let e := if s.tu.slewing then o + s.tu.slewLeft * 65536 / 1000000000 else o
  if s1.tu.declined then s1
  else if s1.tu.state = .freerun then firstOffset o s1
  else if (par s 0x6004 : Int) * 65536 < (e.natAbs : Int) then outlier e (lockRule o s1)
  else goodOffset (lockRule o s1)

/-- A message comes from the master in use. -/
def fromMaster (s : State) (m : PtpMsg) : Bool :=
  match s.tu.master with
  | some g => g.source == m.source && g.port == m.port
  | none => false

/-- A Sync with its origin time and correction complete. -/
def syncDone (port arrival origin : Nat) (corr : Int) (s : State) : State :=
  let t2 : Int := (arrival : Int) - rxLat s port
  let s1 := { s with tu := { s.tu with syncPend := none, lastSync := some (origin, corr, t2.toNat) } }
  judgeOffset (t2 - origin - s.tu.meanPath - corr) s1

/-- Sync: a two-step one waits for its Follow_Up. -/
def ptpSync (m : PtpMsg) (s : State) : State :=
  if !fromMaster s m then s
  else if m.twoStep then { s with tu := { s.tu with syncPend := some m } }
  else syncDone m.port m.arrival m.origin m.correction s

def execPtpSync (m : PtpMsg) (s : State) : Host.Outcome State Fault Refusal := done (ptpTake m (ptpSync m) s)

def ptpFollowUp (m : PtpMsg) (s : State) : State :=
  match s.tu.syncPend with
  | some y =>
    if y.source = m.source ∧ y.seqId = m.seqId then
      syncDone y.port y.arrival m.origin (y.correction + m.correction) s
    else s
  | none => s

def execPtpFollowUp (m : PtpMsg) (s : State) : Host.Outcome State Fault Refusal := done (ptpTake m (ptpFollowUp m) s)

/-! ### Path delay (R366, R367) -/

/-- Time Unit time in 1/65,536 ns. -/
def timeSub (s : State) : Nat := s.tu.time / 2 ^ 24

/-- A Delay_Req or Pdelay_Req leaves, its egress time in originTimestamp (R366). -/
def ptpRequest (port : Nat) (s : State) : State :=
  let t : Nat := ((timeSub s : Int) + txLat s port).toNat
  let m : PtpMsg := { port := port, domain := par s 0x6001, profile := par s 0x6000, transport := ptpTransport s
                      management := false, seqId := s.tu.reqSeq, source := 0
                      origin := t, correction := 0, arrival := 0, twoStep := false, gmId := 0, rank := []
                      traceable := false }
  { s with tu := { s.tu with reqSent := some (s.tu.reqSeq, t), reqSeq := (s.tu.reqSeq + 1) % 65536
                             ptpOut := m :: s.tu.ptpOut } }

/-- The request interval ends: Delay_Req to the master, Pdelay_Req on a selected port. -/
def execPtpReqTimer (port : Nat) (s : State) : Host.Outcome State Fault Refusal :=
  done (if ptpRuns s && decide (port < 4) && (par s 0x6002).testBit port &&
      (par s 0x6000 != 0 || s.tu.master.map (·.port) == some port) then ptpRequest port s else s)

/-- Delay_Resp: the mean of the two directions (profile 0). -/
def ptpDelayResp (m : PtpMsg) (s : State) : State :=
  match s.tu.reqSent, s.tu.lastSync with
  | some (q, t3), some (t1, c, t2) =>
    if fromMaster s m && m.seqId == q && par s 0x6000 == 0 then
      { s with tu := { s.tu with reqSent := none
                                 meanPath := ((t2 : Int) - t1 - c + (m.origin - t3) - m.correction) / 2 } }
    else s
  | _, _ => s

def execPtpDelayResp (m : PtpMsg) (s : State) : Host.Outcome State Fault Refusal := done (ptpTake m (ptpDelayResp m) s)

/-- The turnaround of a Pdelay_Req that left its port `ns` after it came, in 1/65,536 ns: the latency of the port lies
before its arrival at the ball and after its departure (R365, R366). -/
def turnaround (s : State) (port ns : Nat) : Int := (ns * 65536 : Nat) + rxLat s port + txLat s port

/-- Pdelay_Req is answered in one step: the turnaround goes into correctionField (R364, R366). -/
def ptpPdelayReq (m : PtpMsg) (turnaroundNs : Nat) (s : State) : State :=
  if par s 0x6000 = 0 then s
  else
    let r := { m with source := 0, origin := 0, correction := m.correction + turnaround s m.port turnaroundNs, arrival := 0
                      twoStep := false }
    { s with tu := { s.tu with ptpOut := r :: s.tu.ptpOut } }

def execPtpPdelayReq (m : PtpMsg) (turnaroundNs : Nat) (s : State) : Host.Outcome State Fault Refusal :=
  done (ptpTake m (ptpPdelayReq m turnaroundNs) s)

/-- Pdelay_Resp: half of the round trip less the turnaround in correctionField. -/
def ptpPdelayResp (m : PtpMsg) (s : State) : State :=
  match s.tu.reqSent with
  | some (q, t1) =>
    if m.seqId = q ∧ par s 0x6000 ≠ 0 ∧ s.tu.master.map (·.port) = some m.port then
      { s with tu := { s.tu with reqSent := none
                                 meanPath := ((m.arrival : Int) - rxLat s m.port - t1 - m.correction) / 2 } }
    else s
  | none => s

def execPtpPdelayResp (m : PtpMsg) (s : State) : Host.Outcome State Fault Refusal := done (ptpTake m (ptpPdelayResp m) s)

/-! ### Steps (R371, R373) -/

/-- TIME_STEP_ACCEPT: mode 0 steps, mode 1 slews at TU_SLEW_PPB. -/
def startTimeStepAccept (tag : Nat) (p : Pkt) (s : State) : State :=
  if !s.tu.pendStep then finishSt tag St.timeNoPending s
  else
    let off := s.tu.pendOff
    let s1 := if pf p 0x14 1 = 0 then stepTime (timeAdd s.tu.time (-(off * 65536))) off s
      else { s with tu := { s.tu with
        tseq := (s.tu.tseq + 1) % 256, stepRec := some (s.tu.time, s.tu.time, off), pendStep := false, pendOff := 0
        outliers := [], refused := none, declined := false, slewing := true, slewLeft := -(off * 1000000000)
        slewPpb := par s 0x6007 } }
    finish tag { result := leBytes 8 (wrapTo 64 off) } (setTuState .acquiring s1)

def execTimeStepAccept (p : Pkt) (s : State) : Host.Outcome State Fault Refusal :=
  done (submit 0x0601 p startTimeStepAccept s)

/-- TIME_STEP_DECLINE: that grandmaster is ignored until another is selected. -/
def startTimeStepDecline (tag : Nat) (_p : Pkt) (s : State) : State :=
  if !s.tu.pendStep then finishSt tag St.timeNoPending s
  else finishSt tag St.ok { s with tu := { s.tu with pendStep := false, pendOff := 0, outliers := [], declined := true } }

def execTimeStepDecline (p : Pkt) (s : State) : Host.Outcome State Fault Refusal :=
  done (submit 0x0602 p startTimeStepDecline s)

/-- TIME_SET, with no master selected (R373). -/
def startTimeSet (tag : Nat) (p : Pkt) (s : State) : State :=
  if s.tu.master.isSome then finishSt tag St.timeMaster s
  else
    let t := timeUnpack (pf p 0x18 12)
    let off : Int := ((s.tu.time : Int) - t) / (nsUnit : Int)
    finishSt tag St.ok (stepTime t off { s with tu := { s.tu with timeSet := true } })

def execTimeSet (p : Pkt) (s : State) : Host.Outcome State Fault Refusal := done (submit 0x0603 p startTimeSet s)

/-- R371: an accepted slew has been consumed; what of it is left has passed by then. -/
def slewDone (s : State) : State :=
  if s.tu.slewing then
    raise 164 { s with tu := { s.tu with
      time := timeAdd s.tu.time (s.tu.slewLeft * 65536 / 1000000000), slewing := false, slewLeft := 0 } }
  else s

def execTimeSlewDone (s : State) : Host.Outcome State Fault Refusal := done (slewDone s)

end Sys2Proof.Machine
end

