-- ==== Sys2Proof/Machine/Ray.lean ====
section
/-! DEFINITION. The Ray Engine: facet buffers written, the kept flats, the governor, renders and their statistics, and the
table loads (chapter 7, R251). -/
namespace Sys2Proof.Machine

/-- A facet buffer and its statistics written. -/
def writeFacet (v : View) (r : Render) (meas : RenderMeas) (s : State) : State :=
  let m := s.mem
  let m1 := memFillWhole (facetBase r.buf) 530841600 (fun i =>
    BitVec.ofNat 8 (pixelWord m v r (i / 4 % 15360) (i / 4 / 15360) / 256 ^ (i % 4))) m
  let m2 := (List.range 270).foldl (fun u ty => (List.range 480).foldl (fun u tx =>
    memStore (statBase r.buf + 16 * (480 * ty + tx)) (tileRecord m v r meas tx ty) u) u) m1
  { s with mem := m2
           ray := { s.ray with zoneRec := tset s.ray.zoneRec r.buf (zoneRecords (pixelWord m v r)) } }

/-! ### Note flats (R166, R167) -/

/-- The flat of a note is valid for a frame with a set: nothing it depends on has changed since it was built, by an epoch that
the frame comes after (R167). -/
def flatValid (s : State) (c : ConfigSet) (i : Nat) : Bool :=
  s.ray.flats.any (fun f => { f with old := false } == flatRec c i && (!f.old || s.cfg.outgoing == some c))

/-- A flat built (R166, R178). -/
def buildFlat (c : ConfigSet) (bufs : Bufs) (i : Nat) (s : State) : State :=
  let (wf, hf) := flatSize c i
  let m := s.mem
  let m1 := (List.range hf).foldl (fun u y =>
    memStore (flatBase i + 8 * y * wf) ((List.range wf).flatMap (fun x => pxBytes (flatPx m c bufs i x y))) u) m
  count .rayFlatBuild { s with mem := m1
                               ray := { s.ray with flats := flatRec c i :: s.ray.flats.filter (fun f => f.slot != i) } }

/-! ### The governor (R175 to R180) -/

/-- Active clusters at a throttle step (R180); only LIGHTFIELD timing reduces them (Table 22-3, log 31). -/
def clusterCount (step : Nat) : Nat := if step < 8 then 48 else 48 - 2 * (step - 7)

/-- Predicted lane clocks and bytes at a level (R177). -/
def predict (s : State) (c : ConfigSet) (m : Measured) (k : Nat) : Int × Int :=
  let list := mergeList c
  let idx := fun i => list.idxOf i
  let wh := fun i => (flatSize c i).1 * (flatSize c i).2
  let en := fun i => (notePlanes c (noteAt c i)).length
  let bytes := fun i => ((notePlanes c (noteAt c i)).map (fun p => dLen (planeOf c p))).sum
  let clk := fun i =>
    if decide (idx i < k) = m.merged.contains i then m.s.getD i 0
    else if idx i < k then m.r.getD i 0 else m.r.getD i 0 * en i
  let byt := fun i =>
    if decide (idx i < k) = m.merged.contains i then m.g.getD i 0
    else if idx i < k then wh i * 8 else bytes i
  let build := ((list.take k).filter (fun i => !flatValid s c i)).map (fun i => wh i * en i)
  ((m.t : Int) - (list.map (fun i => m.s.getD i 0)).sum + (list.map clk).sum + build.sum,
   (m.gt : Int) - (list.map (fun i => m.g.getD i 0)).sum + (list.map byt).sum)

/-- The clocks and bytes of a prediction lie within a percentage of the budgets (R177); T16 is 240 ÷ speed in 1/16 rpm. -/
def withinBudget (s : State) (pct clusters : Nat) (p : Int × Int) : Bool :=
  let gbs := min (par s 0x400F) (memGrants s % 256)
  decide (p.1 * (100 * s.rot.speed16 : Nat) ≤ (pct * 16 * clusters * 1250000000 * 240 : Nat)) &&
  decide (p.2 * (100 * s.rot.speed16 : Nat) ≤ (pct * gbs * 1000000000 * 240 : Nat))

/-- The limits of the level: m_min and m_max (R175). -/
def levelLimits (c : ConfigSet) : Nat × Nat :=
  let hi := min (setParam c 0x400D) (mergeList c).length
  (min (setParam c 0x400C) hi, hi)

/-- The level raised until the prediction fits. -/
def raiseLevel (fits : Nat → Bool) (hi : Nat) : Nat → Nat → Nat
  | 0, m => m
  | n + 1, m => if m < hi && !fits m then raiseLevel fits hi n (m + 1) else m

/-- The highest level up to one that needs no more than one new flat (R178). -/
def oneFlat (s : State) (c : ConfigSet) (m : Nat) : Nat :=
  ((((List.range (m + 1)).reverse).find? (fun k =>
    decide (((((mergeList c).take k).filter (fun i => !flatValid s c i)).length) ≤ 1)))).getD 0

/-- The level at a facet start, and the run of frames that met the low test (R177, R178). Without measurements the
level is held to its limits. -/
def chooseLevel (s : State) (c : ConfigSet) (j clusters : Nat) : Nat × Nat :=
  let (lo, hi) := levelLimits c
  if par s 0x4008 = 0 then (oneFlat s c lo, 0)
  else
    let m0 := min (max s.ray.level lo) hi
    match s.ray.meas with
    | none => (oneFlat s c m0, 0)
    | some meas =>
      let hiPct := par s 0x4009
      let loPct := min (par s 0x400A) (hiPct - 5)
      let m1 := raiseLevel (fun k => withinBudget s hiPct clusters (predict s c meas k)) hi 17 m0
      let low := decide (lo < m0) && withinBudget s loPct clusters (predict s c meas (m0 - 1))
      let run := if j ≠ 0 then s.ray.lowRun else if low then s.ray.lowRun + 1 else 0
      if m1 = m0 ∧ j = 0 ∧ lo < m0 ∧ par s 0x400B ≤ run then (oneFlat s c (m0 - 1), 0)
      else (oneFlat s c m1, if m1 = m0 then run else 0)

/-! ### The start of a render (R171, R172, R174) -/

/-- The facet whose render may start at an angle: its F_j lies one facet ahead. -/
def facetAhead (x : Nat) : Nat := (x / 16384 + 1) % 4

/-- The mode a frame is rendered in: the new one from the dark revolution of a change on; the revolution before it finishes
its facets under the old mode (R263). -/
def renderMode (s : State) : Mode := if s.ray.switchRev = 1 then s.cfg.active.mode else s.cond.mode

/-- Rendering has FLAT timing. -/
def renderFlat (s : State) : Bool :=
  renderMode s == .flat || (renderMode s == .service && !s.cond.svcTiming)

/-- The mode and conditions let the engine run (R174, Table 22-3). -/
def rayMay (s : State) : Bool :=
  s.rot.angleValid && !anyStop s && !s.cond.bivouac && s.cond.seq.isNone && !s.acc.lateFrame && s.ray.switchRev != 2 &&
  !s.pwr.episode &&
  (match renderMode s with
   | .lightfield => slotReady s s.cfg.active
   | .flat => true
   | .service => !s.cond.svcTiming || slotReady s s.cfg.active
   | .test => s.pnl.state == .on && s.rot.litOk && slotReady s s.cfg.active
   | .parked => false)

/-- The set of the frame that a facet belongs to: facet 3 renders past the latch angle (R171). -/
def renderSet (s : State) (j : Nat) : ConfigSet := if j = 3 then s.cfg.outgoing.getD s.cfg.active else s.cfg.active

/-- The render of a facet may start: its turn, its composition ended, the one before ended (R172, R141). -/
def rayTurn (s : State) (j : Nat) : Bool :=
  s.ray.render.isNone && !s.ray.done.getD j false &&
  (if j = 0 then rayMay s else s.ray.running && s.ray.nextFacet == some j && !renderFlat s) &&
  !((s.acc.comp.map (fun k => k.facet == j || k.late)).getD false)

/-- At the start of facet j the buffers that wait for it are swapped in, and any left from an earlier facet; those that
wait for the facet after it keep waiting (R137). -/
def swapFor (j : Nat) (s : State) : State :=
  swapIn (fun t => renderFlat s || !s.ray.running || t.serves != (j + 1) % 4) s

/-- A render starts: swaps, the governor's level, one flat at most (R137, R172, R177 to R180). -/
def renderStart (x j : Nat) (s : State) : State :=
  let s1 := swapFor j s
  let c := renderSet s1 j
  let flat := renderFlat s1
  let clusters := if flat then 48 else clusterCount s1.therm.step
  let governs := !flat && setParam c 0x4001 == 0
  let (lvl, run) := if governs then chooseLevel s1 c j clusters else (s1.ray.level, s1.ray.lowRun)
  let bufs : Bufs := s1.acc.targets.map (fun e => (e.1, e.2.slot, e.2.read))
  let build := if governs then ((mergeList c).take lvl).find? (fun i => !flatValid s1 c i) else none
  let s2 := match build with
    | some i => buildFlat c bufs i s1
    | none => s1
  let buf := match s2.ray.shown.getD j none with
    | some b => if b = j then j + 4 else j
    | none => j
  let s3 := raiseIf (governs && lvl != s.ray.level) 114 s2
  { s3 with ray := { s3.ray with
      running := true, level := lvl, lowRun := run, listLen := (mergeList c).length, clusters := clusters
      throttle := s3.therm.step, facet := j, escalated := false
      nextFacet := some (if flat then 0 else (j + 1) % 4)
      render := some { facet := j, buf := buf, set := c, level := lvl, levelStart := lvl
                       startAtk := x, flatBuilt := build.isSome, clusters := clusters, step := s3.therm.step
                       govern := par s3 0x4008 == 1, escalates := par s3 0x400E == 1
                       flat := flat, bufs := bufs, cams := s3.acc.targets.flatMap (fun e => e.2.cams) } } }

/-- R172: a facet render starts. -/
def execRenderStart (atk : Nat) (s : State) : Host.Outcome State Fault Refusal :=
  done (
    let j := facetAhead (atk % 65536)
    if rayTurn s j && !(renderFlat s && j != 0) then renderStart (atk % 65536) j (angleTo (atk % 65536) s) else s)

/-! ### Its end (R170, R171, R173, R176, R181) -/

/-- ATK from the earliest start of a facet's render to an angle. -/
def renderPos (j x : Nat) : Nat := (x + 65536 * 2 - (j + 3) % 4 * 16384) % 65536

/-- RAY_LAST_DONE (Table 7-10). -/
def lastDoneWord (j : Nat) (ofs : Int) (late : Bool) : Word :=
  BitVec.ofNat 32 (wrapTo 16 ofs + j % 4 * 2 ^ 16 + bit late 18)

/-- The outgoing epoch is released when the render of facet 3 ends (R171). -/
def releaseOutgoing (j : Nat) (s : State) : State :=
  if j = 3 then { s with cfg := { s.cfg with outgoing := none } } else s

/-- Cache parity errors of a render: each discards its line, which is fetched again, and is counted (R184). -/
def cacheParity (meas : RenderMeas) (s : State) : State := countN .rayParity meas.parity s

/-- A render completes: its buffer and statistics are written, the head store of the coming scan is filled, and scan-out may
start the facet (R173, R243, R252). A facet that may not be shown then is not shown later in its window either (R283). -/
def renderComplete (x : Nat) (meas : RenderMeas) (r : Render) (s : State) : State :=
  let j := r.facet
  let pos := renderPos j x
  let v := viewOf s r
  let s1 := cacheParity meas (writeFacet v r meas s)
  let s2 := releaseOutgoing j { s1 with
    ray := { s1.ray with render := none, shown := s1.ray.shown.set j (some r.buf), done := s1.ray.done.set j true
                         lastDone := lastDoneWord j ((pos : Int) - 16384) false
                         meas := some (measureRender s.mem v r meas 129600)
                         recs := s1.ray.recs.set j (renderRec r false) }
    sco := { s1.sco with headNew := some (fillHead s1.mem r.buf) }
    acc := { s1.acc with facetCams := tset s1.acc.facetCams j r.cams } }
  if s2.sco.awaiting = some j then
    if canShow s2 && !s2.sco.barred then startFacet j (pos + 1 - 16384) false s2
    else { s2 with sco := { s2.sco with barred := true } }
  else s2

/-- R173: a render completes before its deadline. -/
def execRenderComplete (atk : Nat) (meas : RenderMeas) (s : State) : Host.Outcome State Fault Refusal :=
  done (match s.ray.render with
    | none => s
    | some r =>
      if renderPos r.facet atk < 18432 then renderComplete atk meas r (angleTo (atk % 65536) s) else s)

/-- A render not complete at F_j + 2,048 is abandoned (R173). -/
def abandonRender (j : Nat) (meas : RenderMeas) (s : State) : State :=
  match s.ray.render with
  | none => s
  | some r =>
    if r.facet = j then
      let s1 := cacheParity meas (cutRender r meas s)
      raise 112 (count .rayLate { s1 with ray := { s1.ray with lastDone := lastDoneWord j 2048 true } })
    else s

/-! ### Escalation (R179) -/

/-- The end is projected later than F_j + 1,792. -/
def projectsLate (r : Render) (x tiles : Nat) : Bool :=
  let pos := renderPos r.facet x
  let elapsed := pos - renderPos r.facet r.startAtk
  decide (18176 * tiles < pos * tiles + elapsed * (129600 - tiles))

/-- One check: the level rises for the tiles issued after it, or stays (R179). GOV_ENABLE and GOV_ESCALATE are those of the
render's start (R188). -/
def escalate (x tiles : Nat) (r : Render) (s : State) : State :=
  let r0 := { r with checked := tiles }
  let s0 := { s with ray := { s.ray with render := some r0 } }
  let hi := (levelLimits r.set).2
  match (mergeList r.set)[r.level]? with
  | none => s0
  | some n =>
    let valid := flatValid s r.set n
    if r.escalates ∧ r.govern ∧ ¬ r.flat ∧ setParam r.set 0x4001 = 0 ∧
        r.level < hi ∧ projectsLate r x tiles ∧ (valid ∨ ¬ r.flatBuilt) then
      let s1 := if valid then s0 else buildFlat r.set r.bufs n s0
      raise 113 (count .rayEscalate { s1 with ray := { s1.ray with
        level := r.level + 1, escalated := true
        render := some { r0 with level := r.level + 1, tilesAt := r.tilesAt ++ [(tiles, r.level + 1)]
                                 escalations := r.escalations + 1, flatBuilt := r.flatBuilt || !valid } } })
    else s0

/-- The next check of a render is due after this many tiles. -/
def checkDue (r : Render) (tiles : Nat) : Bool := tiles == r.checked + 16200 && decide (tiles < 129600)

/-- R179: the check after every 16,200 tiles. -/
def execGovEscalationCheck (atk tiles : Nat) (s : State) : Host.Outcome State Fault Refusal :=
  done (match s.ray.render with
    | none => s
    | some r => if checkDue r tiles then escalate (atk % 65536) tiles r (angleTo (atk % 65536) s) else s)

/-! ### Table loads (R187, R251) -/

/-- RAY_LUT_LOAD. -/
def startRayLutLoad (tag : Nat) (p : Pkt) (s : State) : State :=
  let sel := pf p 0x14 1
  let bs := pdata s p
  let n := if sel = 0 then 256 else 1024
  let es := u16s bs n
  if 4 < sel ∨ bs.length ≠ 2 * n then finishSt tag St.lutFormat s
  else if es.any (fun v => decide ((if sel < 2 then 4095 else 1023) < v)) then finishSt tag St.lutRange s
  else finishSt tag St.ok (onDraft (fun c => { c with luts := tset c.luts sel es }) s)

def execRayLutLoad (p : Pkt) (s : State) : Host.Outcome State Fault Refusal := done (submit 0x0401 p startRayLutLoad s)

/-- TC_LUT_LOAD. -/
def startTcLutLoad (tag : Nat) (p : Pkt) (s : State) : State :=
  let bs := pdata s p
  let es := u16s bs 1089
  if bs.length ≠ 2178 then finishSt tag St.lutFormat s
  else if es.any (fun v => decide (2047 < v)) then finishSt tag St.lutRange s
  else finishSt tag St.ok (onDraft (fun c => { c with tc := some es }) s)

def execTcLutLoad (p : Pkt) (s : State) : Host.Outcome State Fault Refusal := done (submit 0x0402 p startTcLutLoad s)

/-! ### Registers (Tables 7-8 to 7-10) -/

def rayStatus (s : State) : Nat :=
  s.ray.level % 32 + s.ray.listLen % 32 * 2 ^ 5 + s.ray.clusters % 64 * 2 ^ 10 + s.ray.facet % 4 * 2 ^ 16 +
  bit s.ray.render.isSome 18 + bit (s.ray.render.isSome && s.ray.escalated) 19 + s.ray.throttle % 16 * 2 ^ 20

def rayReg (s : State) (off : Nat) : Nat :=
  if off = 0x000 then ctrReg s .rayLate
  else if off = 0x004 then ctrReg s .rayEscalate
  else if off = 0x008 then ctrReg s .rayFlatBuild
  else if off = 0x00C then ctrReg s .rayParity
  else if off = 0x010 then rayStatus s
  else if off = 0x014 then s.ray.lastDone.toNat
  else 0

end Sys2Proof.Machine
end

