-- ==== Sys2Proof/Machine/Scan.lean ====
section
/-! DEFINITION. Scan-out: the start of facets, row slots with their packets, latches and underruns (chapter 10). -/
namespace Sys2Proof.Machine

/-! ### Facets (R242 to R244, R258) -/

/-- CALIBRATE at a facet start: a zone carried by a spare gives way to the next in each blank, one held dark after
three facets (R481). -/
def calFacet (s : State) : State :=
  match s.therm.calRun with
  | none => s
  | some r =>
    if r.item ≠ 0 then s
    else
      let last := if r.spares then 1 else 3
      let zs := if r.facets < last then r.zones else r.zones.drop 1
      let n := if zs.isEmpty then 0 else if r.facets < last then r.facets + 1 else 1
      { s with therm := { s.therm with
          calRun := some { r with zones := zs, facets := n }
          spareZone := if r.spares then zs.head? else none } }

/-- A render of facet `j` for its coming start is complete. -/
def renderDone (s : State) (j : Nat) : Bool := s.ray.done.getD j false && (shownOf s j).isSome

/-- The links at a facet start: PLT_BLANK_L1S takes effect, the lanes have left L1s, and every link may be polled in the
blank that follows (R279, R284, R297). -/
def facetLinks (s : State) : State :=
  { s with plt := { s.plt with blankL1s := par s 0x4300 == 1, state := if s.plt.state = .l1s then .l0 else s.plt.state }
           gcl := { s.gcl with polled := List.replicate 32 false } }

/-- R243: at F_j the facet starts when its render has completed, and otherwise waits in its start window. -/
def facetNominal (j : Nat) (s : State) : State :=
  let s1 := fillHeads j (calFacet (facetLinks s))
  if canShow s1 && renderDone s1 j then startFacet j 0 false s1
  else { s1 with sco := { s1.sco with awaiting := some j, barred := !canShow s1 } }

/-- A drum facet of FLAT other than facet 0: its start scans nothing, but its throttle step is recorded (Table 20-2). -/
def flatFacet (s : State) (j : Nat) : Bool := s.sco.flat && decide (0 < j) && decide (j < 4) && hasFacet s 0

/-- The throttle step at the start of a drum facet of FLAT. -/
def flatNominal (j : Nat) (s : State) : State :=
  facetLinks
    { s with sco := { s.sco with frame := s.sco.frame.set j { s.sco.frame.getD j {} with step := s.therm.step } } }

def execFacetNominalStart (j : Nat) (s : State) : Host.Outcome State Fault Refusal :=
  done (if hasFacet s j then angleFire 1 (16384 * j) (facetNominal j) s
    else if flatFacet s j then angleFire 1 (16384 * j) (flatNominal j) s else s)

/-- R244: at F_j + 2,048 an unfinished render is abandoned; a facet that has not started is a repeat or dark. It is dark
where something kept it from being shown within its window (R283, R352). -/
def windowClose (j : Nat) (meas : RenderMeas) (s : State) : State :=
  let s1 := releaseOutgoing j (abandonRender j meas s)
  if s1.sco.awaiting = some j then
    if canShow s1 && !s1.sco.barred && (shownOf s1 j).isSome then startFacet j 2048 true s1 else darkFacet j s1
  else s1

def execStartWindowClose (j : Nat) (meas : RenderMeas) (s : State) : Host.Outcome State Fault Refusal :=
  done (when (hasFacet s j) (angleFire 2 (16384 * j + 2048) (windowClose j meas)) s)

/-! ### Transition compensation (R249 to R251) -/

/-- Node N[p][q] of the table of a set. -/
def tcNode (c : ConfigSet) (p q : Nat) : Nat := match c.tc with
  | some t => t.getD (33 * p + q) 0
  | none => 32 * q

/-- out(a, b) of R249. -/
def tcOut (c : ConfigSet) (a b : Nat) : Nat :=
  let ia := min (a / 32) 31
  let fa := a - 32 * ia
  let ib := min (b / 32) 31
  let fb := b - 32 * ib
  let v := tcNode c ia ib * (32 - fa) * (32 - fb) + tcNode c (ia + 1) ib * fa * (32 - fb) +
    tcNode c ia (ib + 1) * (32 - fa) * fb + tcNode c (ia + 1) (ib + 1) * fa * fb
  min ((v + 512) / 1024) 1023

/-! ### Row slots (R245 to R247, R269 to R276) -/

/-- The place of a pixel in a head store: row pairs 0 to 7 only (R252). -/
def headPlace (x y : Nat) : Option Nat :=
  if y < 8 then some (15360 * y + x) else if 4320 ≤ y ∧ y < 4328 then some (15360 * (y - 4312) + x) else none

/-- The word that the scan takes for a pixel: of the head store for row pairs 0 to 7, of the buffer after them; and whether
its data are missing for good (R252, Table 13-5). -/
def scanWord (m : Mem) (h : Option HeadStore) (b x y : Nat) : Nat × Bool :=
  match h, headPlace x y with
  | some st, some i => (st.words.getD i 0, st.lost.contains i)
  | _, _ => (bufWord m b x y, !(m.poison.isEmpty && m.chanFail == 0) && memPoisoned m (facetPixel b x y) 4)

/-- The value sent for a subpixel, column `c` of panel row `y`, and whether data for it are missing. -/
def scanValue (s : State) (c y : Nat) : Nat × Bool :=
  let v (h : Option HeadStore) (b : Nat) := let w := scanWord s.mem h b (c / 3) y; (wordChan w.1 (c % 3), w.2)
  match s.sco.buf with
  | none => (0, false)
  | some b =>
    match s.sco.tcActive, s.sco.prevBuf with
    | true, some a =>
      let p := v s.sco.headPrev a
      let q := v s.sco.headShown b
      (tcOut s.sco.frameSet p.1 q.1, p.2 || q.2)
    | _, _ => v s.sco.headShown b

/-- Panel row of a lane in a row pair: lanes 0 to 127 feed the top edge, 128 to 255 the bottom edge. -/
def laneRow (lane row : Nat) : Nat := if lane < 128 then row else 4320 + row

/-- Direction of a lane's edge (R247). -/
def laneDir (s : State) (lane : Nat) : Nat := setParam s.sco.frameSet (if lane < 128 then 0x4204 else 0x4205)

/-- The 360 values of a lane in the order of oriented fetch, each with whether its data are missing. -/
def laneValues (s : State) (lane row : Nat) : List (Nat × Bool) :=
  let cols := (List.range 360).map (fun i => 360 * (lane % 128) + if laneDir s lane = 0 then i else 359 - i)
  cols.map (fun c => scanValue s c (laneRow lane row))

/-- FACET as packets and ROW frames carry it: 0 in FLAT. -/
def sentFacet (s : State) : Nat := if s.sco.flat then 0 else s.sco.facet

/-- A lane in underrun sends the last value it sent in place of each missing one (R254). -/
def holdLast : Nat → List (Nat × Bool) → List Nat
  | _, [] => []
  | last, (v, gone) :: l => (if gone then last else v) :: holdLast (if gone then last else v) l

/-- The values that a lane sends in a slot, and whether it underruns: `miss` gives, by lane, the places of the values
whose data arrived too late. -/
def laneSent (s : State) (miss : List (Nat × Nat × Nat)) (lane row : Nat) : List Nat × Bool :=
  let late := fun i : Nat => miss.any (fun e => e.1 == lane && decide (e.2.1 ≤ i) && decide (i < e.2.1 + e.2.2))
  let vs := (laneValues s lane row).mapIdx (fun i v => (v.1, v.2 || late i))
  (holdLast (s.plt.lastVal.getD lane 0) vs, vs.any (·.2))

/-- The packet of a lane with given values. -/
def lanePacket (s : State) (lane row : Nat) (vs : List Nat) : LinkFrame :=
  { link := lane, bits := polarize s lane (rowPacket lane row 0 (sentFacet s) vs) }

/-- The row packets of a slot, by lane, with what each lane has to send. -/
def slotPackets (s : State) (row : Nat) : List LinkFrame :=
  (List.range 256).map (fun l => lanePacket s l row (laneSent s [] l row).1)

/-- Length of a row slot in ATK. -/
def slotAtk (s : State) : Nat := if s.sco.flat then 12 else 3

/-- Bits that a lane can send in a row slot at the measured speed: 5.4 or 2.7 Gbit/s (R258, R276). -/
def slotBits (s : State) : Nat :=
  slotAtk s * (if s.plt.rate27 then 27 else 54) * 96000000000 / (s.rot.speed16 * 65536)

/-- A packet as it leaves the lane: what has not been sent at W_i is cut off, which counts as an underrun (R248, R276). -/
def cutPacket (s : State) (f : LinkFrame) : LinkFrame × Bool :=
  if s.rot.speed16 ≠ 0 ∧ slotBits s < f.bits.length then ({ f with bits := f.bits.take (slotBits s) }, true) else (f, false)

/-- What a lane has sent when its row is latched: its packet, whether it underran, and the value it sent last. -/
def laneLatched (s : State) (miss : List (Nat × Nat × Nat)) (row lane : Nat) : LinkFrame × Bool × Nat :=
  let v := laneSent s miss lane row
  let p := cutPacket s (lanePacket s lane row v.1)
  (p.1, v.2 || p.2, v.1.getLast?.getD 0)

/-- S_j within the revolution. -/
def scanStart (s : State) : Nat := 16384 * s.sco.facet + s.sco.startOfs

/-- The latency tolerance stated in a slot: the row pairs buffered beyond it, in ns at the measured speed (R253). -/
def slotTolerance (s : State) (ahead : Nat) : Nat := ahead * slotAtk s * 960000000000 / (s.rot.speed16 * 65536)

/-- R276: a slot starts, and the lanes send the packets of its row pair. `ahead` is the fill of the line buffer beyond this
slot, 16 row pairs at most (R253). -/
def rowSlotStart (ahead : Nat) (s : State) : State :=
  let s1 := angleTo (scanStart s + slotAtk s * s.sco.row) s
  let s2 := { s1 with
    sco := { s1.sco with inSlot := true, rowsAhead := min ahead 16, tolerance := slotTolerance s1 (min ahead 16) }
    plt := { s1.plt with packets := slotPackets s1 s1.sco.row, reps := 1 } }
  onMem (fun m => { m with urgentSeen := m.urgentSeen || scoUrgent s2 }) s2

def execRowSlotStart (ahead : Nat) (s : State) : Host.Outcome State Fault Refusal :=
  done (if s.sco.scanning && !s.sco.inSlot && decide (s.sco.row < 4320) && s.plt.state == .l0 && live s then
    if canShow s then rowSlotStart ahead s else { s with sco := { s.sco with scanning := false } }
  else s)

/-! ### Latch and underrun (R245, R254, R289) -/

def underrunCtr (q : Nat) : Ctr := [Ctr.underrun0, .underrun1, .underrun2, .underrun3].getD q .underrun0

/-- The underrun rows of a facet record with a slot's quadrants added. -/
def addUnderrun (late : BitVec 4) (f : FacetRec) : FacetRec :=
  { f with underrun := (List.range 4).map (fun q => f.underrun.getD q 0 + if late.getLsbD q then 1 else 0) }

/-- The quadrant of a lane (Table 10-2). -/
def laneQuadrant (lane : Nat) : Nat := lane / 64 % 4

/-- The quadrants in which some lane underran. -/
def lateQuadrants (sent : List (LinkFrame × Bool × Nat)) : BitVec 4 :=
  BitVec.ofNat 4 (((List.range 4).map (fun q => bit (sent.any (fun e => e.2.1 && laneQuadrant e.1.link == q)) q)).sum)

/-- Underruns of a slot: counted by quadrant, entered under the drum facet of the latch, source 33 at the first of a
facet. -/
def underruns (late : BitVec 4) (s : State) : State :=
  if late = 0 then s
  else
    let j := if s.sco.flat then atk s / 16384 else s.sco.facet
    let s1 := (List.range 4).foldl (fun t q => when (late.getLsbD q) (count (underrunCtr q)) t) s
    let s2 := raiseIf (!s1.sco.underrunSeen) 33 s1
    { s2 with
      sco := { s2.sco with underrunSeen := true
                           frame := s2.sco.frame.set j (addUnderrun late (s2.sco.frame.getD j {})) } }

/-- The scan goes on after a latch: rows are left, and nothing has stopped it (R264). -/
def scanGoesOn (i : Nat) (s : State) : Bool := decide (i + 1 < 4320) && canShow s && s.sco.buf.isSome

/-- A row pair is latched at W_i, with the values whose data came too late: what the lanes sent is settled, the ROW frame
ends, and the scan goes on, ends, or stops (R254, R264). -/
def rowLatch (miss : List (Nat × Nat × Nat)) (s : State) : State :=
  let i := s.sco.row
  let sent := (List.range 256).map (laneLatched s miss i)
  let s1 := underruns (lateQuadrants sent) (angleTo (scanStart s + slotAtk s * (i + 1))
    { s with plt := { s.plt with packets := sent.map (·.1), lastVal := sent.map (·.2.2) } })
  let s2 := gcSend 32 (rowBody i (sentFacet s1) s1.sco.flat) s1
  { s2 with sco := { s2.sco with
    inSlot := false, row := i + 1
    scanning := scanGoesOn i s2
    rowsAhead := if scanGoesOn i s2 then s2.sco.rowsAhead else 0
    written := if s2.sco.flat && (i + 1) % 1080 = 0 then s2.sco.written.set ((i + 1) / 1080 - 1) true
               else s2.sco.written } }

def execRowLatch (miss : List (Nat × Nat × Nat)) (s : State) : Host.Outcome State Fault Refusal :=
  done (if s.sco.scanning && s.sco.inSlot && live s then rowLatch miss s else s)

/-! ### Registers (Tables 10-6 to 10-8) -/

def scoStatus (s : State) : Nat :=
  s.sco.facet + bit s.sco.scanning 2 + bit s.sco.repeating 3 + bit s.sco.isDark 4 + bit s.sco.flat 5 +
  bit s.sco.tcActive 6 + s.sco.rowsAhead * 2 ^ 7 + bit (scoUrgent s) 12

def scoReg (s : State) (off : Nat) : Nat :=
  if off = 0x000 then scoStatus s
  else if off = 0x004 then s.sco.lastStart.toNat
  else if 0x010 ≤ off ∧ off ≤ 0x01C then ctrReg s (underrunCtr ((off - 0x010) / 4))
  else if off = 0x020 then ctrReg s .scoRepeat
  else if off = 0x024 then ctrReg s .scoDark
  else 0

end Sys2Proof.Machine
end

