-- ==== Sys2Proof/Machine/Zones.lean ====
section
/-! DEFINITION. Backlight zones: pulses, currents, mid-pulse checks, zone faults and the sink on-time limit
(chapters 10, 12, 17 and 18). -/
namespace Sys2Proof.Machine

/-! ### When a zone row is lit (R255, R259) -/

/-- W(k) of zone rows k and k + 4, which share their slots, within the revolution. -/
def lastWrite (s : State) (row : Nat) : Nat :=
  if s.sco.flat then s.sco.startOfs + 12960 * (row % 4 + 1) else scanStart s + 3240 * (row % 4 + 1)

/-- The angle at which zone row `row` starts its pulse in FLAT in the quarter `w` of the revolution, if it has one. -/
def flatPulse (s : State) (row w : Nat) : Option Nat :=
  let c := s.sco.frameSet
  let on := setParam c 0x4201
  let opens := 16384 * w + setParam c 0x4202
  let closes := 16384 * (w + 1) - setParam c 0x4203
  let settled := lastWrite s row + setParam c 0x4200
  let wrote := s.sco.awaiting.isNone && decide (1080 * (row % 4 + 1) ≤ s.sco.row)
  if closes < opens + on then none
  else if opens + on ≤ 12960 * (row % 4) then some opens
  else if wrote && decide (settled ≤ opens) then some opens
  else if wrote && decide (opens < settled) && decide (settled + on ≤ closes) then some settled
  else none

/-- The angle at which a zone row starts its pulse in the present facet, if it has one. -/
def pulseStart (s : State) (row : Nat) : Option Nat :=
  let c := s.sco.frameSet
  if s.sco.flat then (if s.sco.written.getD (row % 4) false then flatPulse s row (atk s / 16384) else none)
  else if s.sco.awaiting.isNone && decide (1080 * (row % 4 + 1) ≤ s.sco.row) then
    some (max (lastWrite s row + setParam c 0x4200) (16384 * s.sco.facet + setParam c 0x4202))
  else none

/-! ### Zone currents (R310, R311, R476) -/

/-- MAX of a zone in the buffer being scanned. -/
def zoneMax (s : State) (z : Nat) : Nat :=
  match s.sco.buf with
  | some b => ((tget s.ray.zoneRec b []).getD z (0, 0)).1
  | none => 0

/-- A zone's bit in BL_ZONE_EN. -/
def zoneEnabled (c : ConfigSet) (z : Nat) : Bool := (setParam c (0x4410 + z / 32)).testBit (z % 32)

/-- CALIBRATE holds a zone dark (R481). -/
def calDark (s : State) (z : Nat) : Bool :=
  match s.therm.calRun with
  | some r => r.item == 0 && !r.spares && decide (0 < r.facets) && r.zones.head? == some z
  | none => false

/-- I of R310, in mA. -/
def zoneCurrent (s : State) (z : Nat) : Nat :=
  let c := s.sco.frameSet
  if !zoneEnabled c z || s.bl.fault.getLsbD z || calDark s z then 0
  else
    let thr := min (setParam c (0x4480 + z)) (setParam c 0x4400) * (16 - s.therm.step) / 16
    let capd := thr * s.bl.cap / 64
    if setParam c 0x4401 = 1 ∧ zoneMax s z < setParam c 0x4402 then capd * setParam c 0x4403 / 16 else capd

/-- The sink whose calibration applies to a zone: a spare while it carries the zone (R475, R481). -/
def zoneSink (s : State) (z : Nat) : Nat := if s.therm.spareZone = some z then 128 + Config.spareOf z % 4 else z

/-- The DAC code of a sink for a current (R476). -/
def dacCode (s : State) (sink ma : Nat) : Nat :=
  let cal := par s (0xA000 + sink)
  (clampI 0 4095 (roundDiv ((ma * 20 * (cal % 65536) : Nat) : Int) 32768 + sext 16 (cal / 65536))).toNat

/-- The zones of a zone row. -/
def rowZones (row : Nat) : List Nat := (List.range 16).map (· + 16 * row)

/-- A zone's current set for a pulse. -/
def lightZone (s : State) (z : Nat) : State :=
  let i := zoneCurrent s z
  { s with bl := { s.bl with
    current := s.bl.current.set z i
    dac := s.bl.dac.set z (if i = 0 then 0 else dacCode s (zoneSink s z) i)
    sinkOn := if i = 0 then s.bl.sinkOn &&& ~~~(BitVec.ofNat 128 (2 ^ z)) else s.bl.sinkOn ||| BitVec.ofNat 128 (2 ^ z) } }

/-- The quarter revolution of this moment, counted from 1. -/
def quarter (s : State) : Nat := s.rot.angle.toNat / 16384 + 1

/-- R255, R257: a pulse of ZONE_ON_ATK starts at E, or is skipped while something forbids light. -/
def zonePulse (row x : Nat) (s : State) : State :=
  let s1 := angleTo x s
  let s2 := { s1 with bl := { s1.bl with pulsed := s1.bl.pulsed.set row (quarter s1)
                                         pulseEnd := s1.bl.pulseEnd.set row (x + setParam s1.sco.frameSet 0x4201) } }
  if mayLight s2 && !s2.sco.isDark then
    let s3 := (rowZones row).foldl lightZone s2
    { s3 with bl := { s3.bl with lit := s3.bl.lit.set row true, throttle := s3.therm.step } }
  else s2

def execZonePulseStart (row : Nat) (s : State) : Host.Outcome State Fault Refusal :=
  done (match pulseStart s row with
    | some x =>
      if row < 8 ∧ live s ∧ s.rot.angleValid ∧ s.bl.pulsed.getD row 0 ≠ quarter s then zonePulse row x s else s
    | none => s)

/-- A zone goes dark. -/
def darkZone (s : State) (z : Nat) : State :=
  { s with bl := { s.bl with
    current := s.bl.current.set z 0, dac := s.bl.dac.set z 0
    sinkOn := s.bl.sinkOn &&& ~~~(BitVec.ofNat 128 (2 ^ z)) } }

/-- R255, R259: a pulse ends at E + ZONE_ON_ATK. -/
def execZonePulseEnd (row : Nat) (s : State) : Host.Outcome State Fault Refusal :=
  done (if s.bl.lit.getD row false then
    let s1 := (rowZones row).foldl darkZone (angleTo (s.bl.pulseEnd.getD row 0) s)
    { s1 with bl := { s1.bl with lit := s1.bl.lit.set row false } }
  else s)

/-! ### Zone faults (R313) -/

/-- The verdict of a sink voltage in mV. -/
def sinkVerdict (mv : Nat) : SinkFault := if mv < 250 then .opened else if 15000 < mv then .shorted else .okay

/-- The verdict of one lit sink, and its run of equal faults. -/
def zoneVerdict (s : State) (e : Nat × Nat) : State :=
  let z := e.1
  let v := sinkVerdict e.2
  let old := tget s.bl.verdict z (SinkFault.okay, 0)
  if !s.bl.sinkOn.getLsbD z then s
  else { s with bl := { s.bl with
    verdict := if v = .okay then tdel s.bl.verdict z
               else tset s.bl.verdict z (v, if old.1 = v then old.2 + 1 else 1) } }

/-- R313: the lit sinks of a zone row check their voltages at mid-pulse. -/
def execZoneMidPulseCheck (row : Nat) (mv : List Nat) (s : State) : Host.Outcome State Fault Refusal :=
  done (if s.bl.lit.getD row false then ((rowZones row).zip mv).foldl zoneVerdict s else s)

/-- A zone fault is recorded. -/
def zoneFault (z : Nat) (s : State) : State :=
  let m : BitVec 128 := BitVec.ofNat 128 (2 ^ z)
  let s1 := darkZone { s with bl := { s.bl with fault := s.bl.fault ||| m, faultNew := s.bl.faultNew ||| m } } z
  blackBoxSrc 59 (BitVec.ofNat 32 s1.pnl.cause.toNat) (raise 59 (count .zoneFault s1))

/-- R313: the same fault in 3 consecutive pulses is recorded. -/
def execZoneFaultRecord (zone : Nat) (s : State) : Host.Outcome State Fault Refusal :=
  done (if zone < 128 ∧ 3 ≤ (tget s.bl.verdict zone (SinkFault.okay, 0)).2 ∧ ¬ s.bl.fault.getLsbD zone then
    zoneFault zone s else s)

/-- R451: a sink held on for 420 µs is switched off by hardware. -/
def execSinkOnTimeLimit (zone : Nat) (s : State) : Host.Outcome State Fault Refusal :=
  done (if s.bl.sinkOn.getLsbD zone then darkZone s zone else s)

/-! ### Once a revolution (R309, R312) -/

/-- Whether any zone is lit in a row's BLS setting, and the setting: the last setting moved so that the lowest sink
voltage measured at mid-pulse is 1.5 V, within 40 V and BL_VSUP_MAX_V. -/
def supplySetting (s : State) (row minMv : Nat) : Nat :=
  let v := s.bl.vset.getD row 40000 + 1500 - minMv
  max 40000 (min v (1000 * par s 0x4405))

/-- The BLS outputs at a revolution start; a row without a measurement keeps its setting. -/
def supplyUpdate (mins : List Nat) (s : State) : State :=
  if suppliesOn s then
    { s with bl := { s.bl with vset := (List.range 8).map (fun r =>
        match mins[r]? with
        | some m => supplySetting s r m
        | none => s.bl.vset.getD r 40000) } }
  else s

/-- The power cap factor (R312). -/
def capUpdate (mw : Nat) (s : State) : State :=
  let w := 1000 * par s 0x4404
  let c := if w < mw then max 1 (s.bl.cap - 1) else if mw * 100 < 95 * w then min 64 (s.bl.cap + 1) else s.bl.cap
  let now := decide (c < 64)
  raiseIf (now != s.bl.capping) 60 { s with bl := { s.bl with cap := c, capping := now, revPower := mw } }

end Sys2Proof.Machine
end

