-- ==== Sys2Proof/Machine/Thermal.lean ====
section
/-! DEFINITION. The Thermal Unit: samples, readings, the throttle, trips, the log, and calibration (chapter 18). -/
namespace Sys2Proof.Machine

/-! ### Conversion of a sample (R464, R465, R477), in 1/65,536 °C -/

/-- ln 2 in units of 2⁻⁴⁰. -/
def ln2 : Int := 762123384786
/-- The terms z³/3 + z⁵/5 + … of the series of artanh, from the power `p` = z^(2k−1) on. -/
def artanhTail : Nat → Nat → Int → Int → Int
  | 0, _, _, _ => 0
  | n + 1, k, p, zz =>
    let q := p * zz / 2 ^ 40
    q / (k : Int) + artanhTail n (k + 2) q zz

/-- The natural logarithm of a number from 1 up, in units of 2⁻⁴⁰. -/
def lnNat (v : Nat) : Int :=
  let e := Nat.log2 v
  let f : Int := (v * 2 ^ 40 / 2 ^ e : Nat)
  let z := (f - 2 ^ 40) * 2 ^ 40 / (f + 2 ^ 40)
  (e : Int) * ln2 + 2 * (z + artanhTail 13 3 z (z * z / 2 ^ 40))

/-- Offset 273.15 °C times 100, in 1/65,536 °C. -/
def zeroC : Int := 27315 * 65536

/-- T of a diode input: q·ΔVbe·GAIN / (n·k·ln 16) − 273.15 °C, ΔVbe in nV. -/
def diodeTemp (nv gain ideality : Nat) : Int :=
  let num : Int := 65536 * 16021766340 * (nv : Int) * gain * 10000 * 2 ^ 40
  let den : Nat := 1380649 * 1000000000 * 32768 * ideality * 3048493539143
  roundDiv (100 * num - zeroC * den) (100 * den)

/-- T of an NTC input of resistance R·GAIN, R in mΩ; none where no temperature satisfies the equation. -/
def ntcTemp (mohm gain r25 b : Nat) : Option Int :=
  let l := lnNat (mohm * gain) - lnNat (32768000 * r25)
  let den := 100 * (b : Int) * 2 ^ 40 + 29815 * l
  if den ≤ 0 then none
  else some (roundDiv (100 * (65536 * 29815 * (b : Int) * 2 ^ 40) - zeroC * den) (100 * den.toNat))

/-- TS parameter `k` of input `n`. -/
def tsPar (s : State) (n k : Nat) : Nat := par s (0x7200 + 16 * n + k)
def tsParI (s : State) (n k : Nat) : Int := parI s (0x7200 + 16 * n + k)
/-- GAIN and OFFSET of a remote input. -/
def tsGain (s : State) (n : Nat) : Nat := par s (0xA100 + n) % 65536
def tsOffset (s : State) (n : Nat) : Int := sext 16 (par s (0xA100 + n) / 65536)

/-- The converted value of a sample before its range is judged (R464, R466, R477). -/
def rawTemp (s : State) (n : Nat) (m : TempMeas) : Option Int :=
  match m with
  | .broken => none
  | .die t => if 16 ≤ n then some (t * 4096) else none
  | .diode nv =>
    if n < 16 ∧ tsPar s n 0 = 1 then some (diodeTemp nv (tsGain s n) (tsPar s n 1) + tsOffset s n * 4096) else none
  | .ntc mohm =>
    let r := mohm * tsGain s n
    if n < 16 ∧ tsPar s n 0 = 2 ∧ 50000 * 32768 ≤ r ∧ r ≤ 2000000000 * 32768 then
      (ntcTemp mohm (tsGain s n) (tsPar s n 2) (tsPar s n 3)).map (· + tsOffset s n * 4096)
    else none

/-- A valid sample (R466). -/
def sampleValue (s : State) (n : Nat) (m : TempMeas) : Option Int :=
  match rawTemp s n m with
  | some v => if -55 * 65536 ≤ v ∧ v ≤ 175 * 65536 then some v else none
  | none => none

/-! ### Levels of an input -/

def holdLevel (s : State) (n : Nat) : Int := if n < 16 then tsParI s n 6 else parI s 0x7106
def tripLevel (s : State) (n : Nat) : Int := if n < 16 then tsParI s n 7 else parI s 0x7107
def rearmLevel (s : State) (n : Nat) : Int := if n < 16 then tsParI s n 8 else parI s 0x7108
def rorLimit (s : State) (n : Nat) : Nat := if n < 16 then tsPar s n 4 else par s 0x7104
def rorWindow (s : State) (n : Nat) : Nat := if n < 16 then tsPar s n 5 else par s 0x7105

/-- A temperature input. -/
def inOf (s : State) (n : Nat) : TempIn := s.therm.ins.getD n {}
/-- A temperature input changed. -/
def onIn (n : Nat) (f : TempIn → TempIn) (s : State) : State :=
  { s with therm := { s.therm with ins := s.therm.ins.set n (f (inOf s n)) } }

/-- The history of an input restarts (R467). -/
def restartIn (i : TempIn) : TempIn :=
  { i with sum := 0, n := 0, history := [], hasRead := false, exceeded := false, tripRun := 0, tripSeen := false }

/-- An enabled input is invalid, has no reading, or stands at or above its re-arm level (R474). -/
def inHot (s : State) (n : Nat) : Bool :=
  tempEnabled s n && (!(inOf s n).valid || !(inOf s n).hasRead || decide (rearmLevel s n * 16 ≤ (inOf s n).reading))

/-- A mask over the 22 inputs. -/
def inMask (f : Nat → Bool) : Nat := ((List.range 22).map (fun n => bit (f n) n)).sum

/-- REARMED follows its inputs; source 12 on its rise while THERMAL_SHUTDOWN is set (R474). -/
def refreshRearmed (s : State) : State :=
  let now := inMask (inHot s) == 0
  raiseIf (now && !s.therm.rearmed && s.cond.shutdown) 12 { s with therm := { s.therm with rearmed := now } }

/-! ### The throttle (R468, R469) -/

/-- The floor in force. -/
def thrFloor (s : State) : Nat :=
  max (par s 0x7102)
    (if (List.range 22).any (fun n => tempEnabled s n && !(inOf s n).valid) then par s 0x7103 else 0)

/-- A new throttle step. Under BIVOUAC it is recorded in the black box and changes nothing else (Table 22-3). -/
def setStep (v : Nat) (s : State) : State :=
  if v = s.therm.step then s
  else if s.cond.bivouac then blackBoxSrc 8 0 s
  else raise 8 (when (decide (s.therm.step < v)) (count .thrStep) { s with therm := { s.therm with step := v } })

/-- A rise of the floor raises the step at once. -/
def raiseFloor (s : State) : State := setStep (max s.therm.step (thrFloor s)) s

/-- Every valid reading is below its hold level. -/
def allBelowHold (s : State) : Bool :=
  (List.range 22).all (fun n => !(tempEnabled s n && (inOf s n).valid && (inOf s n).hasRead) ||
    decide ((inOf s n).reading < holdLevel s n * 16))

/-- An enabled valid input was exceeded at its latest reading. -/
def anyExceeded (s : State) : Bool :=
  (List.range 22).any (fun n => tempEnabled s n && (inOf s n).valid && (inOf s n).exceeded)

def throttleTick (s : State) : State :=
  if anyExceeded s then
    setStep (max (min 15 (s.therm.step + 1)) (thrFloor s)) { s with therm := { s.therm with relax := 0 } }
  else
    let r := s.therm.relax + par s 0x7100
    if par s 0x7101 * 1000 ≤ r ∧ allBelowHold s then
      setStep (max (s.therm.step - 1) (thrFloor s)) { s with therm := { s.therm with relax := 0 } }
    else setStep (max s.therm.step (thrFloor s)) { s with therm := { s.therm with relax := r } }

def execThrottleTick (s : State) : Host.Outcome State Fault Refusal := done (if live s then throttleTick s else s)

/-! ### Samples and readings (R465 to R467) -/

/-- The run of values above the trip level (R470): samples of an on-die input, readings of a remote one. -/
def tripCount (s : State) (n : Nat) (v65536 : Int) (i : TempIn) : TempIn :=
  if tripLevel s n * 65536 < v65536 then { i with tripRun := i.tripRun + 1, tripVal := roundDiv v65536 4096 }
  else { i with tripRun := 0, tripSeen := false }

/-- An input takes a valid sample. -/
def goodSample (n : Nat) (v : Int) (s : State) : State :=
  let i := inOf s n
  if i.valid then
    let j := { i with badRun := 0, goodRun := i.goodRun + 1, sum := i.sum + v, n := i.n + 1 }
    onIn n (fun _ => if 16 ≤ n then tripCount s n v j else j) s
  else if 100 ≤ i.goodRun + 1 then
    refreshRearmed (onIn n (fun i => { restartIn i with valid := true, badRun := 0, goodRun := i.goodRun + 1 }) s)
  else onIn n (fun i => { i with badRun := 0, goodRun := i.goodRun + 1 }) s

def tempSample (n : Nat) (m : TempMeas) (s : State) : State :=
  if n < 22 ∧ tempEnabled s n ∧ ¬ s.therm.heldRead.contains n then
    match sampleValue s n m with
    | some v => goodSample n v s
    | none => onIn n (fun i => { i with badRun := i.badRun + 1, goodRun := 0
                                        tripRun := if 16 ≤ n then 0 else i.tripRun }) s
  else s

/-- R464 to R466: one sample of an input. -/
def execTempSample (n : Nat) (meas : TempMeas) (s : State) : Host.Outcome State Fault Refusal :=
  done (if live s then tempSample n meas s else s)

/-- R466: after 3 consecutive invalid samples an input becomes invalid. -/
def tempInvalid (n : Nat) (s : State) : State :=
  if n < 22 ∧ tempEnabled s n ∧ (inOf s n).valid ∧ 3 ≤ (inOf s n).badRun then
    let s1 := onIn n (fun i => { restartIn i with valid := false }) s
    refreshRearmed (raiseFloor (blackBoxSrc 11 0 (raise 11 (count .tsInvalid s1))))
  else s

def execTempInputInvalid (n : Nat) (s : State) : Host.Outcome State Fault Refusal :=
  done (if live s then tempInvalid n s else s)

/-- A reading formed: its rate, whether it is exceeded, and its trip run. -/
def judgeReading (n : Nat) (r : Int) (s : State) : State :=
  let i := inOf s n
  let h := (r :: i.history).take 601
  let w := rorWindow s n
  let full := decide (10 * w < h.length)
  let rise := r - h.getD (10 * w) 0
  let exc := full && decide (0 < rorLimit s n) && decide ((rorLimit s n * w : Nat) < rise)
  let j := { i with reading := r, hasRead := true, history := h, sum := 0, n := 0, exceeded := exc
                    rate := if full then roundDiv rise w else i.rate }
  raiseIf (exc && !i.exceeded) 9 (onIn n (fun _ => if n < 16 then tripCount s n (r * 4096) j else j) s)

/-- R465: the mean of the valid samples, or the held value (R482). -/
def tempReading (n : Nat) (s : State) : State :=
  let i := inOf s n
  if n < 22 ∧ tempEnabled s n ∧ i.valid then
    if s.therm.heldRead.contains n then (if i.hasRead then judgeReading n i.reading s else s)
    else if i.n = 0 then s
    else refreshRearmed (judgeReading n (roundDiv i.sum (4096 * i.n)) s)
  else s

def execTempReading (n : Nat) (s : State) : Host.Outcome State Fault Refusal :=
  done (if live s then tempReading n s else s)

/-! ### Trips (R470, R471) and the log -/

def thermalTrip (n : Nat) (s : State) : State :=
  let i := inOf s n
  if n < 22 ∧ tempEnabled s n ∧ i.valid ∧ 3 ≤ i.tripRun ∧ ¬ i.tripSeen then
    let s1 := onIn n (fun i => { i with tripSeen := true }) s
    if s.cond.bivouac then blackBoxSrc 10 0 s1
    else if s.cond.shutdown then thermLog 1 n (wrapTo 16 i.tripVal) (wrapTo 16 i.rate) s1
    else enterShutdown n (raise 10 (count .thermTrip (onIn n (fun i => { i with tripped := true }) s1)))
  else s

def execThermalTrip (n : Nat) (s : State) : Host.Outcome State Fault Refusal :=
  done (if live s then thermalTrip n s else s)

/-- The newest 256 entries, oldest first, padded to 16,384 bytes (R473). -/
def thermalLogImage (s : State) : List Byte :=
  padTo 16384 ((s.therm.log.take 256).reverse.flatMap (fun e => padTo 64 e.bytes))

def startThermalLogRead (tag : Nat) (_p : Pkt) (s : State) : State :=
  finish tag { status := St.ok, result := leBytes 2 (min 256 s.therm.log.length), image := thermalLogImage s } s

def execThermalLogRead (p : Pkt) (s : State) : Host.Outcome State Fault Refusal :=
  done (submit 0x0703 p startThermalLogRead s)

/-! ### Calibration (R475 to R484) -/

/-- CAL_LOAD runs, or waits for CALIBRATE (Table 18-5). -/
def startCalLoad (tag : Nat) (p : Pkt) (s : State) : State :=
  if s.therm.calRun.isSome then { s with therm := { s.therm with calWait := s.therm.calWait ++ [tag] } }
  else calLoad tag (pdata s p) s

def execCalLoad (p : Pkt) (s : State) : Host.Outcome State Fault Refusal := done (submit 0x0A01 p startCalLoad s)

/-- The file of the values in force (R478): FLAGS bit 1 set. Bit 0, and TIME_S before any measurement, are free
values. -/
def calFile (s : State) : List Byte × State :=
  let (f, s1) := takeFree s
  let (t, s2) := match s1.therm.calTime with
    | some t => (t, s1)
    | none => takeFree s1
  let body := leBytes 2 0x4C43 ++ [0x01] ++ leBytes 1 (2 + f % 2) ++ serialBytes ++ leBytes 4 t ++
    List.replicate 12 0 ++ (List.range 132).flatMap (fun k => leBytes 4 (par s (0xA000 + k))) ++
    (List.range 16).flatMap (fun k => leBytes 4 (par s (0xA100 + k)))
  (withCheck body, s2)

def startCalSave (tag : Nat) (_p : Pkt) (s : State) : State :=
  let (b, s1) := calFile s
  finish tag { status := St.ok, image := b } s1

def execCalSave (p : Pkt) (s : State) : Host.Outcome State Fault Refusal := done (submit 0x0A02 p startCalSave s)

/-- The bits set in a number, ascending. -/
def bitList (v n : Nat) : List Nat := (List.range n).filter (fun k => v.testBit k)

/-- Zones in use: bits of the active BL_ZONE_EN less the zones of BL_ZONE_FAULT (R481). -/
def zonesInUse (s : State) : Nat :=
  ((List.range 128).filter (zoneEnabled s.cfg.active)).length - (bitList s.bl.fault.toNat 128).length

/-- A CALIBRATE begins (R480 to R482). -/
def beginCalibrate (tag : Nat) (p : Pkt) (s : State) : State :=
  if pf p 0x14 1 = 0 then
    let zs := bitList (leNat ((pdata s p).take 16)) 128
    { s with therm := { s.therm with
        calRun := some { tag := tag, item := 0, zones := zs, items := [128, 129, 130, 131] ++ zs
                         spares := decide (zonesInUse s ≤ 96) } } }
  else
    let ns := (bitList (pf p 0x16 2) 16).filter (tempEnabled s)
    { s with therm := { s.therm with calRun := some { tag := tag, item := 1, items := ns }, heldRead := ns } }

/-- CALIBRATE starts, behind one that runs (log 15). -/
def startCalibrate (tag : Nat) (p : Pkt) (s : State) : State :=
  if anyStop s then finishSt tag (condStatus s) s
  else if s.therm.calRun.isSome then s
  else beginCalibrate tag p s

def execCalibrate (p : Pkt) (s : State) : Host.Outcome State Fault Refusal := done (submit 0x0A03 p startCalibrate s)

/-- CALREF within 1 % of 1.2500 V and CALRES within 2 % of 10.00 Ω, in µV and µΩ (R480). -/
def refsOk (refUv refUohm : Nat) : Bool :=
  decide (1237500 ≤ refUv) && decide (refUv ≤ 1262500) && decide (9800000 ≤ refUohm) && decide (refUohm ≤ 10200000)

/-- GAIN and OFFSET of a sink whose current is `i1` µA at code 400 and `i2` µA at code 3,000 (R476, R481), or none
where no value of the fields solves them. -/
def sinkCal (i1 i2 : Nat) : Option Nat :=
  if i2 ≤ i1 then none
  else
    let g := (roundDiv (2600 * 32768 * 1000) (20 * (i2 - i1))).toNat
    let o := roundDiv (400 * 32768000 - (i1 * 20 * g : Nat)) 32768000
    if g < 65536 ∧ -32768 ≤ o ∧ o < 32768 then some (g + wrapTo 16 o * 65536) else none

/-- GAIN of an input that measures `m` on the reference path, in nV or µΩ, where the reference is `ref`
(R477, R482, log 80). -/
def inputGain (ref m : Nat) : Option Nat :=
  let g := (roundDiv ((32768 * ref : Nat) : Int) m).toNat
  if m = 0 ∨ 65536 ≤ g then none else some g

/-- What the reference path of an input carries: CALREF in nV for a diode input, CALRES in µΩ for an NTC input. -/
def refOf (s : State) (n : Nat) : Nat := if tsPar s n 0 = 1 then 1250000000 else 10000000

/-- A value that its measurements give, or a free one where they give none (log 2). -/
def orFree (v : Option Nat) (s : State) : Nat × State :=
  match v with
  | some w => (w, s)
  | none => takeFree s

/-- The value a measurement leaves for one item: an input keeps its OFFSET (R481, R482). -/
def calPut (item k : Nat) (m : Nat × Nat) (s : State) : State :=
  let pn := if item = 0 then 0xA000 + k else 0xA100 + k
  let (v, s1) := orFree (if item = 0 then sinkCal m.1 m.2 else inputGain (refOf s k) m.1) s
  let w := if item = 0 then v else v % 65536 + par s pn / 65536 * 65536
  { s1 with cfg := { s1.cfg with params := paramPut s1.cfg.params pn (BitVec.ofNat 32 w) } }

/-- Every zone has had its place: none is left that a spare carries or that goes dark. With no facets starting there is
no pulse to take it from (R481). -/
def zonesMeasured (s : State) (r : CalRun) : Bool := r.item != 0 || r.zones.isEmpty || !s.rot.angleValid || !lfTiming s

/-- CALIBRATE has ended: the CAL_LOADs that waited run, then the next CALIBRATE begins. -/
def calNext (s : State) : State :=
  let s1 := runCalLoads s
  match startedFlights s1 0x0A03 with
  | f :: _ => beginCalibrate (ptag f.p) f.p s1
  | [] => s1

/-- R480, R483: a reference is out of range, or every item is measured and the new values apply together. -/
def calibrateDone (refs : CalRefs) (meas : List (Nat × Nat)) (s : State) : State :=
  match s.therm.calRun with
  | none => s
  | some r =>
    let s1 := { s with therm := { s.therm with calRun := none, spareZone := none, heldRead := [] } }
    if !refsOk refs.uv refs.uohm then calNext (finishSt r.tag St.calRef s1)
    else if zonesMeasured s r then
      let s2 := (r.items.zip (List.range r.items.length)).foldl
        (fun t e => calPut r.item e.1 (meas.getD e.2 (0, 0)) t) s1
      let s3 := { s2 with therm := { s2.therm with
        calTime := some (timeNs (stampTime s) / 1000000000 % 2 ^ 32) } }
      calNext (finish r.tag { status := St.ok, result := leBytes 2 r.items.length } (raise 13 s3))
    else s

def execCalibrateDone (refs : CalRefs) (meas : List (Nat × Nat)) (s : State) : Host.Outcome State Fault Refusal :=
  done (calibrateDone refs meas s)

/-! ### Parameters and registers (Tables 18-6 to 18-8) -/

/-- What a thermal parameter does when it is set: TS_TYPE restarts the history of its input, and the floor and REARMED
follow. -/
def thermParam (pn : Nat) (old : Nat) (s : State) : State :=
  if 0x7100 ≤ pn ∧ pn < 0x7300 then
    let n := (pn - 0x7200) / 16
    let s1 := if 0x7200 ≤ pn ∧ pn % 16 = 0 ∧ par s pn ≠ old then onIn n restartIn s else s
    refreshRearmed (raiseFloor s1)
  else s

/-- THERM_STATUS. -/
def thermStatus (s : State) : Nat :=
  s.therm.step % 16 + thrFloor s % 16 * 16 + bit s.cond.shutdown 8 + bit s.therm.rearmed 9 +
  bit s.therm.calRun.isSome 10 + bit s.therm.spareZone.isSome 11

/-- A reading and its rate (Table 18-7). -/
def tempWord (i : TempIn) : Nat := wrapTo 16 i.reading + wrapTo 16 i.rate * 65536

/-- A thermal register as read. -/
def thermReg (s : State) (off : Nat) : Nat :=
  if off = 0x000 then thermStatus s
  else if off = 0x004 then inMask (fun n => (inOf s n).tripped)
  else if off = 0x008 then inMask (inHot s)
  else if off = 0x00C then inMask (fun n => !(inOf s n).valid)
  else if off = 0x010 then inMask (fun n => tempEnabled s n && (inOf s n).exceeded)
  else if 0x040 ≤ off ∧ off ≤ 0x07C then tempWord (inOf s ((off - 0x040) / 4))
  else if 0x080 ≤ off ∧ off ≤ 0x094 then tempWord (inOf s (16 + (off - 0x080) / 4))
  else if 0x098 ≤ off ∧ off ≤ 0x0A4 then wrapTo 16 (s.mem.temps.getD ((off - 0x098) / 4) 0)
  else if off = 0x0C0 then ctrReg s .thrStep
  else if off = 0x0C4 then ctrReg s .tsInvalid
  else if off = 0x0C8 then ctrReg s .thermTrip
  else 0

end Sys2Proof.Machine
end

