-- ==== Sys2Proof/Machine/Intc.lean ====
section
/-! DEFINITION. The Interrupt Controller's claims, completions, routes, lines and sleep, and the Clock Unit
(chapter 19). -/
namespace Sys2Proof.Machine

/-! ### Claims and completions (R489 to R492, R495) -/

/-- A source of a list taken out. -/
def dropNat (n : Nat) (l : List Nat) : List Nat := l.filter (· != n)

/-- The data a register read returns. -/
def setRead (v : Nat) (s : State) : State := { s with hif := { s.hif with lastRead := BitVec.ofNat 32 v } }

/-- R491: a claim at vector `v`. -/
def claim (v : Nat) (s : State) : State :=
  if (tget? s.intc.active v).isSome then setRead 0 s
  else match lowestAt s v with
    | none => setRead 0 s
    | some n =>
      setRead (n + 256) { s with intc := { s.intc with
        active := tset s.intc.active v n
        hpend := if isLevel s n then s.intc.hpend else dropNat n s.intc.hpend
        hclaimed := if isLevel s n then insertNat n s.intc.hclaimed else s.intc.hclaimed } }

def execIntcClaim (v : Nat) (s : State) : Host.Outcome State Fault Refusal :=
  done (if live s && decide (16 ≤ v) && decide (v ≤ 31) then claim v (wakeDomain s) else s)

/-- R491, R492: a completion at vector `v`; one that names a source not active there is ignored and counted. -/
def eoi (v n : Nat) (s : State) : State :=
  if tget? s.intc.active v = some n then
    { s with intc := { s.intc with active := tdel s.intc.active v, hclaimed := dropNat n s.intc.hclaimed } }
  else count .spurious s

def execIntcEoi (v : Nat) (value : Word) (s : State) : Host.Outcome State Fault Refusal :=
  done (if live s && decide (16 ≤ v) && decide (v ≤ 31) then eoi v (value.toNat % 256) (wakeDomain s) else s)

/-- R495: a control core claims the lowest source pending for it. -/
def coreClaim (c : Nat) (s : State) : State :=
  if (tget? s.intc.cactive c).isSome then s
  else match lowestAtCore s c with
    | none => s
    | some n =>
      { s with intc := { s.intc with
        cactive := tset s.intc.cactive c n
        cpend := if isLevel s n then s.intc.cpend else dropNat n s.intc.cpend
        cclaimed := if isLevel s n then insertNat n s.intc.cclaimed else s.intc.cclaimed } }

def execCoreIntcClaim (core : Nat) (s : State) : Host.Outcome State Fault Refusal :=
  done (if live s && decide (core < 4) && !s.intc.asleep then coreClaim core s else s)

/-- R495: a control core completes its source. -/
def coreEoi (c n : Nat) (s : State) : State :=
  if tget? s.intc.cactive c = some n then
    { s with intc := { s.intc with cactive := tdel s.intc.cactive c, cclaimed := dropNat n s.intc.cclaimed } }
  else s

def execCoreIntcEoi (core : Nat) (src : Nat) (s : State) : Host.Outcome State Fault Refusal :=
  done (if live s && !s.intc.asleep then coreEoi core src s else s)

/-! ### Routes (Table 19-9) -/

/-- One host route byte set: bit 7 reads 0; clearing HOST_EN clears the host pending bit (R489). -/
def setRoute (n : Nat) (b : Byte) (s : State) : State :=
  let r := b &&& 0x7F
  { s with intc := { s.intc with
    hroute := if r = 0 then tdel s.intc.hroute n else tset s.intc.hroute n r
    hpend := if r.getLsbD 6 then s.intc.hpend else dropNat n s.intc.hpend } }

/-- The four routes of a word. -/
def routeWord (m v : Nat) (s : State) : State :=
  (List.range 4).foldl (fun t k => setRoute (4 * m + k) (BitVec.ofNat 8 (v / 256 ^ k)) t) s

def execIntcHrouteWrite (m : Nat) (value : Word) (s : State) : Host.Outcome State Fault Refusal :=
  done (if live s && decide (m < 64) then routeWord m value.toNat (wakeDomain s) else s)

/-- A message held in the PBA follows: for vectors 16 to 31 provided a source is still pending (R493). -/
def releasePba (v : Nat) (s : State) : State :=
  if s.intc.pba.getLsbD v && !s.intc.msixMask.getLsbD v && !s.intc.fnMask then
    let s1 := { s with intc := { s.intc with pba := s.intc.pba &&& ~~~(BitVec.ofNat 32 (2 ^ v)) } }
    if v < 16 ∨ msixCond s1 v then { s1 with intc := { s1.intc with msix := v :: s1.intc.msix } } else s1
  else s

/-- R493: the mask of a vector clears; 32 stands for the function mask (log 8). -/
def msixUnmask (v : Nat) (s : State) : State :=
  if v < 32 then
    releasePba v { s with intc := { s.intc with msixMask := s.intc.msixMask &&& ~~~(BitVec.ofNat 32 (2 ^ v)) } }
  else (List.range 32).foldl (fun t k => releasePba k t) { s with intc := { s.intc with fnMask := false } }

def execMsixUnmask (v : Nat) (s : State) : Host.Outcome State Fault Refusal :=
  done (if live s then msixUnmask v (wakeDomain s) else s)

/-! ### External lines (R496) and sleep (R497) -/

/-- FILTER of INTC_EXT_CFGn; 0 is taken as 1 (R496). -/
def extFilter (s : State) (n : Nat) : Nat := max 1 ((s.intc.extCfg.getD n 0).toNat / 256 % 256)

/-- A level of GPIO0 or GPIO1 that counts. -/
def gpioEvent (n : Nat) (level : Bool) (s : State) : State :=
  let old := s.intc.gpio.getD n false
  let m := extMode s n
  let edge := (level && !old && (m = 1 || m = 3)) || (!level && old && (m = 2 || m = 3))
  raiseIf edge (232 + n) { s with intc := { s.intc with gpio := s.intc.gpio.set n level } }

/-- R496: a level of a line has been stable for some cycles of the filter clock; it counts from FILTER on. -/
def execGpioInputEvent (n : Nat) (level : GpioLevel) (s : State) : Host.Outcome State Fault Refusal :=
  done (if live s && decide (n < 2) && decide (extFilter s n ≤ level.cycles) then gpioEvent n level.high s else s)

/-- R497: in PARKED with all four cores idle the CORE domain sleeps; with an event waiting the sleep is abandoned. -/
def execCoreDomainSleep (s : State) : Host.Outcome State Fault Refusal :=
  done (if live s && s.hif.ready && s.cond.mode == .parked && !s.cond.bivouac && !s.cond.coast && s.cond.seq.isNone then
    { s with intc := { s.intc with asleep := true } } else s)

/-- R497: a latched event or an access wakes the domain. -/
def execCoreDomainWake (access : Bool) (s : State) : Host.Outcome State Fault Refusal :=
  done (if access || !s.intc.wakeLatch.isEmpty then wakeDomain s else s)

/-! ### Registers of the controller (Tables 19-6 to 19-8) -/

/-- INTC_STATUS. -/
def intcStatus (s : State) : Nat :=
  (s.intc.active.map (fun e => 2 ^ (e.1 - 16))).sum + bit (intB s) 16 + bit s.intc.woke 17

/-- 32 bits of a set of sources from `n` on. -/
def sourceWord (f : Nat → Bool) (n : Nat) : Nat := ((List.range 32).map (fun i => bit (f (n + i)) i)).sum

/-- INTC_RAWk: the conditions of the level sources; the state of an edge source between its events is a free value
(log 2). -/
def rawWord (k : Nat) (s : State) : Nat × State :=
  let (v, s1) := takeFree s
  (sourceWord (fun n => if isLevel s n then levelCond s n else v.testBit (n % 32)) (32 * k), s1)

/-- A controller register as read, claims and raw states apart. -/
def intcReg (s : State) (off : Nat) : Nat :=
  if off = 0x000 then intcStatus s
  else if off = 0x010 then (s.intc.extCfg.getD 0 0).toNat
  else if off = 0x014 then (s.intc.extCfg.getD 1 0).toNat
  else if off = 0x020 then ctrReg s .spurious
  else if 0x100 ≤ off ∧ off ≤ 0x1FC then
    ((List.range 4).map (fun k => (hroute s (off - 0x100 + k)).toNat * 256 ^ k)).sum
  else if 0x200 ≤ off ∧ off ≤ 0x21C then sourceWord (hostPending s) (8 * (off - 0x200))
  else 0

/-- INTC_EXT_CFGn written: MODE and FILTER. -/
def setExt (n v : Nat) (s : State) : State :=
  { s with intc := { s.intc with extCfg := s.intc.extCfg.set n (BitVec.ofNat 32 (v % 8 + v / 256 % 256 * 256)) } }

/-- A controller register written, routes and completions apart. -/
def intcWrite (off v : Nat) (s : State) : State :=
  if off = 0x000 then { s with intc := { s.intc with woke := s.intc.woke && !v.testBit 17 } }
  else if off = 0x010 then setExt 0 v s
  else if off = 0x014 then setExt 1 v s
  else s

/-! ### The Clock Unit (R500 to R510) -/

/-- A loop of the Clock Unit. -/
def pllOf (s : State) (n : Nat) : Plle := s.clk.plls.getD n {}

/-- Tolerance of a window: 1, and with spread spectrum on the lane PLL the spread as well (R502). -/
def pllTol (s : State) (n c : Nat) : Nat :=
  if n = 2 ∧ s.plt.ssc.1 ≠ 0 then 1 + (c * s.plt.ssc.2.1 + 999999) / 1000000 else 1

/-- A window's count lies within the tolerance; for an aligner within 1/128 of a period. -/
def pllGood (s : State) (n count c : Nat) : Bool :=
  let d := max count c - min count c
  if n < 4 ∨ n = 12 then decide (d ≤ pllTol s n c) else decide (d * 128 ≤ c)

/-- A window's count is out by more than the tolerance and 7; for an aligner, not within 1/128 (log 18). -/
def pllBad (s : State) (n count c : Nat) : Bool :=
  let d := max count c - min count c
  if n < 4 ∨ n = 12 then decide (pllTol s n c + 7 < d) else decide (c < d * 128)

/-- Loss of PLLs and aligners that set FAULT (Table 19-3). -/
def lossFaults (n : Nat) : Bool := n = 0 || n = 1 || n = 2 || (decide (4 ≤ n) && decide (n ≤ 7))

/-- FAULT for a clock, with its black-box entry (R505). -/
def clockFault (s : State) : State := faultBrake (blackBoxSrc 224 0 s)

/-! The PCI Express endpoint (R387, R410, R499) -/

/-- An endpoint reset: the queues, the replies not yet written, the host routes and the active states. -/
def endpointReset (k : EpReset) (s : State) : State :=
  let s1 := { s with
    hif := { s.hif with
      queues := s.hif.queues.map (fun e => (e.1, { e.2 with enable := false, unsignalled := false }))
      flights := s.hif.flights.map (fun f => if f.p.path < 16 then { f with silent := true } else f)
      linkUp := s.hif.linkUp && k == .functionLevel }
    intc := { s.intc with hroute := [], active := [], hclaimed := [], msixMask := 0xFFFFFFFF, fnMask := false, pba := 0 } }
  raise 193 s1

/-- The PCI Express PHY PLL has lost lock: it has no bypass clock, and a link that is up goes down (Table 19-3,
log 72). -/
def pcieLoss (s : State) : State :=
  let s1 := raise 224 (count .clkLockLoss (onPll 12 (fun l => { l with lock := false, goodRun := 0 }) s))
  if live s1 && s1.hif.fwUp && s1.hif.linkUp then endpointReset .linkDown (wakeDomain s1) else s1

/-- The effects of a loss outside a requested change (Table 19-3): with the memory PLL lost the pseudo-channels are in
self-refresh, in which no row is open, and requests wait. -/
def lossEffects (n : Nat) (s : State) : State :=
  if n = 1 then clockFault (onMem (fun m => { m with openRow := [], hits := [], closeIdle := [] }) s)
  else if n = 2 then
    let s1 := clockFault s
    loopCut { s1 with plt := { s1.plt with state := .l3d, trainFor := 0 } }
  else if n = 3 then setTuState .holdover (toHoldover { s with tu := { s.tu with bypassed := true } })
  else if lossFaults n then clockFault s
  else s

/-- A loop has lost lock: its outputs move to bypass (R502, R504, R505). -/
def pllLoss (n : Nat) (s : State) : State :=
  if n = 12 then pcieLoss s else
  let l := pllOf s n
  let s1 := raise 224 (count .clkLockLoss (onPll n (fun l => { l with lock := false, bypass := true, goodRun := 0 }) s))
  if l.requested then s1 else lossEffects n s1

/-- R502: a counting window ends. -/
def pllWindow (n cnt c : Nat) (s : State) : State :=
  let l := pllOf s n
  if pllGood s n cnt c then
    onPll n (fun l => { l with goodRun := l.goodRun + 1, badRun := 0, lock := l.lock || decide (3 ≤ l.goodRun) }) s
  else if pllBad s n cnt c then
    let s1 := onPll n (fun l => { l with goodRun := 0, badRun := l.badRun + 1 }) s
    if l.lock && decide (1 ≤ l.badRun) then pllLoss n s1 else s1
  else onPll n (fun l => { l with goodRun := 0, badRun := 0 }) s

def execPllLockWindow (clk count expected : Nat) (s : State) : Host.Outcome State Fault Refusal :=
  done (if decide (clk < 13) && !s.pwr.porAsserted then pllWindow clk count expected s else s)

/-- R504: lock has held 256 reference cycles and the outputs return. -/
def bypassReturn (n : Nat) (s : State) : State :=
  let l := pllOf s n
  if l.lock && l.bypass then
    let s1 := raise 225 (onPll n (fun l => { l with bypass := false }) s)
    if n = 3 then { s1 with tu := { s1.tu with bypassed := false } } else s1
  else s

def execBypassReturn (clk : Nat) (s : State) : Host.Outcome State Fault Refusal :=
  done (if clk < 12 then bypassReturn clk s else s)

/-- A clock that sets FAULT is on bypass outside a requested change: FAULT_CLEAR finds it (R505). -/
def clockStillLost (s : State) : Bool :=
  (List.range 12).any (fun n => lossFaults n && (pllOf s n).bypass && !(pllOf s n).requested)

/-- R501: REFIN is out of tolerance or misses edges. -/
def execRefinFail (s : State) : Host.Outcome State Fault Refusal :=
  done (if !s.pwr.porAsserted && s.clk.refUse != 0 && par s 0x0201 == 1 then
    raise 226 (count .clkRefSwitch { s with clk := { s.clk with refUse := 0, refFallback := true } })
  else s)

/-- The source of a clock output is on bypass (R508). -/
def outputBypassed (s : State) (n : Nat) : Bool :=
  let src := par s (0x0221 + 8 * n)
  (pllOf s (4 + n)).bypass || (src == 1 && (pllOf s 0).bypass) || (src == 2 && (pllOf s 3).bypass) ||
  (src == 3 && (pllOf s 2).bypass)

/-- What CKOn carries (R507, R508, Tables 19-2 and 19-3): nothing while outputs follow Table 17-3, high impedance when
off, low with its aligner's lock lost, its source on bypass, or its source divided and delayed. -/
def clockOut (s : State) (n : Nat) : ClockOut :=
  if !s.clk.outputsOn then .reset
  else if par s (0x0220 + 8 * n) = 0 then .highZ
  else if (pllOf s (4 + n)).bypass then .low
  else if outputBypassed s n then .bypass (par s (0x0220 + 8 * n)) (par s (0x0222 + 8 * n))
  else .clock (par s (0x0220 + 8 * n)) (par s (0x0221 + 8 * n)) (par s (0x0222 + 8 * n)) (s.clk.phase.getD n 0)

/-- CKOn is driven from a source that is not on bypass. -/
def clockRuns (s : State) (n : Nat) : Bool :=
  match clockOut s n with
  | .clock _ _ _ _ => true
  | _ => false

/-- Outputs that a SYNC_IN edge re-phases (R509). -/
def syncOutputs (s : State) (inPhase : BitVec 8) : List Nat :=
  (List.range 8).filter (fun n => clockRuns s n && par s (0x0224 + 8 * n) == 1 && !inPhase.getLsbD n)

/-- R509: an edge that re-phases outputs is one re-phase (log 18). -/
def execSyncInEdge (inPhase : BitVec 8) (s : State) : Host.Outcome State Fault Refusal :=
  done (if (syncOutputs s inPhase).isEmpty then s else raise 227 (count .clkSync s))

/-- R507: an aligner moves one step toward CKO_PHASE, adding delay only. -/
def execAlignerPhaseStep (n : Nat) (s : State) : Host.Outcome State Fault Refusal :=
  done (
    let p := s.clk.phase.getD n 0
    if n < 8 ∧ p ≠ par s (0x0223 + 8 * n) then
      { s with clk := { s.clk with phase := s.clk.phase.set n ((p + 1) % 64) } }
    else s)

/-- CLK_STATUS (Table 19-11). -/
def clkStatus (s : State) : Nat :=
  bit s.clk.refOk 0 + bit s.clk.refFallback 1 +
  ((List.range 4).map (fun n => bit (pllOf s n).lock (2 + n) + bit (pllOf s n).bypass (6 + n))).sum +
  bit (pllOf s 12).lock 10 + ((List.range 8).map (fun n => bit (pllOf s (4 + n)).lock (11 + n))).sum +
  bit s.clk.aomLock 19

/-- A Clock Unit register as read. -/
def clkReg (s : State) (off : Nat) : Nat :=
  if off = 0x000 then clkStatus s
  else if off = 0x004 then ctrReg s .clkLockLoss
  else if off = 0x008 then ctrReg s .clkRefSwitch
  else if off = 0x00C then ctrReg s .clkSync
  else 0

end Sys2Proof.Machine
end

