-- ==== Sys2Proof/Machine/Power.lean ====
section
/-! DEFINITION. Power, reset episodes, the start, BIVOUAC and the Coast sequence (chapter 17, R569). -/
namespace Sys2Proof.Machine

/-! ### The input stage and the sag warning (R432 to R438) -/

/-- RETURN_PENDING: the input is back and the return time runs (R445, Table 17-11). -/
def refreshReturn (s : State) : State :=
  { s with pwr := { s.pwr with returnPend := s.cond.coast && s.pwr.inputOk && !s.pwr.sagw && !s.pwr.returning } }

/-- The input voltage as measured. -/
def setVin (mv : Nat) (s : State) : State := { s with pwr := { s.pwr with vin := mv / 10 % 65536 } }

/-- Entry to COAST where R437 allows it. -/
def coastIfMay (s : State) : State := refreshReturn (if mayCoast s then hubNow (enterCoast s) else s)

/-- R433: the input stage starts. -/
def execInputAbove34v (mv : Nat) (s : State) : Host.Outcome State Fault Refusal :=
  done (if 34000 < mv ∧ ¬ s.pwr.inputOk ∧ ¬ s.pwr.ov then
    refreshReturn (hubNow (setVin mv { s with pwr := { s.pwr with inputOk := true } })) else s)

/-- R433: the input stage stops below 28.0 V. -/
def execInputBelow28v (mv : Nat) (s : State) : Host.Outcome State Fault Refusal :=
  done (if mv < 28000 ∧ s.pwr.inputOk then
    coastIfMay (hubNow (setVin mv { s with pwr := { s.pwr with inputOk := false } })) else s)

/-- R433: above 80 V for 1 ms the input is isolated. -/
def execInputOvervoltage (mv : Nat) (s : State) : Host.Outcome State Fault Refusal :=
  done (if 80000 < mv ∧ ¬ s.pwr.ov then
    coastIfMay (raise 4 (hubNow (setVin mv { s with pwr := { s.pwr with inputOk := false, ov := true } }))) else s)

/-- R433: below 75.0 V the stage runs again, unless the input has fallen below 28.0 V as well. -/
def execInputBelow75v (mv : Nat) (s : State) : Host.Outcome State Fault Refusal :=
  done (if mv < 75000 ∧ s.pwr.ov then
    refreshReturn (hubNow (setVin mv { s with pwr := { s.pwr with inputOk := decide (28000 ≤ mv), ov := false } })) else s)

/-- R436: the sag warning is set. -/
def execSagwSet (mv : Nat) (s : State) : Host.Outcome State Fault Refusal :=
  done (if mv < par s 0x7000 ∧ ¬ s.pwr.sagw then
    refreshReturn (raise 0 (count .sag (setVin mv { s with pwr := { s.pwr with sagw := true } }))) else s)

/-- R436: the sag warning clears. -/
def execSagwClear (mv : Nat) (s : State) : Host.Outcome State Fault Refusal :=
  done (if par s 0x7000 + 1500 < mv ∧ s.pwr.sagw then
    refreshReturn (setVin mv { s with pwr := { s.pwr with sagw := false } }) else s)

/-- R437: SAGW has been set for PWR_SAG_DWELL_US. -/
def execSagwDwellExpiry (s : State) : Host.Outcome State Fault Refusal :=
  done (if s.pwr.sagw then coastIfMay s else s)

/-! ### The energy estimate (R439) -/

/-- The estimate in mJ: 0.8 × J × (w² − wf²) / 2 less the reserve, rounded down, never negative. The constant is
(2π / 60)² to 16 digits. -/
def coastEst (s : State) : Nat :=
  let d := s.rot.speed16 * s.rot.speed16 - (1200 * 16) * (1200 * 16)
  par s 0x7003 * d * 10966227112321508 * 4 / (256 * 10 ^ 22) - par s 0x7004

/-- R439: each 1 ms, in every mode; an update that waits for energy may start (R320). -/
def execCoastEstimateTick (s : State) : Host.Outcome State Fault Refusal :=
  done (
    let s1 := { s with pwr := { s.pwr with est := coastEst s % 2 ^ 24 } }
    if s1.fly.state = .waiting then flyConsider s1 else s1)

/-! ### The Coast sequence (R441 to R447, Table 17-1) -/

/-- The last domain of the release order that a step uses (R459). -/
def stepDomain (n : Nat) : Nat := [0, 2, 6, 8, 2, 2].getD n 0

/-- The domains of a step are released; under BIVOUAC its parts that run are served. -/
def stepDomainUp (s : State) (n : Nat) : Bool := s.cond.bivouac || decide (stepDomain n ≤ s.pwr.released)

/-- A step starts: STEP and its estimate. -/
def stepBegins (n : Nat) (s : State) : State :=
  { s with pwr := { s.pwr with coastStep := n, stepEst := s.pwr.stepEst.set (n - 1) s.pwr.est } }

/-- Step 2: the frame in progress is closed and the ring flushed; below 1,200 rpm the black box goes first (R443, R529).
While the Recorder is stopped no segment is written (Table 22-3). -/
def beginFlushStep (s : State) : State :=
  let s1 := when s.pwr.coastSlow (bbFlushSlot 1) (stepBegins 2 s)
  if s1.sil.running && !s1.sil.stopped then startFlush .coast none (writeFrame true false (coastSafety s1)) else s1

/-- Step 5: Coast idle. -/
def beginIdleStep (s : State) : State := stepBegins 5 s

/-- Step 4: the status image with CAUSE 1, which starts only when R320 allows it (R443). -/
def beginFlyStep (s : State) : State :=
  let s1 := stepBegins 4 s
  let s2 := if s1.cond.bivouac || s1.pwr.coastSlow then flySkip s1 else flyRequest .coast none s1
  if s2.fly.requested || s2.fly.pend || s2.fly.cur.isSome then s2
  else beginIdleStep (coastClose { s2 with pwr := { s2.pwr with flySkipped := true } })

/-- Step 3: the panel discharges; with the panel OFF the step is passed over. -/
def beginDischargeStep (s : State) : State :=
  if s.pnl.state = .off then beginFlyStep (coastClose s) else startDischarge (stepBegins 3 s)

/-- The step after one that ended starts. -/
def nextStep (n : Nat) (s : State) : State :=
  match n with
  | 1 => beginFlushStep s
  | 2 => beginDischargeStep s
  | 3 => beginFlyStep s
  | _ => beginIdleStep s

/-- The work of the step in progress has ended. -/
def stepWorkDone (s : State) : Bool :=
  match s.pwr.coastStep with
  | 1 => true
  | 2 => s.sil.flush.isNone && s.mem.changing.isNone
  | 3 => s.pnl.state == .off
  | 4 => s.fly.cur.isNone && !s.fly.requested && !s.fly.pend
  | _ => false

/-- What a step does as it ends: source 3, the black-box slot after the segment, the closing records (R444, R529,
R532). -/
def stepEnds (n : Nat) (s : State) : State :=
  let s1 := raise 3 { s with pwr := { s.pwr with stepsEnded := s.pwr.stepsEnded ++ [n] } }
  match n with
  | 2 =>
    let s2 := when (!s1.pwr.coastSlow) (bbFlushSlot 1) s1
    { s2 with pwr := { s2.pwr with flushDone := true } }
  | 3 => coastClose s1
  | 4 => coastClose { s1 with pwr := { s1.pwr with flyDone := ((s1.fly.journal.head?).map (·.done)).getD false } }
  | _ => s1

/-- The bridge leaves REGEN: for SPIN_UP, and from there for BRAKE when a stop is requested or FAULT or
THERMAL_SHUTDOWN is set; for SENSORLESS_BRAKE when the encoder was lost (Table 9-4, R563). -/
def leaveRegen (s : State) : State :=
  if s.rot.state = .regen then
    if s.rot.encLost then setRotState .sensorlessBrake s
    else
      let s1 := setRotState .spinUp s
      if s1.cond.fault ∨ s1.cond.shutdown ∨ s1.rot.req = .stop then setRotState .brake s1 else s1
  else s

/-- The lit mode that COAST interrupted goes on: rotor and panel, whose lanes are trained again when COAST abandoned
their training (R445 step 4, R296; log 73). Before READY the start does this. -/
def relight (s : State) : State :=
  if s.hif.ready && litMode s.cond.mode && !anyStop s then
    let s1 := if s.rot.state = .spinUp then s else startRotor s
    if s1.pnl.state = .on then when (s1.plt.state == .l3d) (startTraining 4) s1 else startPowerOn s1
  else s

/-- The panel as COAST ends: a power-on that COAST cut, or FAULT or THERMAL_SHUTDOWN set with the panel still on,
discharges it now (R300, R562, R563). -/
def panelReturn (s : State) : State := when (s.pnl.state == .powering || anyStop s) startDischarge s

/-- COAST ends in ride-through (R445); the camera ports that the active epoch names start again (R129, R153). -/
def rideThrough (s : State) : State :=
  let s1 := portsLatch (leaveRegen (hubInput { s with
    cond := { s.cond with coast := false }
    pwr := { s.pwr with coastStep := 0, returning := false, returnPend := false }
    sil := { s.sil with stopped := false, skipFrame := s.sil.skipFrame || s.sil.stopped } }))
  relight (panelReturn (raise 2 (count .ride s1)))

/-- The return is decided as a step ends: the input is checked again (R445, R446). -/
def decideReturn (n : Nat) (s : State) : State :=
  if s.pwr.returning && decide (2 ≤ n) then
    if s.pwr.inputOk && !s.pwr.sagw then rideThrough s
    else refreshReturn (nextStep n { s with pwr := { s.pwr with returning := false } })
  else nextStep n s

/-- R444: the step in progress ends. -/
def coastStepEnd (s : State) : State :=
  let n := s.pwr.coastStep
  if live s && s.cond.coast && stepWorkDone s && stepDomainUp s n && stepDomainUp s (n + 1) then
    decideReturn n (stepEnds n s)
  else s

/-- R445: the return condition holds. In Coast idle it is decided at once; elsewhere as the step in progress ends. -/
def returnCondition (s : State) : State :=
  if live s && s.cond.coast && s.pwr.inputOk && !s.pwr.sagw then
    let s1 := { s with pwr := { s.pwr with returning := true, returnPend := false } }
    if s.pwr.coastStep = 5 then rideThrough s1 else s1
  else s

/-! ### Reset episodes (R448 to R452) -/

/-- An FW_STAGE cut short leaves its slot invalid (R423). -/
def cutStage (s : State) : State :=
  match s.pwr.fwTag with
  | some (_, k, img) => { s with pwr := { s.pwr with fwTag := none, slots := s.pwr.slots.set k (img, false) } }
  | none => s

/-- Counters that a warm episode keeps: those of the power block and of the Time Unit (R451). -/
def keptCtr : Ctr → Bool
  | .sag | .coast | .ride | .warm => true
  | .tuOutlier | .tuRefuse | .tuGmChange | .tuEarlyDrop | .tuPtpDrop | .ttMissed | .tcOverflow => true
  | _ => false

/-- What outlives every reset: NOR, NAND, the pins and the logs of what has left the module. -/
def coldKeep (s : State) : State :=
  let r := State.reset
  { r with
    pending := s.pending, freeCtr := s.freeCtr, clock := s.clock
    hif := { r.hif with ethOut := s.hif.ethOut, replies := s.hif.replies, hostImages := s.hif.hostImages
                        jtOut := s.hif.jtOut }
    cfg := { r.cfg with sceneEvents := s.cfg.sceneEvents }
    rot := { r.rot with state := if s.rot.speed16 < 60 * 16 then .stopped else .freewheel
                        speed16 := s.rot.speed16, n0 := s.rot.speed16, ab := s.rot.ab, hwTrip := s.rot.hwTrip
                        shorting := s.rot.hwTrip && s.rot.shorting }
    plt := { r.plt with packets := s.plt.packets }
    gcl := { r.gcl with frames := s.gcl.frames }
    fly := { r.fly with journal := s.fly.journal, slot := s.fly.slot, sent := s.fly.sent }
    tu := { r.tu with ptpOut := s.tu.ptpOut }
    pwr := { r.pwr with
      vin := s.pwr.vin, hub := s.pwr.hub, inputOk := s.pwr.inputOk, sagw := s.pwr.sagw, ov := s.pwr.ov
      porAsserted := s.pwr.porAsserted, resetB := s.pwr.resetB, boot := s.pwr.boot, startFails := s.pwr.startFails
      startFailed := s.pwr.startFailed, runningSlot := s.pwr.selected, selected := s.pwr.selected, slots := s.pwr.slots
      svcSlots := s.pwr.svcSlots, svcSel := s.pwr.svcSel, autostart := s.pwr.autostart, refSel := s.pwr.refSel
      torn := s.pwr.torn, railTrip := s.pwr.railTrip, auxEnc := s.pwr.auxEnc, auxIo := s.pwr.auxIo }
    therm := { r.therm with log := s.therm.log, logSeq := s.therm.logSeq }
    intc := { r.intc with gpio := s.intc.gpio, msix := s.intc.msix }
    sil := { r.sil with nand := s.sil.nand, segSeq := s.sil.segSeq, bbSlots := s.sil.bbSlots, bbSeq := s.sil.bbSeq }
    dbg := { r.dbg with nonces := s.dbg.nonces, coreRuns := s.dbg.coreRuns, dr := s.dbg.dr, ir := s.dbg.ir } }

/-- A cold episode: a flush and a firmware image under way are cut (R530), and stacked memory is undefined (R353). -/
def coldState (s : State) : State := memUndef 0 memSize (coldKeep (cutStage (tearFlush s)))

/-- The bytes that writes under way at the start of a warm episode leave undefined (R353). -/
def warmLoss (s : State) : State :=
  let s1 := s.sdec.blocks.foldl (fun t b => if b.engine.isSome then memUndef b.dst b.ulen t else t) (loseRequests s)
  let s2 := match s1.blt.queue, s1.blt.running with
    | b :: _, true => bltUndef b.desc s1
    | _, _ => s1
  let s3 := (startedFlights s2 0x0803).foldl (fun t f => memUndef (pf f.p 0x18 8) (pf f.p 0x20 8) t) s2
  match s3.cfg.carry, s3.cfg.carryRun with
  | c :: _, true => c.ranges.foldl (fun t r => memUndef (c.dst + r.1) r.2 t) s3
  | _, _ => s3

/-- The rotor over a warm episode: the bridge keeps its state, the counter stops (R232). -/
def warmRot (r : Rot) : Rot :=
  { r with angleValid := false, litOk := false, litRev := false, indexSeen := false, counts := 0, glitches := 0, corr := 0
           lock := if r.state == .run then .acquiring else .off
           lockRun := 0, unlockRun := 0, trim := 0
           armed := true }

/-- The Time Unit over a warm episode (R362, R382): the servo in HOLDOVER, no step pending. -/
def warmTu (t : Tu) : Tu :=
  { t with state := if t.state == .acquiring || t.state == .locked then .holdover else t.state
           master := none, masters := [], syncPend := none, lastSync := none, reqSent := none
           pendStep := false, pendOff := 0, outliers := [], slewing := false, slewLeft := 0 }

/-- The panel over a warm episode: OFF until the start powers it on; in COAST, and while it discharges, as it stands,
the discharge from its beginning (R455, R459). -/
def warmPnl (s : State) : Pnl :=
  let keep := s.cond.coast || s.pnl.state == .discharging
  { State.reset.pnl with
    state := if !keep then .off else if s.pnl.state == .discharging then .on else s.pnl.state
    cause := s.pnl.cause, crkTripped := s.pnl.crkTripped, auxPnl := s.pnl.auxPnl, rails := s.pnl.rails }

/-- The parameters over a warm episode: those that take effect outside a commit stay, the calibration values return to
nominal (R469, R475, R510, log 20). -/
def warmParams (s : State) : Table Word := s.cfg.params.filter (fun e => e.1 / 0x1000 != 0xA)

/-- What a warm episode keeps (R353, R362, R406, R451, R469, R474, R498, R510, R516, R531 and the rest of log 20). -/
def warmKeep (s : State) : State :=
  let r := State.reset
  let c := coldKeep s
  let causes := s.fly.causes.filter (fun x => x != .host)
  { c with
    ctrs := s.ctrs.filter (fun e => keptCtr e.1)
    hif := { c.hif with qerr := s.hif.qerr, queues := s.hif.queues, rotation := s.hif.rotation, linkUp := s.hif.linkUp
                        warmSeen := s.hif.warmSeen, nextSeq := s.hif.nextSeq }
    cfg := { c.cfg with params := warmParams s }
    rot := warmRot s.rot
    bl := { r.bl with sinkOn := s.bl.sinkOn }
    gcl := { c.gcl with phases := s.gcl.phases }
    pnl := warmPnl s
    fly := { c.fly with imageLo := s.fly.imageLo, imageHi := s.fly.imageHi, causes := causes
                        requested := !causes.isEmpty }
    mem := { r.mem with cells := s.mem.cells, undef := s.mem.undef, poison := s.mem.poison, trained := s.mem.trained
                        resetsHeld := s.mem.resetsHeld }
    tu := warmTu s.tu
    pwr := { c.pwr with
      est := s.pwr.est, coastStep := s.pwr.coastStep, flushDone := s.pwr.flushDone, flyDone := s.pwr.flyDone
      flySkipped := s.pwr.flySkipped, returning := s.pwr.returning, returnPend := s.pwr.returnPend
      stepEst := s.pwr.stepEst, stepsEnded := s.pwr.stepsEnded, coastMode := s.pwr.coastMode, coastSlow := s.pwr.coastSlow
      fallback := s.pwr.fallback, runningSlot := s.pwr.runningSlot, warmMode := s.cond.mode
      aborted := s.pwr.aborted ++ s.hif.flights }
    cond := { r.cond with mode := s.cond.mode, coast := s.cond.coast, fault := s.cond.fault, shutdown := s.cond.shutdown }
    therm := { s.therm with calRun := none, spareZone := none, calWait := [], calTime := none, heldRead := [] }
    intc := { c.intc with hroute := s.intc.hroute, croute := s.intc.croute, extCfg := s.intc.extCfg
                          hpend := s.intc.hpend, cpend := s.intc.cpend, msixMask := s.intc.msixMask
                          fnMask := s.intc.fnMask, pba := s.intc.pba }
    clk := s.clk
    sil := { s.sil with flush := s.sil.flush.map (fun j => { j with tag := none }), marks := [], lastCap := []
                        warmFrame := true, frameHalt := false, frameOpen := false }
    bb := s.bb
    dbg := { c.dbg with coreRuns := s.dbg.coreRuns.map (· + 1) } }

/-- The start of a warm episode. A discharge that was under way begins again, and the opening of the debug lock ends
(R451, R533). -/
def warmState (s : State) : State :=
  let s0 := wakeDomain s
  let s1 := warmKeep (cutStage (warmLoss s0))
  let s2 := raiseIf s0.dbg.unlocked 250 s1
  let s3 := raiseIf (s0.tu.state != s1.tu.state) 160 { s2 with pwr := { s2.pwr with held := some (pinsNow s) } }
  count .warm (when (s0.pnl.state == .discharging) startDischarge s3)

/-- The causes that RST_CAUSE records of the episode in progress. -/
def episodeFlags (s t : State) (por resB sagr cold : Bool) : State :=
  let on := s.pwr.episode
  { t with pwr := { t.pwr with
      episode := true, cold := cold
      porSeen := por || (on && s.pwr.porSeen)
      resetBSeen := resB || (on && s.pwr.resetBSeen)
      sagr := sagr || (on && s.pwr.sagr)
      prevFailed := s.pwr.prevFailed, failedDomain := s.pwr.failedDomain } }

/-- The HUB is held up: by a bridge in REGEN, or by the input stage (R432, R434, R435). -/
def hubHeld (s : State) : Bool := regenHolds s || (s.pwr.inputOk && s.rot.state != .regen)

/-- The auxiliary rails that run from the first internal rail on (R553, Table 17-3). -/
def auxRails (on : Bool) (s : State) : State :=
  { s with pwr := { s.pwr with auxEnc := on, auxIo := on, railTrip := [false, false, false] } }

/-- R435, R448, R450: the power-on reset asserts, and the episode is cold. The HUB falls below SAGR, `sagr`, only while
nothing holds it up. -/
def porAssert (sagr : Bool) (s : State) : State :=
  if s.pwr.porAsserted || (sagr && hubHeld s) then s
  else
    let t := { s with pwr := { s.pwr with porAsserted := true } }
    let t1 := auxRails (!sagr) (episodeFlags s (coldState t) true s.pwr.resetB sagr true)
    if sagr then hubBand 0 2799 t1 else t1

def execPorAssert (sagr : Bool) (s : State) : Host.Outcome State Fault Refusal := done (porAssert sagr s)

/-- R449: RESET_B asserts: a warm episode begins, or it joins the one in progress. -/
def resetBAssert (s : State) : State :=
  if s.pwr.resetB then s
  else
    let t := { s with pwr := { s.pwr with resetB := true } }
    if s.pwr.episode then { t with pwr := { t.pwr with resetBSeen := true } }
    else episodeFlags s (warmState t) false true false false

def execResetBAssert (s : State) : Host.Outcome State Fault Refusal := done (resetBAssert s)

/-- RST_CAUSE (Table 17-12). -/
def rstCause (s : State) : Nat :=
  bit s.pwr.porSeen 0 + bit s.pwr.resetBSeen 1 + bit s.pwr.sagr 2 + bit s.pwr.cold 3 + s.pwr.failedDomain % 16 * 16 +
  bit s.pwr.prevFailed 8 + bit s.pwr.fallback 9

/-- The Flysheet at a release: an unfinished entry is found, and its re-drive waits (R323). -/
def flyRelease (s : State) : State :=
  if ((s.fly.journal.head?).map (fun e => !e.done)).getD false then
    { s with fly := { s.fly with torn := true, state := .redriveWaiting, pend := s.fly.requested, requested := false } }
  else flyConsider s

/-- The parameters that the start record holds (R460, R512). -/
def recordParams (s : State) : Table Word :=
  paramPut (paramPut [] 0x0200 (BitVec.ofNat 32 s.pwr.refSel)) 0xB000 (BitVec.ofNat 32 s.pwr.autostart)

/-- The release of an episode: a start begins (R569, Table 17-5). -/
def releaseStart (s : State) : State :=
  let boot := (s.pwr.boot + 1) % 2 ^ 24
  let warm := !s.pwr.cold
  let s1 := { s with
    hif := { s.hif with warmSeen := s.hif.warmSeen || warm }
    cfg := { s.cfg with params := if warm then s.cfg.params else recordParams s, epoch := boot * 2 ^ 40, nextEpoch := boot * 2 ^ 40 }
    tu := { s.tu with trig := s.tu.trig.map (fun e => (e.1, { e.2 with active := false })) }
    pwr := { s.pwr with episode := false, boot := boot, prevFailed := s.pwr.startFailed, startFailed := false
                        failedDomain := 0, released := 0, timeWasUp := false } }
  flyRelease (blackBox 0x0211 0xFF (BitVec.ofNat 32 (rstCause s1)) s1)

/-- R448: the power-on reset releases. -/
def execPorRelease (s : State) : Host.Outcome State Fault Refusal :=
  done (if s.pwr.porAsserted then
    let s1 := auxRails true { s with pwr := { s.pwr with porAsserted := false } }
    if s1.pwr.resetB then s1 else releaseStart s1
  else s)

/-- R449: RESET_B releases. -/
def execResetBRelease (s : State) : Host.Outcome State Fault Refusal :=
  done (if s.pwr.resetB then
    let s1 := { s with pwr := { s.pwr with resetB := false } }
    if s1.pwr.porAsserted then s1 else releaseStart s1
  else s)

/-! ### BIVOUAC and failed starts (R456 to R458) -/

/-- The Time Unit held in reset, or kept without network time, triggers and captures (R381). -/
def bivouacTu (s : State) : Tu :=
  if s.pwr.timeWasUp then
    let t := warmTu s.tu
    { t with trig := t.trig.map (fun e => (e.1, { e.2 with active := false })) }
  else { State.reset.tu with ptpOut := s.tu.ptpOut }

/-- A PLL that has not locked serves its domain from the bypass clock (R457). -/
def bypassIfUnlocked (n : Nat) (s : State) : State :=
  onPll n (fun l => { l with bypass := l.bypass || !l.lock }) s

/-- Entry to BIVOUAC (R457). -/
def enterBivouac (s : State) : State :=
  let s1 := hubOfRegen s.rot.state (setRotState .freewheel (setReq .none (bltStopAll (silRelease s))))
  let s2 := startDischarge (if s1.cond.mode = .parked then s1 else setMode .parked s1)
  let s3 := { s2 with
    cond := { s2.cond with bivouac := true, seq := none }
    hif := { s2.hif with fwUp := true }
    pnl := { s2.pnl with cmds := [], powerAfter := false, waitCrack := false }
    sco := { s2.sco with scanning := false, inSlot := false, awaiting := none }
    mem := { s2.mem with point := .off, resetsHeld := !s2.mem.trained, changing := none, required := none }
    tu := bivouacTu s2
    sil := { s2.sil with running := false }
    clk := { s2.clk with outputsOn := false }
    pwr := { s2.pwr with released := 4, held := none } }
  flyRequest .bivouac none (raiseIf (s3.tu.state != s2.tu.state) 160
    (bypassIfUnlocked 3 (bypassIfUnlocked 0 s3)))

/-- A failed start (R456): counted, with its black-box entry, and BIVOUAC from the third on. -/
def failStart (data : Nat) (force : Bool) (s : State) : State :=
  let n := min 15 (s.pwr.startFails + 1)
  let s1 := { s with pwr := { s.pwr with startFails := n, startFailed := true
                                         timeWasUp := decide (3 ≤ s.pwr.released) } }
  let s2 := bbFlushSlot 4 (blackBox 0x0201 0xFF (BitVec.ofNat 32 data) s1)
  if 3 ≤ n ∨ force then enterBivouac s2 else s2

/-- A start is in progress. -/
def starting (s : State) : Bool := !s.pwr.episode && !s.pwr.startFailed && !s.hif.ready

/-- R456: READY has not come within 2.5 s; a COAST kept through the episode holds READY back (R459). -/
def execStartTimeout (s : State) : Host.Outcome State Fault Refusal :=
  done (if starting s && !s.cond.coast then failStart 0x10 false s else s)

/-- R453: a lock has not come within 10 ms. -/
def execDomainLockTimeout (s : State) : Host.Outcome State Fault Refusal :=
  done (if starting s && decide (s.pwr.released < 8) then
    failStart (s.pwr.released + 1) false
      { s with pwr := { s.pwr with failedDomain := s.pwr.released + 1 } }
  else s)

/-- The slot that FW_ACTIVATE selected for this start: the one of the last cold episode (R423). -/
def selectedSlot (s : State) : Nat :=
  if s.pwr.cold then s.pwr.selected
  else if s.pwr.fallback then 1 - s.pwr.runningSlot else s.pwr.runningSlot

/-- A slot holds an image that verifies. -/
def slotGood (s : State) (n : Nat) : Bool := (s.pwr.slots.getD n ([], false)).2

/-- The main image to start (R458). -/
def pickImage (s : State) : Option Nat :=
  let a := selectedSlot s
  let b := 1 - a
  if slotGood s a && !(s.pwr.startFails == 2 && slotGood s b) then some a
  else if slotGood s b then some b
  else none

/-- The HIF domain is released with the main firmware verified and running, or the start fails (R458). -/
def startFirmware (s : State) : State :=
  match pickImage s with
  | some n =>
    { s with pwr := { s.pwr with fallback := n != selectedSlot s, runningSlot := n }
             hif := { s.hif with fwUp := true } }
  | none => failStart 0x11 true s

/-- A loop of the Clock Unit has locked for its domain. -/
def lockPll (n : Nat) (s : State) : State := onPll n (fun l => { l with lock := true, bypass := false }) s

/-- The aligners have locked, their phases as the parameters give; the clock outputs are driven (R507, R510). -/
def releaseGcl (s : State) : State :=
  let s1 := (List.range 8).foldl (fun t n => lockPll (4 + n) t) s
  if s.pwr.cold then
    { s1 with clk := { s1.clk with outputsOn := true, phase := (List.range 8).map (fun n => par s1 (0x0223 + 8 * n)) } }
  else s1

/-- What the release of a domain does (Table 17-4). -/
def releaseDomain (n : Nat) (s : State) : State :=
  match n with
  | 1 =>
    { s with clk := { s.clk with refOk := true, aomLock := true
                                 refUse := if s.pwr.cold then s.pwr.refSel else s.clk.refUse } }
  | 2 => closeTorn (lockPll 0 s)
  | 3 => { lockPll 3 s with tu := { s.tu with running := true } }
  | 4 => startFirmware (lockPll 12 s)
  | 5 =>
    let s1 := lockPll 1 s
    if s.mem.trained && !s.pwr.cold then { s1 with mem := { s1.mem with point := .p32, resetsHeld := false } } else s1
  | 6 => s
  | 7 => lockPll 2 s
  | _ => releaseGcl s

/-- R453: a domain is released once its clock reports lock. -/
def execClockDomainRelease (locked : Bool) (s : State) : Host.Outcome State Fault Refusal :=
  done (if starting s && decide (s.pwr.released < 8) && locked then
    releaseDomain (s.pwr.released + 1) { s with pwr := { s.pwr with released := s.pwr.released + 1 } }
  else s)

/-- R349: initialisation and training end, or the start fails with the memory domain named. -/
def execMemInitDone (ok : Bool) (s : State) : Host.Outcome State Fault Refusal :=
  done (if starting s && decide (5 ≤ s.pwr.released) && !s.mem.trained then
    if ok then { s with mem := { s.mem with trained := true, resetsHeld := false, point := .p32 } }
    else failStart 5 false { s with pwr := { s.pwr with failedDomain := 5 } }
  else s)

/-! ### The end of a start (R455): what READY does before the start mode -/

/-- A re-drive that nothing holds back has still to start, before READY and before any rotor drive (R323). -/
def redriveFirst (s : State) : Bool := s.fly.state == .redriveWaiting && !redriveHeld s

/-- READY may come: every domain is released, memory is trained, no COAST is in progress, and the re-drive has started or
waits (R323, R454, R459). -/
def mayReady (s : State) : Bool :=
  starting s && decide (s.pwr.released = 8) && s.mem.trained && !s.cond.coast && !s.cond.bivouac && !redriveFirst s

/-- The reply of a command that a warm episode aborted (R406); one already discarded is a black-box entry (R387). -/
def abortReply (s : State) (f : Flight) : State :=
  if f.silent then blackBox 0x0204 0xFF (BitVec.ofNat 32 (ptag f.p + St.resetAbort * 65536)) s
  else writeReply f.op f.p { status := St.resetAbort } s

/-- READY: the replies of R406 first, then the sources of Tables 15-16 and 17-13, and the counter of failed starts. -/
def becomeReady (s : State) : State :=
  let s1 := s.pwr.aborted.foldl abortReply { s with pwr := { s.pwr with aborted := [], held := none } }
  let s2 := raise 195 { s1 with hif := { s1.hif with ready := true } }
  let s3 := raiseIf (!s.pwr.cold) 5 s2
  raiseIf (s.pwr.startFails != 0) 6 { s3 with pwr := { s3.pwr with startFails := 0 } }

/-! ### Watchdog and auxiliary rails (R448, R554) -/

/-- R448, R535: the watchdog of a core that is not halted expires. -/
def execWatchdogExpiry (core : Nat) (s : State) : Host.Outcome State Fault Refusal :=
  done (if live s && decide (core < 4) && !s.dbg.halted.getLsbD core then
    faultBrake (blackBox 0x0202 0xFF (BitVec.ofNat 32 core) s) else s)

def railIndex : AuxRail → Nat
  | .pnl => 0 | .enc => 1 | .io => 2

/-- A rail is on. -/
def railOn (s : State) : AuxRail → Bool
  | .pnl => s.pnl.auxPnl | .enc => s.pwr.auxEnc | .io => s.pwr.auxIo

/-- A rail switched on or off. -/
def setRail (r : AuxRail) (on : Bool) (s : State) : State :=
  match r with
  | .pnl => { s with pnl := { s.pnl with auxPnl := on } }
  | .enc => { s with pwr := { s.pwr with auxEnc := on } }
  | .io => { s with pwr := { s.pwr with auxIo := on } }

/-- Whether a rail is marked as switched off by overload. -/
def setTrip (r : AuxRail) (v : Bool) (s : State) : State :=
  { s with pwr := { s.pwr with railTrip := s.pwr.railTrip.set (railIndex r) v } }

/-- R554: 10 ms in current limit switch a rail off. -/
def execAuxRailTrip (rail : AuxRail) (s : State) : Host.Outcome State Fault Refusal :=
  done (if railOn s rail then setTrip rail true (setRail rail false s) else s)

/-- R554: a rail tries again after 1 s; AUX_PNL while the panel uses it. -/
def execAuxRailRetry (rail : AuxRail) (s : State) : Host.Outcome State Fault Refusal :=
  done (if s.pwr.railTrip.getD (railIndex rail) false then
    setTrip rail false (setRail rail (rail != .pnl || s.pnl.state != .off) s) else s)

/-! ### Registers (Tables 17-9 to 17-12) -/

/-- A power or reset register as read. INPUT_OK says that the input stage regulates the HUB, which it does not while the
bridge does (R434). -/
def pwrReg (s : State) (off : Nat) : Nat :=
  if off = 0x000 then
    bit s.pwr.sagw 0 + bit (s.pwr.inputOk && s.rot.state != .regen) 1 + bit s.pwr.ov 2 + bit s.cond.coast 3 +
    bit (regenHolds s) 4
  else if off = 0x004 then s.pwr.vin
  else if off = 0x008 then s.pwr.hub
  else if off = 0x00C then s.pwr.est
  else if off = 0x010 then
    s.pwr.coastStep + bit s.pwr.flushDone 3 + bit s.pwr.flyDone 4 + bit s.pwr.flySkipped 5 + bit s.pwr.returnPend 6
  else if off = 0x014 then rstCause s
  else if off = 0x018 then s.pwr.boot + s.pwr.startFails * 2 ^ 24 + s.pwr.runningSlot * 2 ^ 28
  else if off = 0x020 then ctrReg s .sag
  else if off = 0x024 then ctrReg s .coast
  else if off = 0x028 then ctrReg s .ride
  else if off = 0x02C then ctrReg s .warm
  else 0

end Sys2Proof.Machine
end

