-- ==== Sys2Proof/Machine/Modes.lean ====
section
/-! DEFINITION. MODE_SET and the entry sequences of Table 22-4, FAULT_CLEAR and THERMAL_CLEAR (R415, R416, R474, R560,
R564 to R566). -/
namespace Sys2Proof.Machine

/-! ### The service descriptor (R426, Table 16-11) -/

/-- The selected service descriptor, empty when none is selected. -/
def svcBytes (s : State) : List Byte :=
  match s.pwr.svcSel with
  | some n => s.pwr.svcSlots.getD n []
  | none => []

/-- DEPTH, COUNT and DISPARITY of a descriptor. -/
def svcDeep (d : List Byte) : Bool := (byteAt d 3).testBit 0
def svcCount (d : List Byte) : Nat := field d 4 2
def svcDisparity (d : List Byte) : Nat := field d 8 4

/-- A descriptor whose header holds and whose CHECK is right. -/
def svcGood (d : List Byte) : Bool :=
  decide (32 ≤ d.length) && field d 0 2 == 0x5653 && byteAt d 2 == 1 && decide (byteAt d 3 < 2) &&
  decide (1 ≤ svcCount d) && decide (svcCount d ≤ 1000) && field d 6 2 == 0 && (d.drop 0x10).take 12 == List.replicate 12 0 &&
  decide (32 + 64 * svcCount d ≤ d.length) &&
  field d 0x1C 4 == (crc32c (d.take 0x1C ++ d.drop 0x20)).toNat

/-! ### Entry sequences (Table 22-4) -/

/-- The steps from one mode to another, coded: 1 the Ray Engine stops and zones end, 2 seal and flush, 3 Flysheet image,
4 discharge, 5 brake to STOPPED, 6 memory self-refresh, 7 memory change, 8 panel power-on and rotor start, 9 the service
descriptor, 10 one dark revolution. -/
def entrySteps (a b : Mode) : List Nat :=
  match b with
  | .parked => [1, 2, 3, 4, 5, 6]
  | .test => if a = .parked then [7] else [1, 4, 5, 7]
  | .lightfield | .flat => if a = .service then [10] else [7, 8]
  | .service => if a = .parked ∨ a = .test then [7, 8, 9] else [10, 9]

/-- A mode has FLAT timing (Table 22-3). -/
def flatTiming (s : State) (m : Mode) : Bool := m == .flat || (m == .service && !s.cond.svcTiming)

/-- A step has nothing to do (the steps marked "if needed"). -/
def stepIdle (c : Nat) (b : Mode) (s : State) : Bool :=
  match c with
  | 2 => !s.sil.running || s.sil.stopped
  | 4 => s.pnl.state == .off
  | 5 => s.rot.state == .stopped
  | 6 => s.mem.point == .off && s.mem.changing.isNone
  | 7 => s.mem.point == modePoint s b && s.mem.changing.isNone
  | 8 => s.pnl.state == .on && (s.rot.state == .spinUp || s.rot.state == .run)
  | _ => false

/-- The brake to STOPPED may take longer than the 7.6 s that the bound of MODE_SET holds (R565). -/
def longBrake (s : State) : Bool :=
  let extra := if s.rot.encLost then 30 else 10
  decide (66 * 16 * par s 0x4102 < s.rot.speed16 * 10 + (extra - 10) * 16 * par s 0x4102)

/-- The bound of the MODE_SET of a sequence is extended. -/
def extendSeq (q : EntrySeq) (s : State) : State :=
  match q.tag with
  | some t => extend t s
  | none => s

/-- The dark revolution begins to be waited for, or everything it serves happens at once (R263, R352). -/
def beginDark (q : EntrySeq) (s : State) : State :=
  let s1 := requirePoint (modePoint s q.toM) s
  if s.rot.angleValid then { s1 with ray := { s1.ray with switchRev := 2 } }
  else
    let s2 := dropBuffers s1
    if s2.plt.rate27 != laneRate27 s2 && s2.pnl.state == .on then startTraining 3 s2 else s2

/-- The default set as the entry to SERVICE stages it (Table 22-4): its staged mode is the mode entered, and the counts of
LAYER_DEFINEs go on, so that a layer defined anew is told from one left alone (R137; log 3). -/
def defaultDraft (m : Mode) (s : State) : ConfigSet := { layerSeq := s.cfg.draft.layerSeq, mode := m }

/-- What a step begins with. -/
def stepAction (c : Nat) (q : EntrySeq) (s : State) : State :=
  match c with
  | 1 => stopRay (blank s)
  | 2 => if s.sil.flush.isSome then s else startFlush .parked none s
  | 3 => flyRequest .parked none s
  | 4 => startDischarge s
  | 5 => stopRotor (when (longBrake s) (extendSeq q) s)
  | 6 => requirePoint .off (bltStopAll s)
  | 7 => requirePoint (modePoint s q.toM) (stopRay (blank s))
  | 8 => startPowerOn (startRotor s)
  | 9 => { s with cfg := { s.cfg with draft := defaultDraft q.toM s } }
  | _ => beginDark q s

/-- A step has begun once its action has been taken; a flush waits for the one that runs. -/
def stepBegun (c : Nat) (s : State) : Bool := !(c == 2 && s.sil.flush.isSome)

/-- The present step has ended. Step 9 ends with its last packet, elsewhere. -/
def stepOver (c : Nat) (q : EntrySeq) (s : State) : Bool :=
  match c with
  | 2 => s.sil.flush.isNone
  | 3 => s.fly.cur.isNone && !s.fly.requested && !s.fly.pend
  | 4 => s.pnl.state == .off
  | 5 => s.rot.state == .stopped
  | 6 => s.mem.point == .off && s.mem.changing.isNone
  | 7 => s.mem.point == modePoint s q.toM && s.mem.changing.isNone
  | 8 => s.pnl.state == .on && (s.rot.state == .spinUp || s.rot.state == .run)
  | 9 => false
  | 10 => s.ray.switchRev == 0 && s.mem.point == modePoint s q.toM && s.mem.changing.isNone && s.plt.state != .training
  | _ => true

/-- The new mode comes into force (R564): its timing, the Recorder, and the reply. -/
def modeInForce (st : Nat) (q : EntrySeq) (s : State) : State :=
  let m := q.toM
  let s1 := setMode m { s with
    cond := { s.cond with seq := none }
    sco := { s.sco with flat := flatTiming s m, written := List.replicate 4 false
                        awaiting := if m = .parked then none else s.sco.awaiting } }
  let s2 := if m = .parked then { bltStopAll s1 with sil := { s1.sil with running := false } }
            else if s1.sil.running && !s1.sil.stopped then s1 else startRecorder s1
  match q.tag with
  | some t => finish t { status := st, result := [BitVec.ofNat 8 (modeCode m)] } s2
  | none => s2

/-- The end of a sequence. The module does not enter LIGHTFIELD while the draft selects no READY slot (R46): a slot that was
READY when the sequence began and is no longer so ends it as a check that fails (log 65). -/
def inForce (q : EntrySeq) (s : State) : State :=
  match (if q.toM = .lightfield then raymapCheck s { s.cfg.draft with mode := .lightfield } else none) with
  | some r => failEntry r.status { s with cond := { s.cond with seq := some { q with steps := [] } } }
  | none => modeInForce q.st q s

/-- The steps left of a sequence: the first that has something to do begins, or the mode comes into force. -/
def runSteps : List Nat → EntrySeq → State → State
  | [], q, s => inForce q s
  | c :: cs, q, s =>
    if stepIdle c q.toM s then runSteps cs q s
    else
      let q' := { q with steps := c :: cs, begun := stepBegun c s, svcNext := 0 }
      stepAction c q' { s with cond := { s.cond with seq := some q' } }

/-- A sequence starts. -/
def startSeq (b : Mode) (steps : List Nat) (tag : Option Nat) (s : State) : State :=
  runSteps steps { fromM := s.cond.mode, toM := b, steps := steps, tag := tag }
    { s with cond := { s.cond with svcTiming := if b = .service then svcDeep (svcBytes s) else s.cond.svcTiming } }

/-- Entry to PARKED after a clear: steps 5 and 6 (R560). Under BIVOUAC, and in PARKED, nothing follows. -/
def enterParked (s : State) : State :=
  if s.cond.bivouac ∨ s.cond.mode = .parked ∧ s.cond.seq.isNone then s
  else match s.cond.seq with
    | some q => { s with cond := { s.cond with parkNext := q.toM != .parked } }
    | none => startSeq .parked [5, 6] none s

/-- A sequence has ended; the entry to PARKED that waited for it follows. -/
def afterSeq (s : State) : State :=
  if s.cond.parkNext && s.cond.seq.isNone then enterParked { s with cond := { s.cond with parkNext := false } } else s

/-- A step of a sequence that is not the service descriptor goes on: it begins if it could not, or the next begins. -/
def stepNext (q : EntrySeq) (s : State) : State :=
  match q.steps with
  | [] => s
  | c :: cs =>
    if !q.begun then
      let q' := { q with begun := stepBegun c s }
      stepAction c q' { s with cond := { s.cond with seq := some q' } }
    else if stepOver c q s then afterSeq (runSteps cs q s)
    else if c = 3 ∧ s.fly.state = .waiting then extendSeq q s
    else s

/-- The timing of the service is settled (R427): where memory is not at its point yet, which is so after the fall back to
FLAT, a dark revolution serves the change first (R31, R352; log 24), and then the mode comes into force. -/
def settleService (q : EntrySeq) (s : State) : State :=
  afterSeq (runSteps (if stepIdle 7 .service s then [] else [10]) q s)

/-- The service descriptor has run: what the service shows (R427). -/
def serviceDone (q : EntrySeq) (s : State) : State :=
  let d := svcBytes s
  let ready := slotReady s s.cfg.active
  let timing := svcDeep d && ready
  let zone := (List.range 4).map (fun k => BitVec.ofNat 32 (setParam s.cfg.active (0x4410 + k)))
  let s1 := { s with cond := { s.cond with
    svcTiming := timing, svcFlat := svcDeep d && !ready, svcZone := zone } }
  settleService q s1

/-- A packet of the descriptor has failed: SERVICE is entered with the default set (R427). -/
def serviceFailed (q : EntrySeq) (i : Nat) (s : State) : State :=
  let s1 := blackBox 0x0212 0xFF (BitVec.ofNat 32 i) { s with
    cond := { s.cond with svcTiming := false, svcFlat := false
                          svcZone := (List.range 4).map (fun k => paramDefault (0x4410 + k)) }
    cfg := { s.cfg with draft := defaultDraft .service s, active := defaultDraft .service s, commits := [], snap := none } }
  settleService { q with st := St.serviceDesc } s1

/-! ### MODE_SET (R415) -/

/-- The mode a code names. -/
def modeOf (n : Nat) : Mode :=
  if n = 0 then .lightfield else if n = 1 then .flat else if n = 2 then .parked else if n = 3 then .service else .test

/-- A change between LIGHTFIELD and FLAT is staged and committed. -/
def stagedChange (a b : Mode) : Bool := (a == .lightfield && b == .flat) || (a == .flat && b == .lightfield)

/-- MODE_SET ends with a status and the mode in force. -/
def modeReply (tag st : Nat) (s : State) : State :=
  finish tag { status := st, result := [BitVec.ofNat 8 (modeCode s.cond.mode)] } s

/-- Something that takes effect first is pending (Table 16-13, R263). -/
def mustWait (s : State) : Bool := !s.cfg.commits.isEmpty || s.ray.switchRev != 0

/-- Aux mark of a MODE_SET that waits for a commit. -/
def waitMark : Nat := 1

def startModeSet (tag : Nat) (p : Pkt) (s : State) : State :=
  let m := modeOf (pf p 0x14 1)
  if s.cond.seq.isSome then modeReply tag St.modeBusy s
  else if m = s.cond.mode then modeReply tag St.ok s
  else if litMode m && anyStop s then modeReply tag (condStatus s) s
  else if stagedChange s.cond.mode m then
    modeReply tag St.ok { s with cfg := { s.cfg with draft := { s.cfg.draft with mode := m } } }
  else if mustWait s then onFlight tag (fun f => { f with aux := [waitMark] }) s
  else
    match (if m = .lightfield then raymapCheck s { s.cfg.draft with mode := .lightfield } else none) with
    | some r => modeReply tag r.status s
    | none => startSeq m (entrySteps s.cond.mode m) (some tag) s

def execModeSet (p : Pkt) (s : State) : Host.Outcome State Fault Refusal := done (submit 0x0106 p startModeSet s)

/-- The MODE_SETs that waited for a commit go on, in order. -/
def startWaitingModeSet (s : State) : State :=
  if mustWait s then s
  else
    ((startedFlights s 0x0106).filter (fun f => f.aux == [waitMark])).foldl (fun t f =>
      startModeSet (ptag f.p) f.p (onFlight (ptag f.p) (fun f => { f with aux := [] }) t)) s

/-! ### The clears -/

/-- FAULT_CLEAR must wait (R416). -/
def faultHeld (s : State) : Bool :=
  !(s.rot.state == .stopped || s.rot.state == .freewheel) || crackBad s || s.mem.chanFail != 0

/-- FAULT_CLEAR; a clock that is still lost sets FAULT again (R505). -/
def startFaultClear (tag : Nat) (_p : Pkt) (s : State) : State :=
  let res := leBytes 4 s.rot.cause.toNat ++ leBytes 4 s.pnl.cause.toNat
  if !s.cond.fault then finish tag { result := res } s
  else if faultHeld s then finish tag { status := St.faultHold, result := res } s
  else
    let s1 := blackBox 0x0206 0xFF (causeWord s) { s with
      cond := { s.cond with fault := false }
      rot := { s.rot with cause := 0, encLost := false }
      pnl := { s.pnl with cause := 0, crkTripped := [false, false] } }
    let s2 := finish tag { result := res } (refreshLit s1)
    if clockStillLost s2 then clockFault s2 else enterParked s2

def execFaultClear (p : Pkt) (s : State) : Host.Outcome State Fault Refusal := done (submit 0x0107 p startFaultClear s)

/-- Enabled remote inputs whose reading stands at or above their re-arm level (R474). -/
def remoteHot (s : State) : Nat :=
  ((List.range 16).map (fun n => bit (tempEnabled s n && (inOf s n).hasRead &&
    decide (rearmLevel s n * 16 ≤ (inOf s n).reading)) n)).sum

/-- Remote inputs that block a clear. -/
def remoteBlocking (s : State) : Nat := ((List.range 16).map (fun n => bit (inHot s n) n)).sum

/-- THERMAL_CLEAR (R474). -/
def startThermalClear (tag : Nat) (_p : Pkt) (s : State) : State :=
  if !s.cond.shutdown then finish tag { result := leBytes 2 (remoteHot s) } s
  else if inMask (inHot s) ≠ 0 then
    finish tag { status := St.thermalHot, result := leBytes 2 (remoteBlocking s) } s
  else
    let (t, s1) := takeFree { s with
      cond := { s.cond with shutdown := false }
      therm := { s.therm with rearmed := false, ins := s.therm.ins.map (fun i => { i with tripped := false }) } }
    let (r, s2) := takeFree s1
    let s3 := thermLog 2 0xFF (t % 65536) (r % 65536) s2
    enterParked (finish tag { result := leBytes 2 0 } s3)

def execThermalClear (p : Pkt) (s : State) : Host.Outcome State Fault Refusal :=
  done (submit 0x0701 p startThermalClear s)

end Sys2Proof.Machine
end

