-- ==== Sys2Proof/Machine/Triggers.lean ====
section
/-! DEFINITION. Trigger outputs, capture inputs and the Time Unit registers (chapter 14). -/
namespace Sys2Proof.Machine

/-! ### TRIGGER_ARM and TRIGGER_STOP (R375, R379) -/

/-- The fields of Table 14-4 with their sizes that a MODE uses beside MODE itself. -/
def trigUses (m : Nat) : List (Nat × Nat) :=
  if m = 1 then [(1, 1), (4, 12), (0x18, 4), (0x1C, 4)]
  else if m = 2 then [(1, 1), (4, 12), (0x10, 4), (0x14, 2), (0x18, 4), (0x1C, 4)]
  else if m = 3 ∨ m = 4 then [(1, 1), (2, 2), (0x16, 2), (0x18, 4), (0x1C, 4), (0x20, 4)]
  else []

/-- A byte that the MODE does not use is not 0. -/
def trigUnused (d : List Byte) : Bool :=
  (List.range 40).any (fun i => 1 ≤ i && byteAt d i != 0 &&
    !(trigUses (byteAt d 0)).any (fun f => f.1 ≤ i && i < f.1 + f.2))

/-- The refusals of ST_TRIG_PARAM (R379). -/
def trigBad (d : List Byte) : Bool :=
  let m := byteAt d 0
  let width := field d 0x18 4
  decide (4 < m) || trigUnused d || decide (8 ≤ byteAt d 1) ||
  (1 ≤ m && (decide (width < 10) || decide (1000000000 < width))) ||
  ((m == 1 || m == 2) && decide (999999999 < field d 0x0A 4)) ||
  (m == 2 && (decide (field d 0x10 4 < 1000) ||
    decide (field d 0x10 4 * 65536 + field d 0x14 2 ≤ width * 65536))) ||
  ((m == 3 || m == 4) && (decide (field d 0x16 2 < 1) || decide (1000000 < field d 0x20 4)))

/-- 10 µs from now. -/
def trigSoon (s : State) : Nat := s.tu.time + 10000 * nsUnit

/-- TRIGGER_ARM; a pulse in progress ends at its width (R379). -/
def startTriggerArm (tag : Nat) (p : Pkt) (s : State) : State :=
  let n := pf p 0x14 1
  let d := pbytes p 0x18 40
  let t : Trigger := { trigOf s n with desc := d, armed := byteAt d 0 != 0, k := 0, sent := 0, passes := 0, due := false
                                       rearmed := (trigOf s n).active }
  if trigBad d then finishSt tag St.trigParam s
  else if byteAt d 0 = 1 ∧ edgeTime t 0 < trigSoon s then finishSt tag St.trigPast s
  else
    let k := if byteAt d 0 = 2 ∧ edgeTime t 0 < s.tu.time then firstEdge t 0 (trigSoon s) else 0
    finishSt tag St.ok (onTrig n (fun _ => { t with k := k }) s)

def execTriggerArm (p : Pkt) (s : State) : Host.Outcome State Fault Refusal := done (submit 0x0610 p startTriggerArm s)

/-- TRIGGER_STOP clears a descriptor. -/
def startTriggerStop (tag : Nat) (p : Pkt) (s : State) : State :=
  finishSt tag St.ok (onTrig (pf p 0x14 1) (fun t => { t with desc := [], armed := false, due := false }) s)

def execTriggerStop (p : Pkt) (s : State) : Host.Outcome State Fault Refusal := done (submit 0x0611 p startTriggerStop s)

/-! ### Edges (R376 to R378, R381, R382) -/

/-- Triggers run: the counter runs, and BIVOUAC is not set. -/
def trigRuns (s : State) : Bool := s.tu.running && !s.cond.bivouac

/-- An edge is not sent now: a pulse is active, COAST without COAST_KEEP, or a reset episode. -/
def edgeHeld (s : State) (t : Trigger) : Bool := t.active || (s.cond.coast && !trigFlag t 1) || s.pwr.episode

/-- An edge leaves, or is missed. A trigger that has sent its COUNT, and a one-shot, is done. -/
def fireEdge (n : Nat) (s : State) : State :=
  let t := trigOf s n
  if edgeHeld s t then
    missEdges 1 (onTrig n (fun t => { t with armed := t.armed && trigMode t != 1 }) s)
  else
    let cnt := field t.desc 0x1C 4
    let s1 := onTrig n (fun t => { t with
      active := true, rearmed := false, keepLow := trigFlag t 0, sent := t.sent + 1
      armed := trigMode t != 1 && (cnt == 0 || decide (t.sent + 1 < cnt)) }) s
    raiseIf (trigFlag t 2) 165 s1

/-- R376: the time of the next edge of a time-scheduled trigger comes. -/
def triggerTimeEdge (n : Nat) (s : State) : State :=
  let t := trigOf s n
  if trigRuns s && t.armed && (trigMode t == 1 || trigMode t == 2) then
    let s1 := timeUpTo (edgeTime t t.k) s
    fireEdge n (onTrig n (fun t => { t with k := t.k + 1 }) s1)
  else s

def execTriggerTimeEdge (n : Nat) (s : State) : Host.Outcome State Fault Refusal := done (triggerTimeEdge n s)

/-- The angles of a trigger in a revolution, in order: its one angle, or one in each drum facet. -/
def passAngles (t : Trigger) : List Nat :=
  let a := field t.desc 2 2
  if trigMode t = 3 then [a] else (List.range 4).map (fun k => a % 16384 + 16384 * k)

/-- The angle of the next pass of trigger `n` in this revolution. -/
def passAtk (s : State) (n : Nat) : Option Nat := (passAngles (trigOf s n)).find? (fun x => angleDue (8 + n) x s)

/-- A pass; the output fires on the first and on every DIVIDE-th after it. The schedule of a trigger armed anew begins
when the pulse in progress has ended (R379). -/
def takePass (n : Nat) (s : State) : State :=
  let t := trigOf s n
  let s1 := onTrig n (fun t => { t with passes := t.passes + 1 }) s
  if t.active && t.rearmed then s
  else if t.passes % max 1 (field t.desc 0x16 2) ≠ 0 then s1
  else if field t.desc 0x20 4 = 0 then fireEdge n s1
  else onTrig n (fun t => { t with due := true }) s1

/-- R377: the counter passes the angle of an angle-scheduled trigger. -/
def triggerPass (n : Nat) (s : State) : State :=
  let t := trigOf s n
  if trigRuns s && t.armed && (trigMode t == 3 || trigMode t == 4) then
    match passAtk s n with
    | some x => angleFire (8 + n) x (takePass n) s
    | none => s
  else s

def execTriggerAnglePass (n : Nat) (s : State) : Host.Outcome State Fault Refusal := done (triggerPass n s)

/-- R377: DELAY_NS after a pass has gone by. -/
def execTriggerAngleEdge (n : Nat) (s : State) : Host.Outcome State Fault Refusal :=
  done (if trigRuns s && (trigOf s n).due then fireEdge n (onTrig n (fun t => { t with due := false }) s) else s)

/-- R378: a pulse ends. -/
def execTriggerPulseEnd (n : Nat) (s : State) : Host.Outcome State Fault Refusal :=
  done (if (trigOf s n).active && !s.pwr.episode then onTrig n (fun t => { t with active := false }) s else s)

/-! ### Captures (R380) -/

def capOf (s : State) (n : Nat) : CapCfg := tget s.tu.caps n {}

def startCaptureConfig (tag : Nat) (p : Pkt) (s : State) : State :=
  let c : CapCfg := { enable := pf p 0x15 1 == 1, edge := pf p 0x16 1, filter := pf p 0x17 1 }
  finishSt tag St.ok { s with tu := { s.tu with caps := tset s.tu.caps (pf p 0x14 1) c } }

def execCaptureConfig (p : Pkt) (s : State) : Host.Outcome State Fault Refusal :=
  done (submit 0x0612 p startCaptureConfig s)

/-- The stamp of an edge: whole nanoseconds, and the angle counter. -/
def captureStamp (n : Nat) (rising : Bool) (s : State) : CapEntry :=
  { time := s.tu.time / nsUnit * nsUnit, angle := s.rot.angle, input := n, rising := rising
    angleValid := s.rot.angleValid, timeSet := s.tu.timeSet, tseq := s.tu.tseq }

/-- An accepted edge enters the FIFO, or is lost. -/
def captureEdge (n : Nat) (rising : Bool) (s : State) : State :=
  let c := capOf s n
  if trigRuns s && c.enable && (c.edge == 2 || (c.edge == 0) == rising) then
    if s.tu.fifo.length < 256 then { s with tu := { s.tu with fifo := s.tu.fifo ++ [captureStamp n rising s] } }
    else raise 168 (count .tcOverflow s)
  else s

def execCaptureEdge (n : Nat) (rising : Bool) (s : State) : Host.Outcome State Fault Refusal :=
  done (if n < 16 then captureEdge n rising s else s)

/-- Word `i` of the head of the FIFO (Table 14-5). -/
def fifoWord (s : State) (i : Nat) : Nat :=
  match s.tu.fifo with
  | [] => 0
  | e :: _ =>
    if i < 3 then timeWord e.time i
    else if i = 3 then e.angle.toNat
    else e.input % 16 + bit e.rising 4 + bit e.angleValid 5 + bit e.timeSet 6 + e.tseq % 256 * 2 ^ 7

def popFifo (s : State) : State := { s with tu := { s.tu with fifo := s.tu.fifo.drop 1 } }

/-- R380: 1 is written to bit 0 of TC_FIFO_POP. -/
def execTcFifoPop (s : State) : Host.Outcome State Fault Refusal := done (if live s then popFifo s else s)

/-! ### Registers (Tables 14-8 and 14-9) -/

/-- Reading TU_TIME0 latches words 1 to 3 (R361). -/
def latchTime (s : State) : State := { s with tu := { s.tu with latch := stampTime s } }

def execTuTimeRead (s : State) : Host.Outcome State Fault Refusal :=
  done (if live s then
    let s1 := latchTime s
    { s1 with hif := { s1.hif with lastRead := BitVec.ofNat 32 (timeWord s1.tu.latch 0) } }
  else s)

def tuStateCode : TuState → Nat
  | .freerun => 0 | .acquiring => 1 | .locked => 2 | .holdover => 3

def tuStatus (s : State) : Nat :=
  tuStateCode s.tu.state + bit s.tu.running 2 + bit s.tu.timeSet 3 + bit s.tu.pendStep 4 + bit s.tu.slewing 5 +
  ((s.tu.master.map (·.port)).getD 0) % 4 * 2 ^ 6 + bit ((s.tu.master.map (·.traceable)).getD false) 8 +
  s.tu.tseq % 256 * 2 ^ 9

/-- The grandmasterIdentity in use (R372). -/
def gmId (s : State) : Nat := (s.tu.lastGm.getD 0).toNat

def tuReg (s : State) (off : Nat) : Nat :=
  if off = 0x000 then tuStatus s
  else if off = 0x004 then wrapTo 32 s.tu.offset
  else if off = 0x008 then wrapTo 32 s.tu.freqPpb
  else if off = 0x00C then wrapTo 64 s.tu.pendOff % 2 ^ 32
  else if off = 0x010 then wrapTo 64 s.tu.pendOff / 2 ^ 32
  else if off = 0x020 then timeWord (stampTime s) 0
  else if 0x024 ≤ off ∧ off ≤ 0x02C then timeWord s.tu.latch ((off - 0x020) / 4)
  else if off = 0x030 then gmId s % 2 ^ 32
  else if off = 0x034 then gmId s / 2 ^ 32
  else if off = 0x040 then ctrReg s .tuOutlier
  else if off = 0x044 then ctrReg s .tuRefuse
  else if off = 0x048 then ctrReg s .tuGmChange
  else if off = 0x04C then ctrReg s .tuEarlyDrop
  else if off = 0x050 then ctrReg s .tuPtpDrop
  else if off = 0x054 then ctrReg s .ttMissed
  else if off = 0x058 then ctrReg s .tcOverflow
  else if 0x060 ≤ off ∧ off ≤ 0x070 then fifoWord s ((off - 0x060) / 4)
  else 0

def tuWrite (off : Nat) (v : Word) (s : State) : State := if off = 0x074 ∧ v.getLsbD 0 then popFifo s else s

end Sys2Proof.Machine
end

