-- ==== Sys2Proof/Machine/Device.lean ====
section
/-! DEFINITION. IDENTIFY, GET_STATUS, parameters, firmware slots, service slots and the JT-40 commands (chapters 15 to
17). -/
namespace Sys2Proof.Machine

/-! ### IDENTIFY (R417) -/

/-- The two characters of the stepping. -/
def stepping : List Byte := [Config.steppingByte 0, Config.steppingByte 1]

/-- FW_MAIN: the version of the main image that runs. -/
def mainVersion (s : State) : Word := Config.fwMain s.pwr.runningSlot (s.pwr.slots.getD s.pwr.runningSlot ([], true)).1

/-- The identity image (Table 16-3). -/
def identityImage (s : State) : List Byte :=
  serialBytes ++ [0x46, 0x4A, 0x2D, 0x37, 0x31, 0x32, 0x38, 0x00] ++ stepping ++ [0, 0] ++
  leBytes 4 (mainVersion s).toNat ++ leBytes 4 Config.fwBoot.toNat ++ leBytes 4 Config.fwService.toNat ++
  leBytes 4 s.pwr.boot ++ leBytes 2 0x1F3C ++ leBytes 2 0x7128 ++ leBytes 4 67108864 ++ leBytes 8 8589934592 ++
  leBytes 8 0

def startIdentify (tag : Nat) (_p : Pkt) (s : State) : State :=
  finish tag { result := leBytes 4 (mainVersion s).toNat ++ leBytes 4 s.pwr.boot ++ stepping ++
                         [BitVec.ofNat 8 (modeCode s.cond.mode)]
               image := identityImage s } s

def execIdentify (p : Pkt) (s : State) : Host.Outcome State Fault Refusal := done (submit 0x0101 p startIdentify s)

/-! ### GET_STATUS (R418, Table 16-4) -/

/-- HIF_STATUS (Table 15-14). -/
def hifStatus (s : State) : Nat :=
  bit s.hif.fwUp 0 + bit s.hif.ready 1 + bit s.hif.warmSeen 2 + min 511 s.hif.flights.length * 2 ^ 3

/-- The counters whose copies the status image holds. -/
def statusCtrs : List Ctr :=
  [.scoRepeat, .scoDark, .underrun0, .underrun1, .underrun2, .underrun3, .rayLate, .rayEscalate, .composeLate,
   .safetyMismatch, .blocksFail, .memCe, .memUe, .tuRefuse, .zoneFault, .flySkip]

/-- Bytes 0x010 to 0x01B: mode, conditions, flags, throttle step, ROT_STATUS and ROT_SPEED. -/
def statusHead (s : State) : List Byte :=
  leBytes 1 (modeCode s.cond.mode) ++ leBytes 1 (condBits s) ++
  leBytes 1 (bit s.hif.ready 0 + bit s.rot.litOk 1 + bit (s.cfg.draft.mode != s.cond.mode) 2) ++
  leBytes 1 s.therm.step ++ leBytes 4 (rotStatus s) ++ leBytes 4 (s.rot.speed16 % 2 ^ 20)

/-- Map ID of a slot, 0 for a slot without an image. -/
def slotMapId (s : State) (n : Nat) : Nat := field (s.rmap.image.getD n []) 0x18 4

/-- The status image, sampled in one instant. -/
def statusImage (s : State) : List Byte :=
  padTo 512 (leBytes 8 s.cfg.epoch ++ leBytes 8 ((s.cfg.snap.map (·.epoch)).getD 0) ++ statusHead s ++
    leBytes 4 (wrapTo 32 s.rot.phaseErr) ++ leBytes 4 s.rot.angle.toNat ++ timeBytes (stampTime s) ++
    leBytes 4 (tuStatus s) ++ ((List.range 4).flatMap (fun n => leBytes 1 (slotCode (s.rmap.state.getD n .empty)))) ++
    ((List.range 4).flatMap (fun n => leBytes 4 (slotMapId s n))) ++ padTo 8 (leBytes 1 (setParam s.cfg.active 0x1000)) ++
    areas.flatMap (fun a => leBytes 8 a.1 ++ leBytes 8 a.2.1) ++
    [scoStatus s, rayStatus s, memStatus s, pnlStatus s, blStatus s, flyStatus s, pltStatus s, hifStatus s].flatMap (leBytes 4) ++
    [s.rot.cause.toNat, s.pnl.cause.toNat, memReg s 0x018, memReg s 0x01C].flatMap (leBytes 4) ++
    statusCtrs.flatMap (fun c => leBytes 4 (ctrReg s c)) ++
    ((List.range 16).flatMap (fun n => leBytes 1 (safetyCode s n))) ++ leBytes 4 (camStaleReg s) ++
    leBytes 4 s.fly.imageLo.toNat ++ leBytes 4 s.fly.imageHi.toNat)

def startGetStatus (tag : Nat) (_p : Pkt) (s : State) : State :=
  finish tag { result := statusHead s, image := statusImage s } s

def execGetStatus (p : Pkt) (s : State) : Host.Outcome State Fault Refusal := done (submit 0x0102 p startGetStatus s)

/-! ### Parameters (R402, R403) -/

/-- The PN and VALUE pairs of a packet. -/
def paramPairs (p : Pkt) : List (Nat × Word) :=
  (List.range (pf p 0x14 1)).map (fun k => (pf p (0x18 + 8 * k) 2, BitVec.ofNat 32 (pf p (0x18 + 8 * k + 4) 4)))

/-- The value a parameter has once every pair is applied. -/
def postValue (s : State) (ps : List (Nat × Word)) (pn : Nat) : Word :=
  match ps.reverse.find? (fun e => e.1 == pn) with
  | some e => e.2
  | none => paramWord s pn

/-- Highest frequency of a clock output source, in kHz (R508): the reference is at most 125 MHz. -/
def ckoSourceKhz (n : Nat) : Nat := [125000, 156250, 500000, 168750, 100000].getD n 0
/-- Limit of a clock output format, in kHz (Table 21-8). -/
def ckoLimitKhz (f : Nat) : Nat := [0, 500000, 250000, 125000, 125000].getD f 0

/-- The relations of R402 by their parameters, with whether they hold on given values. -/
def relations (v : Nat → Word) : List (List Nat × Bool) :=
  [([0x7107, 0x7108], decide ((v 0x7108).toInt + 5 ≤ (v 0x7107).toInt)),
   ([0x6000, 0x6003], decide ((v 0x6003).toNat = 0 ∨ (v 0x6000).toNat ≤ 1))] ++
  (List.range 16).map (fun n =>
    ([0x7200 + 16 * n + 7, 0x7200 + 16 * n + 8],
      decide ((v (0x7200 + 16 * n + 8)).toInt + 2 ≤ (v (0x7200 + 16 * n + 7)).toInt))) ++
  (List.range 8).map (fun n =>
    let b := 0x0220 + 8 * n
    ([b, b + 1, b + 2], decide ((v b).toNat = 0 ∨
      ckoSourceKhz (v (b + 1)).toNat ≤ ckoLimitKhz (v b).toNat * (v (b + 2)).toNat)))

/-- The status of a pair by itself (R402). -/
def pairStatus (e : Nat × Word) : Option Nat :=
  match paramSpec e.1 with
  | none => some St.badPn
  | some q => if paramInRange e.1 q e.2 then none else some St.paramRange

/-- The last index of a list that a test picks. -/
def lastIdx {α : Type} (f : α → Bool) (l : List α) : Option Nat :=
  ((List.range l.length).filter (fun i => (l[i]?.map f).getD false)).getLast?

/-- The pair that a broken relation names: the later of those that name one of its parameters. -/
def brokenAt (s : State) (ps : List (Nat × Word)) : List Nat :=
  (relations (postValue s ps)).filterMap (fun r => if r.2 then none else lastIdx (fun e => r.1.contains e.1) ps)

/-- The first failing pair of a PARAM_SET, with its status. -/
def firstFailing (s : State) (ps : List (Nat × Word)) : Option (Nat × Nat) :=
  let broken := brokenAt s ps
  ((List.range ps.length).filterMap (fun i =>
    match ps[i]? with
    | some e => ((pairStatus e).orElse fun _ => if broken.contains i then some St.paramRange else none).map (fun st => (i, st))
    | none => none)).head?

/-- What setting a parameter does beside its value (R352, R383, R468, R512). -/
def paramHook (pn : Nat) (old v : Word) (s : State) : State :=
  if 0x6000 ≤ pn ∧ pn ≤ 0x6003 then (if old = v then s else ptpRestart s)
  else if pn = 0x0200 then { s with pwr := { s.pwr with refSel := v.toNat } }
  else if pn = 0xB000 then { s with pwr := { s.pwr with autostart := v.toNat } }
  else if pn = 0x8007 ∧ s.cond.mode = .test then requirePoint (modePoint s .test) s
  else thermParam pn old.toNat s

/-- One pair applied: to the draft for a Commit parameter, at once for any other. -/
def applyPair (s : State) (e : Nat × Word) : State :=
  if ((paramSpec e.1).map (·.commit)).getD false then draftParam e.1 e.2 s
  else paramHook e.1 (paramWord s e.1) e.2
    { s with cfg := { s.cfg with params := paramPut s.cfg.params e.1 e.2 } }

def startParamSet (tag : Nat) (p : Pkt) (s : State) : State :=
  let ps := paramPairs p
  match firstFailing s ps with
  | some (i, st) => finish tag { status := st, result := [0, 0, 0, 0] ++ leBytes 1 i } s
  | none => finishSt tag St.ok (ps.foldl applyPair s)

def execParamSet (p : Pkt) (s : State) : Host.Outcome State Fault Refusal := done (submit 0x0104 p startParamSet s)

def startParamGet (tag : Nat) (p : Pkt) (s : State) : State :=
  let pn := pf p 0x14 2
  match paramSpec pn with
  | none => finishSt tag St.badPn s
  | some q =>
    let v := if q.commit && pf p 0x16 1 == 1 then setParam s.cfg.draft pn else par s pn
    finish tag { result := leBytes 4 v } s

def execParamGet (p : Pkt) (s : State) : Host.Outcome State Fault Refusal := done (submit 0x0105 p startParamGet s)

/-! ### Firmware slots (R423, R458) -/

/-- A staging begins: the slot is invalid until its image has been checked. -/
def stageBegin (tag : Nat) (p : Pkt) (s : State) : State :=
  let n := pf p 0x14 1
  if n = s.pwr.runningSlot then finishSt tag St.fwSlot s
  else
    let img := pdata s p
    { s with pwr := { s.pwr with fwTag := some (tag, n, img)
                                 slots := s.pwr.slots.set n ((s.pwr.slots.getD n ([], true)).1, false) } }

/-- FW_STAGE; behind a staging that runs it waits. -/
def startFwStage (tag : Nat) (p : Pkt) (s : State) : State := if s.pwr.fwTag.isSome then s else stageBegin tag p s

def execFwStage (p : Pkt) (s : State) : Host.Outcome State Fault Refusal := done (submit 0x0B01 p startFwStage s)

/-- R423: the image is written and its signature checked; a staging that waits begins. -/
def stageEnd (s : State) : State :=
  match s.pwr.fwTag with
  | none => s
  | some (t, n, img) =>
    let ok := Config.sigOk img
    let s1 := finishSt t (if ok then St.ok else St.fwSignature)
      { s with pwr := { s.pwr with fwTag := none, slots := s.pwr.slots.set n (img, ok) } }
    (startedFlights s1 0x0B01).foldl (fun u f => startFwStage (ptag f.p) f.p u) s1

def execFwStageCompletion (s : State) : Host.Outcome State Fault Refusal := done (if live s then stageEnd s else s)

def startFwActivate (tag : Nat) (p : Pkt) (s : State) : State :=
  let n := pf p 0x14 1
  if slotGood s n then finishSt tag St.ok { s with pwr := { s.pwr with selected := n } }
  else finishSt tag St.fwSignature s

def execFwActivate (p : Pkt) (s : State) : Host.Outcome State Fault Refusal := done (submit 0x0B02 p startFwActivate s)

/-! ### Service slots (R426) -/

/-- The opcode and the packet that 64 bytes hold, as a path delivers it. -/
def bytesPacket (path : Nat) (b : List Byte) : Nat × Pkt :=
  (field b 0 2,
   { path := path, tag := BitVec.ofNat 16 (field b 2 2), dep := BitVec.ofNat 16 (field b 4 2), flags := b.getD 6 0
     rsvd := b.getD 7 0, addr := BitVec.ofNat 64 (field b 8 8), len := BitVec.ofNat 32 (field b 0x10 4)
     params := padTo 44 (b.drop 0x14), host := [] })

/-- Packet `i` of a descriptor, as path 18 delivers it. -/
def svcPacket (d : List Byte) (i : Nat) : Nat × Pkt := bytesPacket 18 ((d.drop (32 + 64 * i)).take 64)

/-- The opcodes a descriptor may hold. -/
def svcOpcode (op : Nat) : Bool := decide (0x0101 ≤ op) && decide (op < 0x0700) && op != 0x0106

/-- A descriptor that may be stored. -/
def svcStorable (d : List Byte) : Bool :=
  svcGood d && (List.range (svcCount d)).all (fun i => svcOpcode (svcPacket d i).1)

def startServiceStore (tag : Nat) (p : Pkt) (s : State) : State :=
  let d := pdata s p
  if svcStorable d then
    finishSt tag St.ok { s with pwr := { s.pwr with svcSlots := s.pwr.svcSlots.set (pf p 0x14 1) d } }
  else finishSt tag St.serviceDesc s

def execServiceStore (p : Pkt) (s : State) : Host.Outcome State Fault Refusal := done (submit 0x0F01 p startServiceStore s)

def startServiceSelect (tag : Nat) (p : Pkt) (s : State) : State :=
  let n := pf p 0x14 1
  if (s.pwr.svcSlots.getD n []).isEmpty then finishSt tag St.serviceDesc s
  else finishSt tag St.ok { s with pwr := { s.pwr with svcSel := some n } }

def execServiceSelect (p : Pkt) (s : State) : Host.Outcome State Fault Refusal := done (submit 0x0F02 p startServiceSelect s)

/-! ### JT-40 (R428 to R430) -/

def jtOk : Nat := 0
def jtBusy : Nat := 1
def jtUnsupported : Nat := 2
def jtRange : Nat := 3
def jtCrc : Nat := 4

/-- The CRC of a request covers CMD, LEN and the payload. -/
def jtCrcGood (cmd : Nat) (f : JtFrame) : Bool := crc8 (BitVec.ofNat 8 cmd :: f.len :: f.payload) == f.crc

/-- A request frame reaches the SPI in SERVICE: its CRC is judged first, a mode change on its way answers BUSY, and a
length that is not the command's answers RANGE. -/
def jtRequest (cmd n : Nat) (f : JtFrame) (act : State → State) (s : State) : State :=
  if s.cond.mode != .service || !s.hif.ready || s.pwr.episode || f.sync != 0xA5 then s
  else
    let s1 := wakeDomain s
    if !jtCrcGood cmd f then jtReply jtCrc [] s1
    else if s1.cond.seq.isSome then jtReply jtBusy [] s1
    else if f.len.toNat ≠ n ∨ f.payload.length ≠ n then jtReply jtRange [] s1
    else act s1

/-- The tag and path of a commit that a JT-40 command makes. -/
def jtTag : Nat := 512
def jtPath : Nat := 19

/-- A change staged and committed (R429): BUSY while a commit is pending, RANGE when the commit is refused. -/
def jtCommit (stage : ConfigSet → ConfigSet) (s : State) : State :=
  if !s.cfg.commits.isEmpty || s.cond.coast then jtReply jtBusy [] s
  else match commitPoint jtTag jtPath (onDraft stage s) with
    | .ok t => t
    | .error _ => jtReply jtRange [] s

/-- Payload byte `i`. -/
def jtByte (f : JtFrame) (i : Nat) : Nat := byteAt f.payload i

/-- A parameter of a set. -/
def putParam (pn : Nat) (v : Word) (c : ConfigSet) : ConfigSet := { c with params := paramPut c.params pn v }

/-- A layer of a set, counted as a LAYER_DEFINE of it. -/
def putLayer (l : Nat) (d : List Byte) (c : ConfigSet) : ConfigSet :=
  { c with layers := descPut c.layers l d, layerSeq := tset c.layerSeq l (tget c.layerSeq l 0 + 1) }

/-- ENABLED of a layer set or cleared. -/
def enableLayer (l : Nat) (on : Bool) (c : ConfigSet) : ConfigSet :=
  let d := layerOf c l
  putLayer l (d.set 3 (BitVec.ofNat 8 (byteAt d 3 / 2 * 2 + bit on 0))) c

def execJtNop (f : JtFrame) (s : State) : Host.Outcome State Fault Refusal :=
  done (jtRequest 0x01 0 f (jtReply jtOk []) s)

def execJtVersion (f : JtFrame) (s : State) : Host.Outcome State Fault Refusal :=
  done (jtRequest 0x02 0 f (jtReply jtOk ([0x34, 0x00] ++ leBytes 4 Config.fwService.toNat)) s)

/-- The target of the mirror and its size; none for a service at depth without planes (R430). -/
def mirrorTarget (s : State) : Option (Nat × Nat × Nat) :=
  if !s.cond.svcTiming then some (64, 4096, 2304)
  else if planeCount s.cfg.draft = 0 then none
  else some (0, dW (planeOf s.cfg.draft 0), dH (planeOf s.cfg.draft 0))

/-- The largest rectangle of a frame's aspect ratio inside a target, within the scaler ratios (R430, R134). -/
def mirrorRect (cw ch w h : Nat) : Option (Nat × Nat) :=
  let wide := decide (w * ch ≤ h * cw)
  let dw := if wide then min w (16 * cw) else min h (16 * ch) * cw / ch
  let dh := if wide then min w (16 * cw) * ch / cw else min h (16 * ch)
  if 1 ≤ dw ∧ 1 ≤ dh ∧ cw ≤ 4 * dw ∧ ch ≤ 4 * dh then some (dw, dh) else none

/-- The descriptor of layer 31 for a port. -/
def mirrorLayer (port t cw ch dx dy dw dh : Nat) : List Byte :=
  padTo 48 (leBytes 1 (port + 1) ++ [0] ++ leBytes 1 t ++ leBytes 1 0x11 ++ leBytes 4 0 ++ leBytes 2 0 ++ leBytes 2 1023 ++
    leBytes 2 0 ++ leBytes 2 0 ++ leBytes 2 cw ++ leBytes 2 ch ++ leBytes 2 dx ++ leBytes 2 dy ++ leBytes 2 dw ++
    leBytes 2 dh ++ [7])

/-- Another enabled layer of the draft names scaler 7. -/
def scaler7Used (c : ConfigSet) : Bool := (enabledLayers c).any (fun l => l != 31 && lScaler (layerOf c l) == 7)

def jtMirrorStart (f : JtFrame) (s : State) : State :=
  let c := s.cfg.draft
  let port := jtByte f 0
  if 3 < port ∨ jtByte f 1 ≠ 0 ∨ scaler7Used c then jtReply jtRange [] s
  else
    let cw := camParam c port 4
    let ch := camParam c port 5
    match mirrorTarget s with
    | none => jtReply jtRange [] s
    | some (t, w, h) =>
      match mirrorRect cw ch w h with
      | none => jtReply jtRange [] s
      | some (dw, dh) =>
        jtCommit (putLayer 31 (mirrorLayer port t cw ch ((w - dw) / 2) ((h - dh) / 2) dw dh)) s

def execJtMirrorStart (f : JtFrame) (s : State) : Host.Outcome State Fault Refusal :=
  done (jtRequest 0x10 2 f (jtMirrorStart f) s)

def execJtMirrorStop (f : JtFrame) (s : State) : Host.Outcome State Fault Refusal :=
  done (jtRequest 0x11 0 f (jtCommit (enableLayer 31 false)) s)

def execJtBrightness (f : JtFrame) (s : State) : Host.Outcome State Fault Refusal :=
  done (jtRequest 0x20 1 f (jtCommit (putParam 0x4400 (BitVec.ofNat 32 (160 * jtByte f 0 / 255)))) s)

/-- JT_BACKLIGHT: all zones off, or as the descriptor left them. -/
def jtBacklight (f : JtFrame) (s : State) : State :=
  if 1 < jtByte f 0 then jtReply jtRange [] s
  else jtCommit (fun c => (List.range 4).foldl (fun c k =>
    putParam (0x4410 + k) (if jtByte f 0 = 0 then 0 else s.cond.svcZone.getD k 0xFFFFFFFF) c) c) s

def execJtBacklight (f : JtFrame) (s : State) : Host.Outcome State Fault Refusal :=
  done (jtRequest 0x21 1 f (jtBacklight f) s)

/-- JT_OVERLAY_SHOW and JT_OVERLAY_HIDE of layers 0 to 30. -/
def jtOverlay (on : Bool) (f : JtFrame) (s : State) : State :=
  if 30 < jtByte f 0 then jtReply jtRange [] s else jtCommit (enableLayer (jtByte f 0) on) s

def execJtOverlayShow (f : JtFrame) (s : State) : Host.Outcome State Fault Refusal :=
  done (jtRequest 0x30 1 f (jtOverlay true f) s)

def execJtOverlayHide (f : JtFrame) (s : State) : Host.Outcome State Fault Refusal :=
  done (jtRequest 0x31 1 f (jtOverlay false f) s)

def execJtStatus (f : JtFrame) (s : State) : Host.Outcome State Fault Refusal :=
  done (jtRequest 0x40 0 f (fun t => jtReply jtOk (leBytes 1 (condBits t) ++ leBytes 1 t.therm.step ++
    leBytes 1 (rotCode t.rot.state) ++ leBytes 1 (bit t.cond.svcFlat 0)) t) s)

/-- The DISPARITY of every plane of a set. -/
def putDepth (v : Nat) (c : ConfigSet) : ConfigSet :=
  { c with planes := (List.range (planeCount c)).foldl (fun t k =>
      let d := planeOf c k
      descPut t k (d.take 0x0C ++ leBytes 4 v ++ d.drop 0x10)) c.planes }

/-- JT_SET_DEPTH: every service target at one disparity. -/
def jtSetDepth (f : JtFrame) (s : State) : State :=
  let v := leNat (f.payload.take 4)
  if dispExtended v then
    jtCommit (putDepth v) s
  else jtReply jtRange [] s

def execJtSetDepth (f : JtFrame) (s : State) : Host.Outcome State Fault Refusal :=
  done (jtRequest 0x50 4 f (jtSetDepth f) s)

/-- The command codes of Table 16-12. -/
def jtKnown : List Nat := [0x01, 0x02, 0x10, 0x11, 0x20, 0x21, 0x30, 0x31, 0x40, 0x50]

/-- R429: any other code answers UNSUPPORTED. -/
def execJtUnsupportedCmd (cmd : Byte) (f : JtFrame) (s : State) : Host.Outcome State Fault Refusal :=
  done (if jtKnown.contains cmd.toNat then s
    else jtRequest cmd.toNat f.payload.length f (jtReply jtUnsupported []) s)

end Sys2Proof.Machine
end

