-- ==== Sys2Proof/Machine/Frame.lean ====
section
/-! DEFINITION. The revolution start, the latch angle and the timer tick that stands for it (R223, R226 to R230, R260 to
R263, R309, R312, R518, R524). -/
namespace Sys2Proof.Machine

/-! ### The phase servo (R226 to R228) -/

/-- 60 × 10⁹ ns in units of time: the modulus of (t − offset) × n. -/
def phaseMod : Nat := 60 * 1000000000 * nsUnit

/-- θ* of R226 in 1/65,536 ATK, for the time t_r and the setpoint in force. -/
def phaseTarget (s : State) : Nat :=
  let d : Int := (s.rot.startTime : Int) - (setParam s.cfg.active 0x4104 * nsUnit : Nat)
  ((d * (s.rot.setpoint : Int)) % (phaseMod : Int)).toNat * 2 ^ 32 / phaseMod

/-- e of R227 in 1/65,536 ATK, wrapped to half a revolution. -/
def phaseError (s : State) : Int := sext 32 (wrapTo 32 (-(phaseTarget s : Int)))

/-- The trim of R227, in ppm × 65,536. -/
def phaseTrim (s : State) (e : Int) : Int :=
  let m : Int := (par s 0x4103 * 65536 : Nat)
  clampI (-m) m (roundDiv (-e * 1000000) (65536 * 8))

/-- The speed command of RUN, n × (1 + trim / 1,000,000), in rpm / (65,536 × 1,000,000) (R227). -/
def speedCommand (s : State) : Int := (s.rot.setpoint : Int) * (65536 * 1000000 + s.rot.trim)

/-- The lock rule of R228 for one revolution. -/
def phaseLock (e : Int) (s : State) : State :=
  let l := par s 0x4105 * 65536
  let a := e.natAbs
  let on := if a ≤ l then s.rot.lockRun + 1 else 0
  let off := if 4 * l < a then s.rot.unlockRun + 1 else 0
  let s1 := { s with rot := { s.rot with lockRun := on, unlockRun := off } }
  if s.rot.lock = .acquiring ∧ 60 ≤ on then
    raise 21 { s1 with rot := { s1.rot with lock := .locked, unlockRun := 0 } }
  else if s.rot.lock = .locked ∧ 4 ≤ off then
    raise 22 (count .lockLoss { s1 with rot := { s1.rot with lock := .acquiring, lockRun := 0 } })
  else s1

/-- The servo at a revolution start; while RAMP is set it is suspended, and out of RUN there is none. -/
def phaseServo (s : State) : State :=
  if s.rot.state ≠ .run ∨ s.rot.ramp then s
  else
    let e := phaseError s
    phaseLock e { s with rot := { s.rot with
      phaseErr := min 32767 (roundDiv e 65536), trim := phaseTrim s e } }

/-! ### What a revolution start brings up to date -/

/-- The motor power limit of a ramp in the revolution that begins (R223). -/
def motorLimit (mw : Nat) (s : State) : State :=
  { s with rot := { s.rot with
      motorLimitMw := if s.rot.litOk then min 60000 (260000 - if s.rot.litRev then mw else 240000) else 60000
      litRev := s.rot.litOk } }

/-- The set, the epoch and the mode that govern the frame that begins; a frame whose composition was late shows the
epoch before (R141, R260). -/
def frameBegins (s : State) : State :=
  { s with
    sco := { s.sco with frameSet := s.cfg.active }
    sil := { s.sil with frameRev := rev s, frameMode := s.cond.mode
                        frameEpoch := if s.acc.lateFrame then s.sil.frameEpoch else s.cfg.epoch } }

/-- The lanes take the rate of the timing in force (R258, R263, R280). -/
def rateChange (s : State) : State :=
  if s.pnl.state = .on ∧ s.plt.state ≠ .training ∧ s.plt.rate27 ≠ laneRate27 s then startTraining 3 s else s

/-- The steps of a change of timing at a revolution start: the dark revolution begins, and the first frame after it
(R263). An entry sequence ends its dark revolution itself. -/
def switchStep (s : State) : State :=
  if s.ray.switchRev = 2 then rateChange (dropBuffers { s with ray := { s.ray with switchRev := 1 } })
  else if s.ray.switchRev = 1 then
    if s.cond.seq.isSome then { s with ray := { s.ray with switchRev := 0 } } else rateChange (completeSwitch s)
  else if s.cond.seq.isNone then rateChange s
  else s

/-- The angle counter passes 0 of the next revolution, in which every scheduled event may fire again; one that encoder
counts have carried there stays (R216). -/
def angleRev (s : State) : State :=
  { s with rot := { s.rot with
      fired := []
      angle := if startOverdue s then s.rot.angle else BitVec.ofNat 32 ((s.sil.frameRev + 1) * 65536) } }

/-- A revolution start: the entry of the frame that ends, then the new frame. -/
def revolutionStart (speed16 mw : Nat) (mins : List Nat) (s : State) : State :=
  let s1 := angleRev (writeFrame false false s)
  let s2 := setSpeed speed16 { s1 with rot := { s1.rot with startTime := stampTime s1 } }
  let s3 := supplyUpdate mins (capUpdate mw (motorLimit mw (phaseServo s2)))
  let s4 := captures (frameBegins (switchStep s3))
  startWaitingModeSet (when (mayTrain s4) beginTrain s4)

/-- R227: a revolution start, with the speed, the emitter power and the lowest sink voltages measured over the
revolution that ends. -/
def execRevolutionStart (speed16 emitterMw : Nat) (rowMinMv : List Nat) (s : State) : Host.Outcome State Fault Refusal :=
  done (if live s && s.rot.angleValid then revolutionStart speed16 emitterMw rowMinMv s else s)

/-! ### The latch angle and the timer (R260 to R262) -/

/-- A frame composition follows a latch angle in every mode that composes (R139, R34). -/
def latchCompose (s : State) : State :=
  if s.cond.mode = .parked ∨ s.cond.bivouac ∨ ¬ memServed s then s else frameComposition s

/-- The latch angle. -/
def latchAngle (s : State) : State := startWaitingModeSet (latchCompose (takeEffect false s))

/-- R260: 32,768 ATK. -/
def execLatchAngle (s : State) : Host.Outcome State Fault Refusal :=
  done (when (live s) (angleFire 0 32768 latchAngle) s)

/-- A change of timing that waited for revolutions ends at a tick. -/
def switchTick (s : State) : State :=
  if s.ray.switchRev = 0 then s
  else
    let s1 := dropBuffers s
    if s1.cond.seq.isSome then { s1 with ray := { s1.ray with switchRev := 0 } } else completeSwitch s1

/-- A timer tick: its entry, then the commits (R262, R518). -/
def latchTick (s : State) : State :=
  let s1 := switchTick (takeEffect true (when s.hif.ready (writeFrame false true) s))
  let s2 := when s1.cond.seq.isNone rateChange s1
  startWaitingModeSet { s2 with
    sco := { s2.sco with frameSet := s2.cfg.active }
    sil := { s2.sil with frameMode := s2.cond.mode, frameEpoch := s2.cfg.epoch } }

/-- R262: a tick of the timer while ANGLE_VALID is 0. -/
def execLatchTimerTick (s : State) : Host.Outcome State Fault Refusal :=
  done (if live s && !s.rot.angleValid then latchTick s else s)

end Sys2Proof.Machine
end

