-- ==== Sys2Proof/Machine/Hif.lean ====
section
/-! DEFINITION. The Host Interface: the queues, the Ethernet messages, the mailbox, dependencies, endpoint resets, the
register window, the service descriptor's run, READY and the end of COAST (chapters 15 to 17). -/
namespace Sys2Proof.Machine

/-! ### A packet by its opcode -/

/-- What each opcode does when it starts. -/
def startTable : List (Nat × (Nat → Pkt → State → State)) :=
  [(0x0101, startIdentify), (0x0102, startGetStatus), (0x0103, startCommit), (0x0104, startParamSet),
   (0x0105, startParamGet), (0x0106, startModeSet), (0x0107, startFaultClear)] ++
  [(0x0201, startSceneLoad), (0x0202, startPlaneDefine), (0x0203, startNotesDefine), (0x0204, startCacheStore),
   (0x0205, startCacheRecall), (0x0206, startCacheDrop), (0x0210, startRaymapLoad), (0x0211, startRaymapSelect),
   (0x0212, startRaymapProbe)] ++
  [(0x0301, startLayerDefine), (0x0302, startSafetyDefine), (0x0303, startScalerCoeff), (0x0401, startRayLutLoad),
   (0x0402, startTcLutLoad), (0x0410, startLinkTrain), (0x0411, startLinkLoopback), (0x0412, startGcWrite),
   (0x0413, startGcRead), (0x0414, startPanelPower), (0x0420, startRotorStart), (0x0421, startRotorStop)] ++
  [(0x0501, startBlit), (0x0502, startBlit), (0x0503, startBlit), (0x0504, startBlit), (0x0601, startTimeStepAccept),
   (0x0602, startTimeStepDecline), (0x0603, startTimeSet), (0x0610, startTriggerArm), (0x0611, startTriggerStop),
   (0x0612, startCaptureConfig)] ++
  [(0x0701, startThermalClear), (0x0702, startFlysheetUpdate), (0x0703, startThermalLogRead), (0x0801, startMemRead),
   (0x0802, startMemWrite), (0x0803, startMemTest), (0x0901, startSillageExport), (0x0902, startSilRegionDefine),
   (0x0903, startSillageMark), (0x0904, startSillageFlush)] ++
  [(0x0A01, startCalLoad), (0x0A02, startCalSave), (0x0A03, startCalibrate), (0x0B01, startFwStage),
   (0x0B02, startFwActivate), (0x0B10, startDebugChallenge), (0x0B11, startDebugUnlock), (0x0B12, startDebugLock),
   (0x0F01, startServiceStore), (0x0F02, startServiceSelect)]

/-- The start of an opcode; one that is not defined is refused before. -/
def startOp (op : Nat) : Nat → Pkt → State → State :=
  match startTable.lookup op with
  | some f => f
  | none => fun _ _ s => s

/-- A packet of any path. -/
def runPacket (op : Nat) (p : Pkt) (s : State) : State := submit op p (startOp op) s

/-! ### Fetching (R393) -/

/-- Commands in flight whose replies a queue's completion ring must still take. -/
def repliesDue (s : State) (q : Nat) : Nat := s.hif.flights.countP (fun f => f.p.path == q && !f.silent)

/-- The completion ring has a free entry to reserve: one entry stays unused, so that a full ring differs from an empty
one. -/
def hasRoom (s : State) (q : Nat) : Bool :=
  let k := queueOf s q
  decide ((k.cqTail + ringSize k - k.cqHead) % ringSize k + repliesDue s q + 1 < ringSize k)

/-- A packet of a path may be fetched. -/
def mayFetch (s : State) (q : Nat) : Bool :=
  let k := queueOf s q
  pathOpen s q && !k.ring.isEmpty && (16 ≤ q || (k.enable && hasRoom s q))

/-- The next packet of a path is fetched. -/
def fetchOne (q : Nat) (s : State) : State :=
  match (queueOf s q).ring with
  | [] => s
  | r :: rs =>
    runPacket r.opcode.toNat { r.pkt with path := q }
      (onQueue q (fun k => { k with ring := rs, sqHead := (k.sqHead + 1) % ringSize k }) s)

/-- One turn of a path: at most `n` packets. -/
def fetchTurn : Nat → Nat → State → State
  | 0, _, s => s
  | n + 1, q, s => if mayFetch s q then fetchTurn n q (fetchOne q s) else s

/-- One turn of each queue with packets waiting, in rotation, each of up to WEIGHT packets; then the other paths. -/
def fetchRound (s : State) : State :=
  let first := s.hif.rotation
  let s1 := (List.range 16).foldl (fun t i =>
    let q := (first + i) % 16
    if mayFetch t q then
      let u := fetchTurn ((queueOf t q).weight + 1) q t
      { u with hif := { u.hif with rotation := (q + 1) % 16 } }
    else t) s
  fetchTurn 1 17 (fetchTurn 1 16 s1)

/-- Rounds while a path has packets to fetch. -/
def fetchRounds : Nat → State → State
  | 0, s => s
  | n + 1, s => if (List.range 18).any (mayFetch s) then fetchRounds n (fetchRound s) else s

/-- A warm start holds back the packets that had not been fetched, until READY (R406). -/
def fetchHeld (s : State) : Bool := starting s && !s.pwr.cold

/-- The module fetches what it may. -/
def fetchAll (s : State) : State :=
  if fetchHeld s then s
  else fetchRounds ((List.range 18).map (fun q => (queueOf s q).ring.length)).sum s

/-- A doorbell names an entry outside the ring: the queue is disabled (R393). -/
def queueError (q : Nat) (s : State) : State :=
  raise 192 (onQueue q (fun k => { k with enable := false })
    { s with hif := { s.hif with qerr := s.hif.qerr ||| BitVec.ofNat 16 (2 ^ q) } })

/-- A packet of zeros. -/
def zeroPacket : RawPkt :=
  { opcode := 0, pkt := { path := 0, tag := 0, dep := 0, flags := 0, rsvd := 0, addr := 0, len := 0, params := [], host := [] } }

/-- A new submission tail: the entries up to it wait, and are fetched. -/
def doorbell (q : Nat) (v : Word) (entries : List RawPkt) (s : State) : State :=
  let k := queueOf s q
  let tail := v.toNat % 2048
  if !k.enable then s
  else if ringSize k ≤ tail then queueError q s
  else
    let n := (tail + ringSize k - k.sqTail % ringSize k) % ringSize k
    let new := (List.range n).map (fun i => entries.getD i zeroPacket)
    let s1 := onQueue q (fun k => { k with sqTail := tail, ring := k.ring ++ new }) s
    if fetchHeld s then (if k.ring.isEmpty then fetchTurn n q s1 else s1) else fetchAll s1

/-- R393: SQ_TAIL is written. -/
def execSqTailDoorbell (q : Nat) (value : Word) (entries : List RawPkt) (s : State) :
    Host.Outcome State Fault Refusal :=
  done (if live s && decide (q < 16) then doorbell q value entries (wakeDomain s) else s)

/-- A new completion head. -/
def completionHead (q : Nat) (v : Word) (s : State) : State :=
  let k := queueOf s q
  let head := v.toNat % 2048
  if !k.enable then s
  else if ringSize k ≤ head then queueError q s
  else fetchAll (onQueue q (fun k => { k with cqHead := head }) s)

/-- R393: CQ_HEAD is written. -/
def execCqHeadWrite (q : Nat) (value : Word) (s : State) : Host.Outcome State Fault Refusal :=
  done (if live s && decide (q < 16) then completionHead q value (wakeDomain s) else s)

/-- QCFG (Table 15-8). -/
def queueConfig (q : Nat) (v : Word) (s : State) : State :=
  let n := v.toNat
  let k := queueOf s q
  let k1 := { k with weight := n / 16 % 16, log2 := if k.enable then k.log2 else n % 16 }
  let k2 := if !v.getLsbD 8 then { k1 with enable := false }
            else if k.enable then k1
            else { k1 with enable := true, sqHead := 0, cqTail := 0, phase := true, sqTail := 0, cqHead := 0, ring := [] }
  fetchAll (onQueue q (fun _ => k2) s)

/-- R393: QCFG is written. -/
def execQcfgWrite (q : Nat) (value : Word) (s : State) : Host.Outcome State Fault Refusal :=
  done (if live s && decide (q < 16) then queueConfig q value (wakeDomain s) else s)

/-- R493: HIF_IRQ_DELAY_US after the first unsignalled reply the vector is signalled. -/
def execHifIrqDelayExpiry (q : Nat) (s : State) : Host.Outcome State Fault Refusal :=
  done (if live s && decide (q < 16) && (queueOf s q).unsignalled then
    sendMsix q (onQueue q (fun k => { k with unsignalled := false }) s) else s)

/-! ### Ethernet messages (R388 to R390) -/

/-- A command frame from a port and a source that may command (R388). -/
def ethFrom (s : State) (m : EthMsg) : Bool :=
  (par s 0x0100).testBit m.port && (s.hif.ethMac.isNone || s.hif.ethMac == some m.srcMac)

/-- A message in sequence (R389). -/
def ethInSeq (s : State) (m : EthMsg) : Bool :=
  match s.hif.ethSeq with
  | none => true
  | some n => m.seq == n + 1

/-- An accepted message is acknowledged; the SEQ of a TYPE 4 message is not given (log 2). -/
def ethAck (m : EthMsg) (s : State) : State :=
  let (k, s1) := takeFree s
  { s1 with hif := { s1.hif with
      ethMac := some m.srcMac, ethSeq := some m.seq
      ethOut := { type := 4, seq := BitVec.ofNat 32 k, ack := m.seq, replies := [] } :: s1.hif.ethOut } }

/-- A frame is judged: lost while Ethernet is stopped, dropped and counted, or accepted. -/
def ethTake (m : EthMsg) (fits : Bool) (act : State → State) (s : State) : State :=
  if !s.tu.running then count .tuEarlyDrop s
  else if !ethUp s then s
  else if ethFrom s m && fits && decide (m.payloadLen ≤ par s 0x0102) && m.version == 1 && ethInSeq s m then
    act (ethAck m (wakeDomain s))
  else count .ethDrop s

/-- The packets of a TYPE 1 message run in order. -/
def ethPackets (ps : List RawPkt) (s : State) : State :=
  ps.foldl (fun t r => runPacket r.opcode.toNat { r.pkt with path := 16 } t) s

/-- R389: a TYPE 1 message. -/
def execEthPacketMessage (m : EthMsg) (packets : List RawPkt) (s : State) : Host.Outcome State Fault Refusal :=
  let n := m.count.toNat
  let fits := m.type == 1 && decide (1 ≤ n) && decide (n ≤ 128) && decide (packets.length = n) &&
    decide (m.payloadLen = 16 + 64 * n)
  done (ethTake m fits (ethPackets packets) s)

/-- R390: a TYPE 2 message; its body lies inside the ingest area. -/
def execEthDataMessage (m : EthMsg) (data : List Byte) (s : State) : Host.Outcome State Fault Refusal :=
  let a := 256 * m.offset.toNat
  let fits := m.type == 2 && m.count == 0 && decide (4 ≤ data.length) && decide (data.length % 4 = 0) &&
    decide (m.payloadLen = 16 + data.length) && decide (a + data.length ≤ ingestSize)
  done (ethTake m fits (onMem (memStore (ingestBase + a) data)) s)

/-! ### The mailbox (R392) -/

/-- GO: the packet in HIF_MBX_CMD runs; while BUSY it is ignored. -/
def mailbox (s : State) : State :=
  if s.hif.mbxBusy then s
  else
    let (op, p) := bytesPacket 17 (s.hif.mbxCmd.flatMap (fun w => leBytes 4 w.toNat))
    runPacket op p { s with hif := { s.hif with mbxBusy := true } }

def execMailboxGo (s : State) : Host.Outcome State Fault Refusal :=
  done (if live s then mailbox (wakeDomain s) else s)

/-! ### Dependencies (R396) -/

/-- RESULT of a command that has not run: a SCENE_LOAD has attempted none of its blocks (R419). -/
def notRun (f : Flight) : List Byte := if f.op = 0x0201 then loadResult (pf f.p 0x14 2) {} else []

/-- The command under a tag, whose dependency is decided, starts or ends with ST_DEP_FAILED. -/
def dependencyMet (tag : Nat) (s : State) : State :=
  match flightOf s tag with
  | none => s
  | some f =>
    if f.started then s
    else match f.dep with
      | .met => begin tag f.p (startOp f.op) s
      | .failed => withdraw f.op f.p (finish tag { status := St.depFailed, result := notRun f } s)
      | .waiting => s

def execCommandDependencyMet (tag : Nat) (s : State) : Host.Outcome State Fault Refusal :=
  done (if live s then dependencyMet tag s else s)

/-! ### The PCI Express endpoint (R387, R410, R499) -/

def execPcieEndpointReset (kind : EpReset) (s : State) : Host.Outcome State Fault Refusal :=
  done (if live s && s.hif.fwUp then endpointReset kind (wakeDomain s) else s)

def execPcieLinkUp (s : State) : Host.Outcome State Fault Refusal :=
  done (if live s && s.hif.fwUp && !s.hif.linkUp then raise 193 { s with hif := { s.hif with linkUp := true } } else s)

/-! ### Registers of the Host Interface (Tables 15-6, 15-8, 15-14 and 15-15) -/

/-- QSTAT: IDLE while no reply of the queue is due. -/
def queueStat (s : State) (q : Nat) : Nat :=
  let k := queueOf s q
  bit (repliesDue s q == 0) 0 + k.sqHead % 1024 * 2 + k.cqTail % 1024 * 2 ^ 12 + bit k.phase 23

/-- A register of queue `q`. -/
def queueReg (s : State) (q off : Nat) : Nat :=
  let k := queueOf s q
  if off = 0x00 then k.sqBase.toNat % 2 ^ 32
  else if off = 0x04 then k.sqBase.toNat / 2 ^ 32
  else if off = 0x08 then k.cqBase.toNat % 2 ^ 32
  else if off = 0x0C then k.cqBase.toNat / 2 ^ 32
  else if off = 0x10 then k.log2 + k.weight * 16 + bit k.enable 8
  else if off = 0x14 then queueStat s q
  else 0

def hifReg (s : State) (off : Nat) : Nat :=
  if off = 0x000 then hifStatus s
  else if off = 0x004 then s.hif.qerr.toNat
  else if off = 0x010 then ctrReg s .refused
  else if off = 0x014 then ctrReg s .dupTag
  else if off = 0x018 then ctrReg s .ethDrop
  else if 0x040 ≤ off ∧ off ≤ 0x07C then (s.hif.mbxCmd.getD ((off - 0x040) / 4) 0).toNat
  else if 0x080 ≤ off ∧ off ≤ 0x09C then (s.hif.mbxReply.getD ((off - 0x080) / 4) 0).toNat
  else if off = 0x0A0 then bit s.hif.mbxBusy 1 + bit s.hif.mbxDone 2
  else if 0x1000 ≤ off ∧ off < 0x1400 then queueReg s ((off - 0x1000) / 0x40) (off % 0x40)
  else 0

/-- One half of a ring address set, the other kept. -/
def setHalf (d : Dword) (hi : Bool) (v : Word) : Dword :=
  if hi then BitVec.ofNat 64 (d.toNat % 2 ^ 32 + v.toNat * 2 ^ 32)
  else BitVec.ofNat 64 (d.toNat / 2 ^ 32 * 2 ^ 32 + v.toNat / 4096 * 4096)

/-- A register of queue `q` written: the ring addresses only while ENABLE is 0. -/
def queueWrite (q off : Nat) (v : Word) (s : State) : State :=
  let idle := !(queueOf s q).enable
  if off = 0x00 ∨ off = 0x04 then
    when idle (onQueue q (fun k => { k with sqBase := setHalf k.sqBase (off == 0x04) v })) s
  else if off = 0x08 ∨ off = 0x0C then
    when idle (onQueue q (fun k => { k with cqBase := setHalf k.cqBase (off == 0x0C) v })) s
  else if off = 0x10 then queueConfig q v s
  else if off = 0x18 then doorbell q v [] s
  else if off = 0x1C then completionHead q v s
  else s

/-- HIF_MBX_CTRL written: DONE is cleared by 1, then GO acts. -/
def mailboxCtrl (v : Word) (s : State) : State :=
  when (v.getLsbD 0) mailbox { s with hif := { s.hif with mbxDone := s.hif.mbxDone && !v.getLsbD 2 } }

def hifWrite (off : Nat) (v : Word) (s : State) : State :=
  if off = 0x000 then { s with hif := { s.hif with warmSeen := s.hif.warmSeen && !v.getLsbD 2 } }
  else if off = 0x004 then { s with hif := { s.hif with qerr := s.hif.qerr &&& ~~~(v.setWidth 16) } }
  else if 0x040 ≤ off ∧ off ≤ 0x07C then { s with hif := { s.hif with mbxCmd := s.hif.mbxCmd.set ((off - 0x040) / 4) v } }
  else if off = 0x0A0 then mailboxCtrl v s
  else if 0x1000 ≤ off ∧ off < 0x1400 then queueWrite ((off - 0x1000) / 0x40) (off % 0x40) v s
  else s

/-! ### The register window (R409, Table 15-18) -/

/-! The counters of the window by offset, in parts. -/

def windowCtrs1 : List (Nat × Ctr) :=
  [(0x00010, .refused), (0x00014, .dupTag), (0x00018, .ethDrop), (0x50020, .blocksOk), (0x50024, .blocksFail),
   (0x50028, .cvuMismatch), (0x51000, .cencVerifyFail), (0x51004, .cencRaw), (0x51008, .cencBlocks),
   (0x60000, .composeLate), (0x60004, .safetyMismatch), (0x60010, .camDamaged0), (0x60014, .camDamaged1),
   (0x60018, .camDamaged2), (0x6001C, .camDamaged3)]

def windowCtrs2 : List (Nat × Ctr) :=
  [(0x60020, .camDropped0), (0x60024, .camDropped1), (0x60028, .camDropped2), (0x6002C, .camDropped3),
   (0x70000, .rayLate), (0x70004, .rayEscalate), (0x70008, .rayFlatBuild), (0x7000C, .rayParity),
   (0x80000, .bltOps), (0x80004, .bltFail), (0x90030, .encGlitch), (0x90034, .lockLoss), (0xA0010, .underrun0),
   (0xA0014, .underrun1), (0xA0018, .underrun2)]

def windowCtrs3 : List (Nat × Ctr) :=
  [(0xA001C, .underrun3), (0xA0020, .scoRepeat), (0xA0024, .scoDark), (0xB0070, .loopErr),
   (0xB0074, .pltLockLoss), (0xB1004, .gclNoReply), (0xB1008, .gclCrcErr), (0xC0030, .zoneFault),
   (0xC004C, .flyUpdate), (0xC0050, .flySkip), (0xD0020, .memCe), (0xD0024, .memUe), (0xD0028, .memRetry),
   (0xD002C, .memRetrain), (0xD0030, .memThrottle)]

def windowCtrs4 : List (Nat × Ctr) :=
  [(0xD0034, .memRfm), (0xD0038, .memFreq), (0xE0040, .tuOutlier), (0xE0044, .tuRefuse), (0xE0048, .tuGmChange),
   (0xE004C, .tuEarlyDrop), (0xE0050, .tuPtpDrop), (0xE0054, .ttMissed), (0xE0058, .tcOverflow),
   (0xF0010, .refused), (0xF0014, .dupTag), (0xF0018, .ethDrop), (0x100020, .sag), (0x100024, .coast),
   (0x100028, .ride)]

def windowCtrs5 : List (Nat × Ctr) :=
  [(0x10002C, .warm), (0x1100C0, .thrStep), (0x1100C4, .tsInvalid), (0x1100C8, .thermTrip),
   (0x120020, .spurious), (0x130004, .clkLockLoss), (0x130008, .clkRefSwitch), (0x13000C, .clkSync),
   (0x140020, .silThumbSkip), (0x140024, .silFlush), (0x140028, .silNandErr), (0x14002C, .bbFlush),
   (0x140030, .dbgUnlockFail)]

/-- The counters of the window, by offset. -/
def windowCtrs : List (Nat × Ctr) := windowCtrs1 ++ windowCtrs2 ++ windowCtrs3 ++ windowCtrs4 ++ windowCtrs5

/-- A register of the window as it stands, claims and raw states apart. -/
def windowReg (s : State) (x : Nat) : Nat :=
  let o := x % 0x10000
  match x / 0x10000 with
  | 0x00 | 0x0F => hifReg s o
  | 0x05 => sdecReg s o
  | 0x06 => accReg s o
  | 0x07 => rayReg s o
  | 0x08 => bltReg s o
  | 0x09 => rotReg s o
  | 0x0A => scoReg s o
  | 0x0B => if o < 0x1000 then pltReg s o else gclReg s (o - 0x1000)
  | 0x0C => pnlReg s o
  | 0x0D => memReg s o
  | 0x0E => tuReg s o
  | 0x10 => pwrReg s o
  | 0x11 => thermReg s o
  | 0x12 => intcReg s o
  | 0x13 => clkReg s o
  | 0x14 | 0x15 | 0x16 | 0x17 => silReg s (x - 0x140000)
  | _ => 0

/-- What a read clears or latches (R7, R345, R361). -/
def windowClear (x : Nat) (s : State) : State :=
  let s1 := match windowCtrs.lookup x with
    | some c => ctrSet c 0 s
    | none => s
  if x / 0x10000 = 0x0D then memReadClear (x % 0x10000) s1
  else if x = 0xE0020 then latchTime s1
  else s1

/-- A read of the window at a word offset: its value, and the state after it. -/
def windowRead (x : Nat) (s : State) : Nat × State :=
  if 0x120300 ≤ x ∧ x < 0x120340 then
    let s1 := claim (16 + (x - 0x120300) / 4) s
    (s1.hif.lastRead.toNat, s1)
  else if 0x120220 ≤ x ∧ x < 0x120240 then rawWord ((x - 0x120220) / 4) s
  else (windowReg s x, windowClear x s)

/-- A write to the window at a word offset. -/
def windowWrite (x : Nat) (v : Word) (s : State) : State :=
  let o := x % 0x10000
  match x / 0x10000 with
  | 0x00 | 0x0F => hifWrite o v s
  | 0x05 => sdecWrite o v s
  | 0x09 => if o = 0x004 ∧ v.getLsbD 0 then snapCapture s else if o = 0x02C then clearRotCause v s else s
  | 0x0B => if o < 0x1000 then pltWrite o v s else gclWrite (o - 0x1000) v s
  | 0x0C => pnlWrite o v s
  | 0x0E => tuWrite o v s
  | 0x12 =>
    if 0x100 ≤ o ∧ o < 0x200 then routeWord ((o - 0x100) / 4) v.toNat s
    else if 0x340 ≤ o ∧ o < 0x380 then eoi (16 + (o - 0x340) / 4) (v.toNat % 256) s
    else intcWrite o v.toNat s
  | _ => s

/-- A word offset of the window; offsets from 2 MiB on name nothing. -/
def windowWord (off : Nat) : Option Nat := if off < 0x200000 then some (off / 4 * 4) else none

/-- R7, R409: a read of the window. -/
def execRcRegisterRead (offset : Nat) (s : State) : Host.Outcome State Fault Refusal :=
  done (if !live s then s
  else match windowWord offset with
    | none => setRead 0 s
    | some x =>
      let (v, s1) := windowRead x (wakeDomain s)
      setRead v s1)

/-- R6, R409: a write to the window. -/
def execRegisterWrite (offset : Nat) (value : Word) (s : State) : Host.Outcome State Fault Refusal :=
  done (if !live s then s
  else match windowWord offset with
    | none => s
    | some x => windowWrite x value (wakeDomain s))

/-! ### The service descriptor runs (R426, R427) -/

/-- The data that a packet of the descriptor names, copied to the ingest area before it runs (R426). -/
def svcData (d : List Byte) (p : Pkt) (s : State) : State :=
  if isLocal p then
    let o := p.addr.toNat % 2 ^ 32
    onMem (memStore (localAddr p) (padTo (plen p) (d.drop o))) s
  else s

/-- A PLANE_DEFINE of a service at depth takes the header's DISPARITY. -/
def svcDepth (d : List Byte) (op : Nat) (p : Pkt) : Pkt :=
  if op = 0x0202 ∧ svcDeep d then
    { p with params := p.params.take 0x10 ++ leBytes 4 (svcDisparity d) ++ p.params.drop 0x14 }
  else p

/-- The last packet that ran has failed. -/
def svcFailed (s : State) : Bool :=
  match s.hif.replies.find? (fun r => r.queue == 18) with
  | some r => decide (0x100 ≤ r.status.toNat)
  | none => false

/-- Packet `i` of the descriptor runs. -/
def svcRun (d : List Byte) (i : Nat) (q : EntrySeq) (s : State) : State :=
  let (op, p) := svcPacket d i
  if svcOpcode op then
    runPacket op (svcDepth d op p)
      (svcData d p { s with cond := { s.cond with seq := some { q with svcNext := i + 1 } } })
  else serviceFailed q i s

/-- Step 9 goes on: it waits for its packet, fails, runs the next, or ends. -/
def serviceStep (q : EntrySeq) (s : State) : State :=
  let d := svcBytes s
  let i := q.svcNext
  if !svcGood d then serviceFailed q 0 s
  else if s.hif.flights.any (fun f => f.p.path == 18) then s
  else if 0 < i ∧ svcFailed s then serviceFailed q (i - 1) s
  else if i = svcCount d then serviceDone q s
  else svcRun d i q s

/-- R564: the present step of an entry sequence is looked at. -/
def execModeEntryStepEnd (s : State) : Host.Outcome State Fault Refusal :=
  done (match s.cond.seq with
    | some q =>
      if !live s then s
      else if q.steps.head? = some 9 then serviceStep q s
      else stepNext q s
    | none => s)

/-! ### READY (R454, R455) and the end of COAST (R444, R445) -/

/-- The start mode after a cold episode. -/
def coldMode (s : State) : State :=
  if s.pwr.autostart = 1 ∧ s.pwr.svcSel.isSome then startSeq .service (entrySteps .parked .service) none s
  else stopRotor (requirePoint .off s)

/-- FLAT after a warm episode: the rotor goes on, and the panel is powered on and trained before anything is lit. -/
def warmFlat (s : State) : State :=
  let s1 := startRecorder (requirePoint .p32 (setMode .flat { s with
    sco := { s.sco with flat := true, written := List.replicate 4 false } }))
  if anyStop s1 then s1
  else
    let s2 := startRotor s1
    if s2.pnl.state = .on then startTraining 4 s2 else startPowerOn s2

/-- PARKED after a warm episode from PARKED or TEST. -/
def warmParked (s : State) : State :=
  let s1 := if s.cond.mode = .parked then s else setMode .parked s
  stopRotor (requirePoint .off { s1 with sil := { s1.sil with running := false } })

/-- READY with the start mode; packets that waited are fetched. -/
def readyNow (s : State) : State :=
  let s1 := becomeReady s
  fetchAll (if s1.pwr.cold then coldMode s1 else if litMode s1.pwr.warmMode then warmFlat s1 else warmParked s1)

/-- R454: the start is complete. -/
def execReady (s : State) : Host.Outcome State Fault Refusal := done (if mayReady s then readyNow s else s)

/-- Fetching resumes once COAST has ended in ride-through (R407, R445). -/
def resumeFetch (old s : State) : State := if old.cond.coast && !s.cond.coast then fetchAll s else s

def execCoastStepEnd (s : State) : Host.Outcome State Fault Refusal := done (resumeFetch s (coastStepEnd s))

def execReturnCondition (s : State) : Host.Outcome State Fault Refusal := done (resumeFetch s (returnCondition s))

end Sys2Proof.Machine
end

