-- ==== Sys2Proof/Machine/Debug.lean ====
section
/-! DEFINITION. Debug accesses, halts and breakpoints (R533 to R535, Table 20-10). -/
namespace Sys2Proof.Machine

/-! ### Halts (R534, R535) -/

/-- A core halts: source 249 and its black-box entry; cause 1 request, 2 breakpoint, 3 step. -/
def haltCore (c cause : Nat) (s : State) : State :=
  raise 249 (blackBox 0x0223 0xFF (BitVec.ofNat 32 (c % 4 + cause * 256)) { s with
    dbg := { s.dbg with halted := s.dbg.halted ||| BitVec.ofNat 4 (2 ^ (c % 4)) }
    sil := { s.sil with frameHalt := true } })

/-- A core runs on: what it makes of its registers is no longer known. -/
def runCore (c : Nat) (s : State) : State :=
  { s with dbg := { s.dbg with
      coreRegs := s.dbg.coreRegs.filter (fun e => e.1 / 64 != c)
      coreRuns := s.dbg.coreRuns.set c (s.dbg.coreRuns.getD c 0 + 1) } }

def isHalted (s : State) (c : Nat) : Bool := s.dbg.halted.getLsbD c

/-- A halt request, with the lock open. -/
def haltRequest (c : Nat) (s : State) : State :=
  if s.dbg.unlocked && decide (c < 4) && !isHalted s c then haltCore c 1 s else s

/-- A resume request. -/
def resumeRequest (c : Nat) (s : State) : State :=
  if s.dbg.unlocked && decide (c < 4) && isHalted s c then
    let s1 := runCore c s
    { s1 with dbg := { s1.dbg with halted := s1.dbg.halted &&& ~~~(BitVec.ofNat 4 (2 ^ c)) } }
  else s

/-- A step request: the core runs one step and is halted again. -/
def stepRequest (c : Nat) (s : State) : State :=
  if s.dbg.unlocked && decide (c < 4) && isHalted s c then haltCore c 3 (runCore c s) else s

def execDbgHaltRequest (core : Nat) (s : State) : Host.Outcome State Fault Refusal := done (haltRequest core s)
def execDbgResumeRequest (core : Nat) (s : State) : Host.Outcome State Fault Refusal := done (resumeRequest core s)
def execDbgStepRequest (core : Nat) (s : State) : Host.Outcome State Fault Refusal := done (stepRequest core s)

/-- Space 2 address of breakpoint `n` of a core: 0 to 3 instruction breakpoints, 4 and 5 watchpoints, each an address
word and a mask word. -/
def breakAddr (c n : Nat) : Nat := 0x10 + 0x20 * c + 4 * (if n < 4 then n else 4 + 2 * (n - 4))

/-- R535: a breakpoint or a watchpoint that is set halts its core. -/
def execDbgBreakpointHit (core : Nat) (n : Nat) (s : State) : Host.Outcome State Fault Refusal :=
  done (if live s && decide (core < 4) && decide (n < 6) && !isHalted s core && tget s.dbg.brk (breakAddr core n) 0 != 0
    then haltCore core 2 s else s)

/-! ### DBG_ACCESS (R534) -/

/-- The outcome of an access: the data, ERR, and the state after it. -/
structure Access where
  data : Nat := 0
  err : Bool := false
  state : State

/-- First device address of the registers. -/
def regBase : Nat := 0xF000000000

/-- The word offset of a register at a device address; the block repeated at window offset 0 has none there. -/
def regWord (a : Nat) : Option Nat := if regBase ≤ a ∧ a < regBase + 0x200000 then some ((a - regBase) / 4 * 4) else none

/-- A read of a device address, as requester CORE. -/
def deviceRead (a : Nat) (s : State) : Access :=
  let w := a / 4 * 4
  if w < memSize then
    if !memServed s || memPoisoned s.mem w 4 then { err := true, state := s }
    else { data := leNat (memBytes s.mem w 4), state := s }
  else match regWord a with
    | some x =>
      if x < 0x50000 then { state := s }
      else
        let (v, s1) := windowRead x (wakeDomain s)
        { data := v, state := s1 }
    | none => { err := true, state := when (decide (a < regBase)) (busError a) s }

/-- A write to a device address; one into the Sillage area is dropped with ERR. -/
def deviceWrite (a : Nat) (v : Word) (s : State) : Access :=
  let w := a / 4 * 4
  if w < memSize then
    if !memServed s || (decide (silBase ≤ w) && decide (w < silBase + silSize)) then { err := true, state := s }
    else { state := onMem (memStore w (leBytes 4 v.toNat)) s }
  else match regWord a with
    | some x => { state := if x < 0x50000 then s else windowWrite x v (wakeDomain s) }
    | none => { err := true, state := when (decide (a < regBase)) (busError a) s }

/-- A register of a halted core; what the core left there is a free value. -/
def coreRead (c n : Nat) (s : State) : Access :=
  if n < 64 ∧ isHalted s c then
    { data := (match tget? s.dbg.coreRegs (64 * c + n) with
        | some v => v
        | none => Config.coreReg c n (s.dbg.coreRuns.getD c 0)).toNat
      state := s }
  else { err := true, state := s }

def coreWrite (c n : Nat) (v : Word) (s : State) : Access :=
  if n < 64 ∧ isHalted s c then
    { state := { s with dbg := { s.dbg with coreRegs := tset s.dbg.coreRegs (64 * c + n) v } } }
  else { err := true, state := s }

/-- A breakpoint or watchpoint word. -/
def isBreakWord (a : Nat) : Bool := decide (0x10 ≤ a) && decide (a < 0x90)

def controlRead (a : Nat) (s : State) : Access :=
  let w := a / 4 * 4
  { data := if w = 0x04 then s.dbg.halted.toNat else if isBreakWord w then (tget s.dbg.brk w 0).toNat else 0
    state := s }

/-- The requests of the control word, and the breakpoint words. -/
def controlWrite (a : Nat) (v : Word) (s : State) : Access :=
  let w := a / 4 * 4
  let each (k : Nat) (f : Nat → State → State) (t : State) : State :=
    (List.range 4).foldl (fun t c => if v.getLsbD (k + c) then f c t else t) t
  if w = 0x00 then { state := each 8 stepRequest (each 4 resumeRequest (each 0 haltRequest s)) }
  else if isBreakWord w then
    { state := { s with dbg := { s.dbg with brk := if v = 0 then tdel s.dbg.brk w else tset s.dbg.brk w v } } }
  else { state := s }

/-- The 80 bits that Capture-DR returns. -/
def accessBits (op space core addr : Nat) (r : Access) : List Bool :=
  toBits 80 (op + space % 4 * 2 ^ 2 + core % 4 * 2 ^ 4 + addr % 2 ^ 40 * 2 ^ 6 + r.data % 2 ^ 32 * 2 ^ 46 + bit r.err 78)

/-- An access with the lock open; while it is closed the instruction acts as BYPASS (R533). -/
def debugAccess (op space core addr : Nat) (f : State → Access) (s : State) : State :=
  if !s.dbg.unlocked then tapSelect 0x20 [false] s
  else
    let r := f s
    let s1 := tapSelect 0x20 (accessBits op space core addr r) r.state
    { s1 with dbg := { s1.dbg with err := r.err } }

def spaceRead (space core addr : Nat) (s : State) : Access :=
  match space % 4 with
  | 0 => deviceRead (addr % 2 ^ 40) s
  | 1 => coreRead (core % 4) addr s
  | 2 => controlRead addr s
  | _ => { err := true, state := s }

def spaceWrite (space core addr : Nat) (v : Word) (s : State) : Access :=
  match space % 4 with
  | 0 => deviceWrite (addr % 2 ^ 40) v s
  | 1 => coreWrite (core % 4) addr v s
  | 2 => controlWrite addr v s
  | _ => { err := true, state := s }

/-- R534: OP 1. -/
def execDbgAccessRead (space core addr : Nat) (s : State) : Host.Outcome State Fault Refusal :=
  done (debugAccess 1 space core addr (spaceRead space core addr) s)

/-- R534: OP 2. -/
def execDbgAccessWrite (space core addr : Nat) (data : Word) (s : State) : Host.Outcome State Fault Refusal :=
  done (debugAccess 2 space core addr (spaceWrite space core addr data) s)

end Sys2Proof.Machine
end

