-- ==== Sys2Proof/Machine/Dispatch.lean ====
section
/-! DEFINITION. The one dispatch from commands to their meanings: one arm a constructor. -/
namespace Sys2Proof.Machine

def exec (i : Instr) (s : State) : Host.Outcome State Fault Refusal :=
  match i with
  | .identify p => Sys2Proof.Machine.execIdentify p s
  | .getStatus p => Sys2Proof.Machine.execGetStatus p s
  | .commit p => Sys2Proof.Machine.execCommit p s
  | .paramSet p => Sys2Proof.Machine.execParamSet p s
  | .paramGet p => Sys2Proof.Machine.execParamGet p s
  | .modeSet p => Sys2Proof.Machine.execModeSet p s
  | .modeEntryStepEnd => Sys2Proof.Machine.execModeEntryStepEnd s
  | .faultClear p => Sys2Proof.Machine.execFaultClear p s
  | .sceneLoad p => Sys2Proof.Machine.execSceneLoad p s
  | .sceneLoadTaken => Sys2Proof.Machine.execSceneLoadTaken s
  | .planeDefine p => Sys2Proof.Machine.execPlaneDefine p s
  | .notesDefine p => Sys2Proof.Machine.execNotesDefine p s
  | .cacheStore p => Sys2Proof.Machine.execCacheStore p s
  | .cacheRecall p => Sys2Proof.Machine.execCacheRecall p s
  | .cacheDrop p => Sys2Proof.Machine.execCacheDrop p s
  | .raymapLoad p => Sys2Proof.Machine.execRaymapLoad p s
  | .raymapSelect p => Sys2Proof.Machine.execRaymapSelect p s
  | .raymapProbe p => Sys2Proof.Machine.execRaymapProbe p s
  | .layerDefine p => Sys2Proof.Machine.execLayerDefine p s
  | .safetyDefine p => Sys2Proof.Machine.execSafetyDefine p s
  | .scalerCoeff p => Sys2Proof.Machine.execScalerCoeff p s
  | .rayLutLoad p => Sys2Proof.Machine.execRayLutLoad p s
  | .tcLutLoad p => Sys2Proof.Machine.execTcLutLoad p s
  | .linkTrain p => Sys2Proof.Machine.execLinkTrain p s
  | .linkTrainBegin => Sys2Proof.Machine.execLinkTrainBegin s
  | .linkLoopback p => Sys2Proof.Machine.execLinkLoopback p s
  | .loopbackEnd errs reads => Sys2Proof.Machine.execLoopbackEnd errs reads s
  | .gcWrite p => Sys2Proof.Machine.execGcWrite p s
  | .gcRead p => Sys2Proof.Machine.execGcRead p s
  | .panelPower p => Sys2Proof.Machine.execPanelPower p s
  | .rotorStart p => Sys2Proof.Machine.execRotorStart p s
  | .rotorStop p => Sys2Proof.Machine.execRotorStop p s
  | .blitFill p => Sys2Proof.Machine.execBlitFill p s
  | .blitCopy p => Sys2Proof.Machine.execBlitCopy p s
  | .blitOutline p => Sys2Proof.Machine.execBlitOutline p s
  | .blitClipSet p => Sys2Proof.Machine.execBlitClipSet p s
  | .bltOpStart => Sys2Proof.Machine.execBltOpStart s
  | .bltOpEnd => Sys2Proof.Machine.execBltOpEnd s
  | .timeStepAccept p => Sys2Proof.Machine.execTimeStepAccept p s
  | .timeStepDecline p => Sys2Proof.Machine.execTimeStepDecline p s
  | .timeSet p => Sys2Proof.Machine.execTimeSet p s
  | .triggerArm p => Sys2Proof.Machine.execTriggerArm p s
  | .triggerStop p => Sys2Proof.Machine.execTriggerStop p s
  | .captureConfig p => Sys2Proof.Machine.execCaptureConfig p s
  | .thermalClear p => Sys2Proof.Machine.execThermalClear p s
  | .flysheetUpdate p => Sys2Proof.Machine.execFlysheetUpdate p s
  | .thermalLogRead p => Sys2Proof.Machine.execThermalLogRead p s
  | .memRead p => Sys2Proof.Machine.execMemRead p s
  | .memWrite p => Sys2Proof.Machine.execMemWrite p s
  | .memTest p => Sys2Proof.Machine.execMemTest p s
  | .sillageExport p => Sys2Proof.Machine.execSillageExport p s
  | .silRegionDefine p => Sys2Proof.Machine.execSilRegionDefine p s
  | .sillageMark p => Sys2Proof.Machine.execSillageMark p s
  | .sillageFlush p => Sys2Proof.Machine.execSillageFlush p s
  | .calLoad p => Sys2Proof.Machine.execCalLoad p s
  | .calSave p => Sys2Proof.Machine.execCalSave p s
  | .calibrate p => Sys2Proof.Machine.execCalibrate p s
  | .calibrateDone refs meas => Sys2Proof.Machine.execCalibrateDone refs meas s
  | .fwStage p => Sys2Proof.Machine.execFwStage p s
  | .fwActivate p => Sys2Proof.Machine.execFwActivate p s
  | .debugChallenge p => Sys2Proof.Machine.execDebugChallenge p s
  | .debugUnlock p => Sys2Proof.Machine.execDebugUnlock p s
  | .debugLock p => Sys2Proof.Machine.execDebugLock p s
  | .serviceStore p => Sys2Proof.Machine.execServiceStore p s
  | .serviceSelect p => Sys2Proof.Machine.execServiceSelect p s
  | .jtNop f => Sys2Proof.Machine.execJtNop f s
  | .jtVersion f => Sys2Proof.Machine.execJtVersion f s
  | .jtMirrorStart f => Sys2Proof.Machine.execJtMirrorStart f s
  | .jtMirrorStop f => Sys2Proof.Machine.execJtMirrorStop f s
  | .jtBrightness f => Sys2Proof.Machine.execJtBrightness f s
  | .jtBacklight f => Sys2Proof.Machine.execJtBacklight f s
  | .jtOverlayShow f => Sys2Proof.Machine.execJtOverlayShow f s
  | .jtOverlayHide f => Sys2Proof.Machine.execJtOverlayHide f s
  | .jtStatus f => Sys2Proof.Machine.execJtStatus f s
  | .jtSetDepth f => Sys2Proof.Machine.execJtSetDepth f s
  | .jtUnsupportedCmd cmd f => Sys2Proof.Machine.execJtUnsupportedCmd cmd f s
  | .sqTailDoorbell q value entries => Sys2Proof.Machine.execSqTailDoorbell q value entries s
  | .cqHeadWrite q value => Sys2Proof.Machine.execCqHeadWrite q value s
  | .qcfgWrite q value => Sys2Proof.Machine.execQcfgWrite q value s
  | .ethPacketMessage m packets => Sys2Proof.Machine.execEthPacketMessage m packets s
  | .ethDataMessage m data => Sys2Proof.Machine.execEthDataMessage m data s
  | .mailboxGo => Sys2Proof.Machine.execMailboxGo s
  | .commandDependencyMet tag => Sys2Proof.Machine.execCommandDependencyMet tag s
  | .pcieEndpointReset kind => Sys2Proof.Machine.execPcieEndpointReset kind s
  | .rotSnapCapture => Sys2Proof.Machine.execRotSnapCapture s
  | .sdecErrPop => Sys2Proof.Machine.execSdecErrPop s
  | .tcFifoPop => Sys2Proof.Machine.execTcFifoPop s
  | .tuTimeRead => Sys2Proof.Machine.execTuTimeRead s
  | .rcRegisterRead offset => Sys2Proof.Machine.execRcRegisterRead offset s
  | .rotFaultCauseClear value => Sys2Proof.Machine.execRotFaultCauseClear value s
  | .blZoneFaultClear k value => Sys2Proof.Machine.execBlZoneFaultClear k value s
  | .intcClaim v => Sys2Proof.Machine.execIntcClaim v s
  | .intcEoi v value => Sys2Proof.Machine.execIntcEoi v value s
  | .intcHrouteWrite m value => Sys2Proof.Machine.execIntcHrouteWrite m value s
  | .coreIntcClaim core => Sys2Proof.Machine.execCoreIntcClaim core s
  | .coreIntcEoi core src => Sys2Proof.Machine.execCoreIntcEoi core src s
  | .msixUnmask v => Sys2Proof.Machine.execMsixUnmask v s
  | .registerWrite offset value => Sys2Proof.Machine.execRegisterWrite offset value s
  | .latchAngle => Sys2Proof.Machine.execLatchAngle s
  | .latchTimerTick => Sys2Proof.Machine.execLatchTimerTick s
  | .revolutionStart speed16 emitterMw rowMinMv => Sys2Proof.Machine.execRevolutionStart speed16 emitterMw rowMinMv s
  | .facetNominalStart j => Sys2Proof.Machine.execFacetNominalStart j s
  | .startWindowClose j meas => Sys2Proof.Machine.execStartWindowClose j meas s
  | .renderStart atk => Sys2Proof.Machine.execRenderStart atk s
  | .renderComplete atk meas => Sys2Proof.Machine.execRenderComplete atk meas s
  | .govEscalationCheck atk tiles => Sys2Proof.Machine.execGovEscalationCheck atk tiles s
  | .rowSlotStart ahead => Sys2Proof.Machine.execRowSlotStart ahead s
  | .rowLatch miss => Sys2Proof.Machine.execRowLatch miss s
  | .zonePulseStart row => Sys2Proof.Machine.execZonePulseStart row s
  | .zonePulseEnd row => Sys2Proof.Machine.execZonePulseEnd row s
  | .zoneMidPulseCheck row mv => Sys2Proof.Machine.execZoneMidPulseCheck row mv s
  | .zoneFaultRecord zone => Sys2Proof.Machine.execZoneFaultRecord zone s
  | .sinkOnTimeLimit zone => Sys2Proof.Machine.execSinkOnTimeLimit zone s
  | .laneL1sEntry => Sys2Proof.Machine.execLaneL1sEntry s
  | .laneL1sExit => Sys2Proof.Machine.execLaneL1sExit s
  | .facetPick j => Sys2Proof.Machine.execFacetPick j s
  | .compositionEnd atk => Sys2Proof.Machine.execCompositionEnd atk s
  | .compositionDeadline j => Sys2Proof.Machine.execCompositionDeadline j s
  | .camFrameStartPacket port h => Sys2Proof.Machine.execCamFrameStartPacket port h s
  | .camLongPacket port h crcOk payload => Sys2Proof.Machine.execCamLongPacket port h crcOk payload s
  | .camFrameEndPacket port h => Sys2Proof.Machine.execCamFrameEndPacket port h s
  | .camFrameComplete port => Sys2Proof.Machine.execCamFrameComplete port s
  | .camStale port => Sys2Proof.Machine.execCamStale port s
  | .sdecBlockParse tag => Sys2Proof.Machine.execSdecBlockParse tag s
  | .sdecBlockDispatch tag => Sys2Proof.Machine.execSdecBlockDispatch tag s
  | .sdecBlockComplete engine => Sys2Proof.Machine.execSdecBlockComplete engine s
  | .carryForwardStart => Sys2Proof.Machine.execCarryForwardStart s
  | .carryForwardEnd => Sys2Proof.Machine.execCarryForwardEnd s
  | .cencBlockVerify sound => Sys2Proof.Machine.execCencBlockVerify sound s
  | .cencJobDone => Sys2Proof.Machine.execCencJobDone s
  | .encoderTransition a b speed16 => Sys2Proof.Machine.execEncoderTransition a b speed16 s
  | .indexEdge => Sys2Proof.Machine.execIndexEdge s
  | .encLossPair => Sys2Proof.Machine.execEncLossPair s
  | .encLossTimeout => Sys2Proof.Machine.execEncLossTimeout s
  | .encLossReverse => Sys2Proof.Machine.execEncLossReverse s
  | .encIndexMissing => Sys2Proof.Machine.execEncIndexMissing s
  | .alignComplete => Sys2Proof.Machine.execAlignComplete s
  | .catchComplete => Sys2Proof.Machine.execCatchComplete s
  | .speedSetpointReached speed16 => Sys2Proof.Machine.execSpeedSetpointReached speed16 s
  | .rampSettled speed16 => Sys2Proof.Machine.execRampSettled speed16 s
  | .speedBelow60rpm speed16 => Sys2Proof.Machine.execSpeedBelow60rpm speed16 s
  | .speedBelow300rpm speed16 => Sys2Proof.Machine.execSpeedBelow300rpm speed16 s
  | .overspeed speed16 => Sys2Proof.Machine.execOverspeed speed16 s
  | .hwOverspeedTrip speed16 => Sys2Proof.Machine.execHwOverspeedTrip speed16 s
  | .hwOverspeedRelease speed16 => Sys2Proof.Machine.execHwOverspeedRelease speed16 s
  | .spinupTimeout => Sys2Proof.Machine.execSpinupTimeout s
  | .phaseShortEnd => Sys2Proof.Machine.execPhaseShortEnd s
  | .freewheelNoCount => Sys2Proof.Machine.execFreewheelNoCount s
  | .bridgeOvercurrent => Sys2Proof.Machine.execBridgeOvercurrent s
  | .ptpSync m => Sys2Proof.Machine.execPtpSync m s
  | .ptpFollowUp m => Sys2Proof.Machine.execPtpFollowUp m s
  | .ptpAnnounce m => Sys2Proof.Machine.execPtpAnnounce m s
  | .ptpDelayResp m => Sys2Proof.Machine.execPtpDelayResp m s
  | .ptpPdelayReq m turnaroundNs => Sys2Proof.Machine.execPtpPdelayReq m turnaroundNs s
  | .ptpPdelayResp m => Sys2Proof.Machine.execPtpPdelayResp m s
  | .ptpReqTimer port => Sys2Proof.Machine.execPtpReqTimer port s
  | .ptpSyncTimeout => Sys2Proof.Machine.execPtpSyncTimeout s
  | .ptpAnnounceTimeout => Sys2Proof.Machine.execPtpAnnounceTimeout s
  | .timeSlewDone => Sys2Proof.Machine.execTimeSlewDone s
  | .triggerTimeEdge n => Sys2Proof.Machine.execTriggerTimeEdge n s
  | .triggerAnglePass n => Sys2Proof.Machine.execTriggerAnglePass n s
  | .triggerAngleEdge n => Sys2Proof.Machine.execTriggerAngleEdge n s
  | .triggerPulseEnd n => Sys2Proof.Machine.execTriggerPulseEnd n s
  | .captureEdge n rising => Sys2Proof.Machine.execCaptureEdge n rising s
  | .trainingEnd reads => Sys2Proof.Machine.execTrainingEnd reads s
  | .gclStatusPoll link replies => Sys2Proof.Machine.execGclStatusPoll link replies s
  | .gcExchangeStart => Sys2Proof.Machine.execGcExchangeStart s
  | .gcReplyReceived body check => Sys2Proof.Machine.execGcReplyReceived body check s
  | .gcReplyTimeout => Sys2Proof.Machine.execGcReplyTimeout s
  | .pmicReadyPoll ready => Sys2Proof.Machine.execPmicReadyPoll ready s
  | .powerOnDelayEnd => Sys2Proof.Machine.execPowerOnDelayEnd s
  | .pmicReadyTimeout => Sys2Proof.Machine.execPmicReadyTimeout s
  | .dischargeStep => Sys2Proof.Machine.execDischargeStep s
  | .crackLoopSample n ohm supply => Sys2Proof.Machine.execCrackLoopSample n ohm supply s
  | .crackLoopTrip n => Sys2Proof.Machine.execCrackLoopTrip n s
  | .flyUpdateStart => Sys2Proof.Machine.execFlyUpdateStart s
  | .flyFrameExchange status check => Sys2Proof.Machine.execFlyFrameExchange status check s
  | .flyStatusPoll status check => Sys2Proof.Machine.execFlyStatusPoll status check s
  | .flyEnergyTimeout => Sys2Proof.Machine.execFlyEnergyTimeout s
  | .flyRedriveStart => Sys2Proof.Machine.execFlyRedriveStart s
  | .memRefreshDue pc ready => Sys2Proof.Machine.execMemRefreshDue pc ready s
  | .memPressureInterval scoNs otherNs => Sys2Proof.Machine.execMemPressureInterval scoNs otherNs s
  | .memActLimit pc bank => Sys2Proof.Machine.execMemActLimit pc bank s
  | .memActCountLimit pc bank row => Sys2Proof.Machine.execMemActCountLimit pc bank row s
  | .memActTableClear => Sys2Proof.Machine.execMemActTableClear s
  | .memPageIdleClose bank idleNs => Sys2Proof.Machine.execMemPageIdleClose bank idleNs s
  | .memAlert alarm => Sys2Proof.Machine.execMemAlert alarm s
  | .memRetryExhausted chan => Sys2Proof.Machine.execMemRetryExhausted chan s
  | .memRetrainDone chan ok => Sys2Proof.Machine.execMemRetrainDone chan ok s
  | .memReadComplete asks issue ecc => Sys2Proof.Machine.execMemReadComplete asks issue ecc s
  | .memPatrolScrub sinceNs ecc => Sys2Proof.Machine.execMemPatrolScrub sinceNs ecc s
  | .memTempRead temps => Sys2Proof.Machine.execMemTempRead temps s
  | .memInitDone ok => Sys2Proof.Machine.execMemInitDone ok s
  | .memFreqChangeWindow => Sys2Proof.Machine.execMemFreqChangeWindow s
  | .memFreqChangeDone ok returned => Sys2Proof.Machine.execMemFreqChangeDone ok returned s
  | .inputAbove34v mv => Sys2Proof.Machine.execInputAbove34v mv s
  | .inputBelow28v mv => Sys2Proof.Machine.execInputBelow28v mv s
  | .inputOvervoltage mv => Sys2Proof.Machine.execInputOvervoltage mv s
  | .inputBelow75v mv => Sys2Proof.Machine.execInputBelow75v mv s
  | .sagwSet mv => Sys2Proof.Machine.execSagwSet mv s
  | .sagwClear mv => Sys2Proof.Machine.execSagwClear mv s
  | .sagwDwellExpiry => Sys2Proof.Machine.execSagwDwellExpiry s
  | .coastEstimateTick => Sys2Proof.Machine.execCoastEstimateTick s
  | .coastStepEnd => Sys2Proof.Machine.execCoastStepEnd s
  | .returnCondition => Sys2Proof.Machine.execReturnCondition s
  | .porAssert sagr => Sys2Proof.Machine.execPorAssert sagr s
  | .porRelease => Sys2Proof.Machine.execPorRelease s
  | .resetBAssert => Sys2Proof.Machine.execResetBAssert s
  | .resetBRelease => Sys2Proof.Machine.execResetBRelease s
  | .clockDomainRelease locked => Sys2Proof.Machine.execClockDomainRelease locked s
  | .domainLockTimeout => Sys2Proof.Machine.execDomainLockTimeout s
  | .startTimeout => Sys2Proof.Machine.execStartTimeout s
  | .ready => Sys2Proof.Machine.execReady s
  | .watchdogExpiry core => Sys2Proof.Machine.execWatchdogExpiry core s
  | .auxRailTrip rail => Sys2Proof.Machine.execAuxRailTrip rail s
  | .auxRailRetry rail => Sys2Proof.Machine.execAuxRailRetry rail s
  | .tempSample n meas => Sys2Proof.Machine.execTempSample n meas s
  | .tempInputInvalid n => Sys2Proof.Machine.execTempInputInvalid n s
  | .tempReading n => Sys2Proof.Machine.execTempReading n s
  | .throttleTick => Sys2Proof.Machine.execThrottleTick s
  | .thermalTrip n => Sys2Proof.Machine.execThermalTrip n s
  | .bbFlushSecondEnd => Sys2Proof.Machine.execBbFlushSecondEnd s
  | .pllLockWindow clk count expected => Sys2Proof.Machine.execPllLockWindow clk count expected s
  | .bypassReturn clk => Sys2Proof.Machine.execBypassReturn clk s
  | .refinFail => Sys2Proof.Machine.execRefinFail s
  | .syncInEdge inPhase => Sys2Proof.Machine.execSyncInEdge inPhase s
  | .alignerPhaseStep n => Sys2Proof.Machine.execAlignerPhaseStep n s
  | .gpioInputEvent n level => Sys2Proof.Machine.execGpioInputEvent n level s
  | .coreDomainSleep => Sys2Proof.Machine.execCoreDomainSleep s
  | .coreDomainWake access => Sys2Proof.Machine.execCoreDomainWake access s
  | .silPeriodicSeal => Sys2Proof.Machine.execSilPeriodicSeal s
  | .silFlushEnd ok => Sys2Proof.Machine.execSilFlushEnd ok s
  | .tapExtest => Sys2Proof.Machine.execTapExtest s
  | .tapSamplePreload => Sys2Proof.Machine.execTapSamplePreload s
  | .tapIdcode => Sys2Proof.Machine.execTapIdcode s
  | .tapClamp => Sys2Proof.Machine.execTapClamp s
  | .tapHighz => Sys2Proof.Machine.execTapHighz s
  | .tapBypass => Sys2Proof.Machine.execTapBypass s
  | .tapReset => Sys2Proof.Machine.execTapReset s
  | .dbgAccessRead space core addr => Sys2Proof.Machine.execDbgAccessRead space core addr s
  | .dbgAccessWrite space core addr data => Sys2Proof.Machine.execDbgAccessWrite space core addr data s
  | .dbgHaltRequest core => Sys2Proof.Machine.execDbgHaltRequest core s
  | .dbgResumeRequest core => Sys2Proof.Machine.execDbgResumeRequest core s
  | .dbgStepRequest core => Sys2Proof.Machine.execDbgStepRequest core s
  | .dbgBreakpointHit core n => Sys2Proof.Machine.execDbgBreakpointHit core n s
  | .dbgChallengeCapture => Sys2Proof.Machine.execDbgChallengeCapture s
  | .dbgResponseUpdate resp => Sys2Proof.Machine.execDbgResponseUpdate resp s
  | .dbgStatusCapture => Sys2Proof.Machine.execDbgStatusCapture s
  | .debugHoldoffEnd => Sys2Proof.Machine.execDebugHoldoffEnd s
  | .raymapLoadCompletion tag => Sys2Proof.Machine.execRaymapLoadCompletion tag s
  | .fwStageCompletion => Sys2Proof.Machine.execFwStageCompletion s
  | .memTestDone fails first => Sys2Proof.Machine.execMemTestDone fails first s
  | .hifIrqDelayExpiry q => Sys2Proof.Machine.execHifIrqDelayExpiry q s
  | .pcieLinkUp => Sys2Proof.Machine.execPcieLinkUp s

end Sys2Proof.Machine
end

