-- ==== Sys2Proof/Safety.lean ====
section
/-! DEFINITION. What the statements speak of: the parts of the state, "nothing but these parts differs", the
interlocks every command leaves in place, and the acceptance and the answer of a host command. Nothing here is used by
the machine. -/
namespace Sys2Proof.Machine

/-- The parts of the state. Four fields of State are in two parts each: what every command may touch (the books of the
Host Interface, what the interlocks set, the events and messages of the Interrupt Controller), and the rest. -/
inductive Part where
  /-- Commands waiting. -/
  | pending
  /-- Free values taken. -/
  | freeCtr
  /-- Event and error counters. -/
  | ctrs
  /-- Elapsed time. -/
  | clock
  /-- The commands in flight, the replies and where they are signalled. -/
  | books
  /-- Host Interface, the rest of it. -/
  | hif
  /-- Configuration sets and commits. -/
  | cfg
  /-- Ray-map slots. -/
  | rmap
  /-- Scene Decoder and Capture Encoder. -/
  | sdec
  /-- Accord Composer and camera ports. -/
  | acc
  /-- Ray Engine. -/
  | ray
  /-- Blitter. -/
  | blt
  /-- What the interlocks set: LIT_OK and the motor limit, the rows in a pulse, sinks and currents. -/
  | light
  /-- Rotor Controller, the rest of it. -/
  | rot
  /-- Scan-out Engine. -/
  | sco
  /-- Panel Link Transmitters. -/
  | plt
  /-- Gate-Control Links. -/
  | gcl
  /-- Panel power. -/
  | pnl
  /-- Backlight zones, the rest of it. -/
  | bl
  /-- Flysheet Driver. -/
  | fly
  /-- Stacked memory. -/
  | mem
  /-- Time Unit. -/
  | tu
  /-- Power and reset. -/
  | pwr
  /-- Mode and conditions. -/
  | cond
  /-- Thermal Unit. -/
  | therm
  /-- Pending sources, latched events, wake state and messages. -/
  | events
  /-- Interrupt Controller, the rest of it. -/
  | intc
  /-- Clock Unit. -/
  | clk
  /-- Sillage Recorder. -/
  | sil
  /-- Black-box ring. -/
  | bb
  /-- Debug Port. -/
  | dbg
  deriving DecidableEq, Repr

/-- Two states agree in a part. -/
def Part.Same : Part → State → State → Prop
  | .pending, s, t => t.pending = s.pending
  | .freeCtr, s, t => t.freeCtr = s.freeCtr
  | .ctrs, s, t => t.ctrs = s.ctrs
  | .clock, s, t => t.clock = s.clock
  | .books, s, t =>
      t.hif.flights = s.hif.flights ∧ t.hif.nextSeq = s.hif.nextSeq ∧ t.hif.replies = s.hif.replies ∧
      t.hif.queues = s.hif.queues ∧ t.hif.ethOut = s.hif.ethOut ∧ t.hif.ethTxSeq = s.hif.ethTxSeq ∧
      t.hif.mbxReply = s.hif.mbxReply ∧ t.hif.mbxBusy = s.hif.mbxBusy ∧ t.hif.mbxDone = s.hif.mbxDone ∧
      t.hif.hostImages = s.hif.hostImages
  | .hif, s, t =>
      t.hif = { s.hif with
        flights := t.hif.flights, nextSeq := t.hif.nextSeq, replies := t.hif.replies, queues := t.hif.queues
        ethOut := t.hif.ethOut, ethTxSeq := t.hif.ethTxSeq, mbxReply := t.hif.mbxReply, mbxBusy := t.hif.mbxBusy
        mbxDone := t.hif.mbxDone, hostImages := t.hif.hostImages }
  | .cfg, s, t => t.cfg = s.cfg
  | .rmap, s, t => t.rmap = s.rmap
  | .sdec, s, t => t.sdec = s.sdec
  | .acc, s, t => t.acc = s.acc
  | .ray, s, t => t.ray = s.ray
  | .blt, s, t => t.blt = s.blt
  | .light, s, t =>
      t.rot.litOk = s.rot.litOk ∧ t.rot.litRev = s.rot.litRev ∧ t.rot.motorLimitMw = s.rot.motorLimitMw ∧
      t.bl.lit = s.bl.lit ∧ t.bl.sinkOn = s.bl.sinkOn ∧ t.bl.current = s.bl.current ∧ t.bl.dac = s.bl.dac
  | .rot, s, t =>
      t.rot = { s.rot with
        litOk := t.rot.litOk, litRev := t.rot.litRev, motorLimitMw := t.rot.motorLimitMw }
  | .sco, s, t => t.sco = s.sco
  | .plt, s, t => t.plt = s.plt
  | .gcl, s, t => t.gcl = s.gcl
  | .pnl, s, t => t.pnl = s.pnl
  | .bl, s, t =>
      t.bl = { s.bl with
        lit := t.bl.lit, sinkOn := t.bl.sinkOn, current := t.bl.current, dac := t.bl.dac }
  | .fly, s, t => t.fly = s.fly
  | .mem, s, t => t.mem = s.mem
  | .tu, s, t => t.tu = s.tu
  | .pwr, s, t => t.pwr = s.pwr
  | .cond, s, t => t.cond = s.cond
  | .therm, s, t => t.therm = s.therm
  | .events, s, t =>
      t.intc.hpend = s.intc.hpend ∧ t.intc.cpend = s.intc.cpend ∧ t.intc.asleep = s.intc.asleep ∧
      t.intc.woke = s.intc.woke ∧ t.intc.wakeLatch = s.intc.wakeLatch ∧ t.intc.ready = s.intc.ready ∧
      t.intc.msix = s.intc.msix ∧ t.intc.pba = s.intc.pba
  | .intc, s, t =>
      t.intc = { s.intc with
        hpend := t.intc.hpend, cpend := t.intc.cpend, asleep := t.intc.asleep, woke := t.intc.woke
        wakeLatch := t.intc.wakeLatch, ready := t.intc.ready, msix := t.intc.msix, pba := t.intc.pba }
  | .clk, s, t => t.clk = s.clk
  | .sil, s, t => t.sil = s.sil
  | .bb, s, t => t.bb = s.bb
  | .dbg, s, t => t.dbg = s.dbg

/-- Nothing but the named parts differs. -/
def OnlyIn (ps : List Part) (s t : State) : Prop := ∀ q, q ∉ ps → q.Same s t

/-! ### What every command leaves in place -/

/-- LIT_OK is what R235 makes it; while something forbids light no row is in a pulse (R257), and from READY on no sink
is on and no zone has a current. -/
abbrev LightInv (s : State) : Prop :=
  s.rot.litOk = litCond s ∧
  (mayLight s = false → s.bl.lit = List.replicate 8 false ∧
    (s.hif.ready = true → s.bl.sinkOn = 0 ∧ s.bl.current = List.replicate 128 0 ∧ s.bl.dac = List.replicate 128 0))

/-- Awake, the controller has looked at its vectors: those with a message condition are the ones it has answered for
(R493). -/
abbrev MsgInv (s : State) : Prop := s.intc.asleep = false → s.intc.ready = readyVectors s

/-- Both hold. -/
abbrev Calm (s : State) : Prop := LightInv s ∧ MsgInv s

/-! ### Host commands -/

/-- The opcode and the packet of a host command; none for an event or a register access. -/
def hostPacket : Instr → Option (Nat × Pkt)
  | .identify p => some (0x0101, p)
  | .getStatus p => some (0x0102, p)
  | .commit p => some (0x0103, p)
  | .paramSet p => some (0x0104, p)
  | .paramGet p => some (0x0105, p)
  | .modeSet p => some (0x0106, p)
  | .faultClear p => some (0x0107, p)
  | .sceneLoad p => some (0x0201, p)
  | .planeDefine p => some (0x0202, p)
  | .notesDefine p => some (0x0203, p)
  | .cacheStore p => some (0x0204, p)
  | .cacheRecall p => some (0x0205, p)
  | .cacheDrop p => some (0x0206, p)
  | .raymapLoad p => some (0x0210, p)
  | .raymapSelect p => some (0x0211, p)
  | .raymapProbe p => some (0x0212, p)
  | .layerDefine p => some (0x0301, p)
  | .safetyDefine p => some (0x0302, p)
  | .scalerCoeff p => some (0x0303, p)
  | .rayLutLoad p => some (0x0401, p)
  | .tcLutLoad p => some (0x0402, p)
  | .linkTrain p => some (0x0410, p)
  | .linkLoopback p => some (0x0411, p)
  | .gcWrite p => some (0x0412, p)
  | .gcRead p => some (0x0413, p)
  | .panelPower p => some (0x0414, p)
  | .rotorStart p => some (0x0420, p)
  | .rotorStop p => some (0x0421, p)
  | .blitFill p => some (0x0501, p)
  | .blitCopy p => some (0x0502, p)
  | .blitOutline p => some (0x0503, p)
  | .blitClipSet p => some (0x0504, p)
  | .timeStepAccept p => some (0x0601, p)
  | .timeStepDecline p => some (0x0602, p)
  | .timeSet p => some (0x0603, p)
  | .triggerArm p => some (0x0610, p)
  | .triggerStop p => some (0x0611, p)
  | .captureConfig p => some (0x0612, p)
  | .thermalClear p => some (0x0701, p)
  | .flysheetUpdate p => some (0x0702, p)
  | .thermalLogRead p => some (0x0703, p)
  | .memRead p => some (0x0801, p)
  | .memWrite p => some (0x0802, p)
  | .memTest p => some (0x0803, p)
  | .sillageExport p => some (0x0901, p)
  | .silRegionDefine p => some (0x0902, p)
  | .sillageMark p => some (0x0903, p)
  | .sillageFlush p => some (0x0904, p)
  | .calLoad p => some (0x0A01, p)
  | .calSave p => some (0x0A02, p)
  | .calibrate p => some (0x0A03, p)
  | .fwStage p => some (0x0B01, p)
  | .fwActivate p => some (0x0B02, p)
  | .debugChallenge p => some (0x0B10, p)
  | .debugUnlock p => some (0x0B11, p)
  | .debugLock p => some (0x0B12, p)
  | .serviceStore p => some (0x0F01, p)
  | .serviceSelect p => some (0x0F02, p)
  | _ => none

/-- The Command Processor accepts the packet and its dependency is met: its path delivers (R405, R407), every check of
Table 15-4 passes, and it waits for no command in flight (R395, R396). -/
abbrev Accepts (s : State) (op : Nat) (p : Pkt) : Prop :=
  pathOpen s p.path = true ∧ (p.path = 16 → ethUp s = true) ∧ acceptCheck s op p = none ∧
  (p.dep.getLsbD 9 = true → (flightOf s (p.dep.toNat % 512)).isSome = false)

/-- The Command Processor refuses the packet with a status. -/
abbrev Refuses (s : State) (op : Nat) (p : Pkt) (st : Nat) : Prop :=
  pathOpen s p.path = true ∧ (p.path = 16 → ethUp s = true) ∧ acceptCheck s op p = some st

/-- Of the Host Interface, no more differs than the commands in flight, the replies and where they are signalled. -/
abbrev HifBooks (s t : State) : Prop := Part.Same .hif s t

/-- A packet has its one reply, with a status and a RESULT (R398). -/
def Replied (s t : State) (op : Nat) (p : Pkt) (st : Nat) (result : List Byte) : Prop :=
  ∃ r : Reply, t.hif.replies = r :: s.hif.replies ∧ r.status = BitVec.ofNat 16 st ∧ r.tag = ptag p ∧
    r.opcode = BitVec.ofNat 16 op ∧ r.result = padTo 12 result

/-- A command that ends at once: its reply is written and it is no longer in flight; commands that wait on its tag and
Blitter operations that wait on a command learn of the end (R396). -/
def Answered (s t : State) (op : Nat) (p : Pkt) (st : Nat) (result : List Byte) : Prop :=
  Replied s t op p st result ∧ t.hif.flights = depDone (ptag p) (decide (st < 0x100)) s.hif.flights ∧
  t.blt = { s.blt with queue := bltDepDone t.hif.flights s.blt.queue }

/-- A data image has gone where DATA_ADDR says (R398, R412): nowhere with DATA_ADDR 0, into the ingest area for a
module-local address, and otherwise to the host, in which case memory is as it was. -/
def ImageTo (p : Pkt) (img : List Byte) (s t : State) : Prop :=
  (p.addr = 0 ∨ img = [] → t.mem = s.mem ∧ t.hif.hostImages = s.hif.hostImages) ∧
  (p.addr ≠ 0 → img ≠ [] → isLocal p = false →
    t.mem = s.mem ∧ t.hif.hostImages = (p.addr.toNat, img) :: s.hif.hostImages) ∧
  (img ≠ [] → isLocal p = true → t.mem = memStore (localAddr p) img s.mem ∧ t.hif.hostImages = s.hif.hostImages ∧
    (s.mem.wf → ∀ a, a < localAddr p ∨ localAddr p + img.length ≤ a → memRead t.mem a = memRead s.mem a))

/-- A command that goes on: it is the newest command in flight, started, and no reply is written yet. -/
def Underway (s t : State) (op : Nat) (p : Pkt) : Prop :=
  t.hif.replies = s.hif.replies ∧
  ∃ f : Flight, t.hif.flights = s.hif.flights ++ [f] ∧ f.op = op ∧ f.p = p ∧ f.started = true

/-- The command answers a next state in which `P` holds and no part but the named ones differs. -/
def RunsTo (c : Instr) (s : State) (ps : List Part) (P : State → Prop) : Prop :=
  ∃ t, exec c s = .next t ∧ OnlyIn ps s t ∧ P t

/-- The host command runs and ends at once with a status and a RESULT: beside its reply no part but the named ones
differs, and `P` holds. -/
def EndsWith (c : Instr) (s : State) (op : Nat) (p : Pkt) (st : Nat) (result : List Byte) (ps : List Part)
    (P : State → Prop) : Prop :=
  RunsTo c s (.books :: .blt :: .events :: ps) (fun t => Answered s t op p st result ∧ P t)

/-- The host command starts and goes on: no part but the named ones and its record differs, and `P` holds. -/
def GoesOn (c : Instr) (s : State) (op : Nat) (p : Pkt) (ps : List Part) (P : State → Prop) : Prop :=
  RunsTo c s (.books :: .events :: ps) (fun t => Underway s t op p ∧ P t)

/-- A clear that passes: it ends at once with ST_OK and its RESULT, and the replies above its own are those of the Blitter
commands that an entry to PARKED ends (R207, R560); with none queued its reply is the one. -/
def ClearsWith (c : Instr) (s : State) (op : Nat) (p : Pkt) (result : List Byte) (ps : List Part)
    (P : State → Prop) : Prop :=
  (s.blt.queue = [] → EndsWith c s op p 0 result ps P) ∧
  RunsTo c s (.books :: .blt :: .ctrs :: .events :: ps) (fun t => P t ∧
    ∃ (r : Reply) (l : List Reply), t.hif.replies = l ++ r :: s.hif.replies ∧ r.status = 0 ∧ r.tag = ptag p ∧
      r.opcode = BitVec.ofNat 16 op ∧ r.result = padTo 12 result ∧ ∀ x ∈ l, x.status = BitVec.ofNat 16 St.bltStopped)

/-- A source raised: it is pending where it is routed, or latched while the CORE domain sleeps (R489, R495, R497). -/
def Raised (n : Nat) (t : State) : Prop :=
  (t.intc.asleep = false → (hostEn t n = true → n ∈ t.intc.hpend) ∧ ((tget? t.intc.croute n).isSome = true → n ∈ t.intc.cpend)) ∧
  (t.intc.asleep = true → (hostEn t n = true ∨ (tget? t.intc.croute n).isSome = true) → n ∈ t.intc.wakeLatch)

/-- A counter has counted `n` events, and no other counter has moved (R7). -/
def Counted (c : Ctr) (n : Nat) (s t : State) : Prop :=
  ctrVal t c = (if ctrMax ≤ ctrVal s c then ctrVal s c else min ctrMax (ctrVal s c + n)) ∧
  ∀ d, d ≠ c → ctrVal t d = ctrVal s d

/-- The event runs: beside the controller's events no part but the named ones differs, and `P` holds. -/
def Happens (c : Instr) (s : State) (ps : List Part) (P : State → Prop) : Prop := RunsTo c s (.events :: ps) P

/-- The event runs and has no effect. -/
def Nothing (c : Instr) (s : State) : Prop := RunsTo c s [.events] (fun t =>
  t.intc.hpend = s.intc.hpend ∧ t.intc.cpend = s.intc.cpend ∧ t.intc.wakeLatch = s.intc.wakeLatch)

/-! ### JT-40 frames (R428 to R430) -/

/-- The command code, the length and the frame of a JT-40 row. -/
def jtRow : Instr → Option (Nat × Nat × JtFrame)
  | .jtNop f => some (0x01, 0, f)
  | .jtVersion f => some (0x02, 0, f)
  | .jtMirrorStart f => some (0x10, 2, f)
  | .jtMirrorStop f => some (0x11, 0, f)
  | .jtBrightness f => some (0x20, 1, f)
  | .jtBacklight f => some (0x21, 1, f)
  | .jtOverlayShow f => some (0x30, 1, f)
  | .jtOverlayHide f => some (0x31, 1, f)
  | .jtStatus f => some (0x40, 0, f)
  | .jtSetDepth f => some (0x50, 4, f)
  | .jtUnsupportedCmd cmd f => if jtKnown.contains cmd.toNat then none else some (cmd.toNat, f.payload.length, f)
  | _ => none

/-- The module hears JT-40 frames: SERVICE, READY, no episode, and the sync byte is right. -/
abbrev JtHears (s : State) (f : JtFrame) : Prop :=
  s.cond.mode = .service ∧ s.hif.ready = true ∧ s.pwr.episode = false ∧ f.sync = 0xA5

/-- A frame that is heard, whose check and length hold, with no entry sequence running. -/
abbrev JtHolds (s : State) (cmd n : Nat) (f : JtFrame) : Prop :=
  JtHears s f ∧ jtCrcGood cmd f = true ∧ s.cond.seq = none ∧ f.len.toNat = n ∧ f.payload.length = n

/-- One reply frame with a status and a payload; no part but the named ones differs, and `P` holds. -/
def JtAnswers (c : Instr) (s : State) (st : Nat) (payload : List Byte) (ps : List Part) (P : State → Prop) : Prop :=
  Happens c s (.hif :: ps) (fun t => t.hif = { s.hif with jtOut := jtFrame st payload :: s.hif.jtOut } ∧ P t)

/-- A change of the draft set that a JT-40 command stages and commits (R429). -/
def JtCommits (c : Instr) (s : State) (stage : ConfigSet → ConfigSet) : Prop :=
  ((s.cfg.commits ≠ [] ∨ s.cond.coast = true) → JtAnswers c s 1 [] [] (fun _ => True)) ∧
  (s.cfg.commits = [] → s.cond.coast = false →
    (commitChecks (onDraft stage s) (snapshotOf (onDraft stage s)) ≠ none → JtAnswers c s 3 [] [] (fun _ => True)) ∧
    (commitChecks (onDraft stage s) (snapshotOf (onDraft stage s)) = none → Happens c s [.cfg, .acc] (fun t =>
      t.cfg.draft = stage s.cfg.draft ∧ t.cfg.active = s.cfg.active ∧ t.cfg.params = s.cfg.params ∧
      ∃ pc, t.cfg.commits = [pc] ∧ pc.path = 19 ∧ pc.snap.set = snapshotOf (onDraft stage s))))

/-! ### The Host Interface's paths -/

/-- No packet waits on any path. -/
abbrev QuietPaths (s : State) : Prop := ∀ n, n < 18 → (queueOf s n).ring = []

/-- An Ethernet message from a source that may command, in version and in sequence (R388, R389). -/
abbrev EthGood (s : State) (m : EthMsg) : Prop :=
  ethFrom s m = true ∧ m.payloadLen ≤ par s 0x0102 ∧ m.version = 1 ∧ ethInSeq s m = true

/-- A message accepted and acknowledged by a TYPE 4 message (R389). -/
def EthAcked (s t : State) (m : EthMsg) : Prop :=
  ∃ e : EthOut, e.type = 4 ∧ e.ack = m.seq ∧ e.replies = [] ∧
    t.hif = { s.hif with ethMac := some m.srcMac, ethSeq := some m.seq, ethOut := e :: s.hif.ethOut }

/-! ### Events -/

/-- A counter has counted `n` events (R7); of the other counters nothing is said. -/
def Advanced (c : Ctr) (n : Nat) (s t : State) : Prop :=
  ctrVal t c = if ctrMax ≤ ctrVal s c then ctrVal s c else min ctrMax (ctrVal s c + n)

/-- No MODE_SET is in flight. -/
abbrev NoModeSets (s : State) : Prop := ∀ f ∈ s.hif.flights, f.op ≠ 0x0106

/-- The angle counter stands at an angle of the revolution, or less than 64 ATK past it (log 4). -/
abbrev StandsAt (x : Nat) (t : State) : Prop := x ≤ atk t ∧ atk t < x + 64

/-- One commit is pending, that of a command in flight, and it changes the active set. -/
abbrev OneCommit (s : State) (c : PendingCommit) (f : Flight) : Prop :=
  s.cfg.commits = [c] ∧ c.path ≠ 19 ∧ c.noChange = false ∧ s.cond.seq = none ∧ flightOf s c.tag = some f ∧ f.silent = false

/-- The commit has taken effect: its snapshot is the active set, its number the epoch, and its command has its reply. -/
def CommitShown (s t : State) (c : PendingCommit) : Prop :=
  t.cfg.active = c.snap.set ∧ t.cfg.epoch = c.epoch ∧ t.cfg.commits = [] ∧ t.cfg.draft = s.cfg.draft ∧
  ∃ r : Reply, t.hif.replies = r :: s.hif.replies ∧ r.status = 0 ∧ r.tag = c.tag ∧ r.epoch = c.epoch

/-- Memory reads as before outside a byte range. -/
def MemOutside (s t : State) (a n : Nat) : Prop :=
  ∀ x, x < a ∨ a + n ≤ x → memRead t.mem x = memRead s.mem x

/-- The Recorder has written: its records are those before and at least one more. -/
def Recorded (s t : State) : Prop := ∃ l, l ≠ [] ∧ t.sil.records = l ++ s.sil.records

/-- The Recorder writes frame entries. -/
abbrev Records (s : State) : Prop := s.sil.running = true ∧ s.sil.stopped = false

/-- Nothing waits for a commit, and no sequence or change of timing runs. -/
abbrev Settled (s : State) : Prop := s.cond.seq = none ∧ s.ray.switchRev = 0 ∧ NoModeSets s

/-- A command in flight under a tag whose reply will be written. -/
abbrev Flying (s : State) (tag : Nat) (f : Flight) : Prop := flightOf s tag = some f ∧ f.silent = false

/-- The command in flight has its one reply with a status, and its tag is free. -/
def Finished (s t : State) (f : Flight) (st : Nat) : Prop :=
  flightOf t (ptag f.p) = none ∧ ∃ r : Reply, t.hif.replies = r :: s.hif.replies ∧ r.status = BitVec.ofNat 16 st ∧
    r.tag = ptag f.p ∧ r.opcode = BitVec.ofNat 16 f.op

/-- What the command under a tag has been told of writes without an order is of its own kind alone: the Blitter's with
`true`, the other writers' with `false` (R193, log 77). -/
def MarksOf (s : State) (tag : Nat) (blit : Bool) : Prop :=
  ∀ f, flightOf s tag = some f → ∀ m ∈ f.marks, m.blit = blit

/-- No ROTOR_START and no ROTOR_STOP is in flight. -/
abbrev NoRotorCommands (s : State) : Prop := ∀ f ∈ s.hif.flights, f.op ≠ 0x0420 ∧ f.op ≠ 0x0421

/-- What the setting of FAULT may change (R236, R559): the camera ports, the decoder, the Time Unit, the clocks, the ray
maps and what waits on the paths are not among it, and of memory only that the buffer of a render under way becomes
undefined (R174), which takes free values. -/
def faultParts : List Part :=
  [.books, .blt, .freeCtr, .ctrs, .bb, .cond, .sil, .ray, .sco, .cfg, .gcl, .pnl, .plt, .light, .rot, .mem, .therm, .fly]

/-- What encoder loss may change beside it: the entry of the partial frame is written (R518). -/
def lossParts : List Part := faultParts ++ [.bl, .tu, .acc, .sdec]

/-- FAULT is set, no row is in a pulse and no byte of memory has been written; under BIVOUAC the condition itself stays as
it was (R559, Table 22-3). -/
def FaultSet (s t : State) : Prop :=
  t.bl.lit = List.replicate 8 false ∧ t.mem.cells = s.mem.cells ∧ t.cond.fault = (s.cond.fault || !s.cond.bivouac) ∧ t.cond.bivouac = s.cond.bivouac

/-- Encoder loss is declared for a cause (R220, R236). -/
def EncoderLost (b : Nat) (s t : State) : Prop :=
  FaultSet s t ∧ Raised 16 t ∧ t.rot.cause.getLsbD b = true ∧ t.rot.angleValid = false ∧ t.rot.litOk = false ∧
  (s.rot.state ∈ [RotState.catching, .align, .spinUp, .run, .brake] → t.rot.state = .sensorlessBrake)

/-- The bridge does not hold the hold-up bus: where the rotor was in REGEN the bus is measured anew, up to 48.96 V, and
nothing else of the power state differs; otherwise none of it does (R214, R434, R238). -/
def BusLeft (s t : State) : Prop :=
  regenHolds t = false ∧ t.pwr = { s.pwr with hub := t.pwr.hub } ∧ (s.rot.state = .regen → t.pwr.hub ≤ 4896) ∧
  (s.rot.state ≠ .regen → t.pwr = s.pwr)

/-- A bank has been refreshed: no refresh of it is due, its row is closed, its activates count from 0 and its requests go
on; the pools and the bytes of memory are as they were (R339, R341). -/
def Refreshed (s t : State) (pc bank : Nat) : Prop :=
  tget? t.mem.due (bankKey pc bank) = none ∧ tget? t.mem.openRow (bankKey pc bank) = none ∧
  tget? t.mem.acts (bankKey pc bank) = none ∧ bankKey pc bank ∉ t.mem.bankWait ∧
  tget t.mem.refreshBank pc 0 = (tget s.mem.refreshBank pc 0 + 1) % 64 ∧
  t.mem.actTable = s.mem.actTable ∧ t.mem.pool = s.mem.pool ∧ t.mem.cells = s.mem.cells

/-- What entry to COAST may change. -/
def coastParts : List Part :=
  [.books, .blt, .freeCtr, .ctrs, .cfg, .rmap, .sdec, .acc, .ray, .light, .rot, .sco, .plt, .gcl, .pnl, .fly, .mem, .tu,
   .pwr, .cond, .therm, .sil, .bb, .dbg]

/-- COAST has been entered (R437, R441): nothing is lit or rendered, commits are cancelled, the commands that COAST ends
have ended, and no byte of memory has been written. -/
def Coasted (s t : State) : Prop :=
  t.cond.coast = true ∧ t.pwr.coastStep = 1 ∧ Advanced .coast 1 s t ∧ Raised 1 t ∧ t.cfg.commits = [] ∧
  t.ray.render = none ∧ t.bl.lit = List.replicate 8 false ∧ t.mem.cells = s.mem.cells ∧
  ∀ f ∈ t.hif.flights, coastKeeps f.op = true

/-- What a reset episode may change: everything but the commands that wait and the clock. -/
def episodeParts : List Part :=
  [.books, .hif, .blt, .freeCtr, .ctrs, .cfg, .rmap, .sdec, .acc, .ray, .light, .rot, .sco, .plt, .gcl, .pnl, .bl, .fly,
   .mem, .tu, .pwr, .cond, .therm, .intc, .clk, .sil, .bb, .dbg]

/-- A failed start is counted; from the third on the module is in BIVOUAC (R456). -/
def StartFailed (s t : State) : Prop :=
  t.pwr.startFails = min 15 (s.pwr.startFails + 1) ∧ t.pwr.startFailed = true ∧
  (2 ≤ s.pwr.startFails → t.cond.bivouac = true ∧ t.cond.mode = .parked ∧ t.rot.state = .freewheel) ∧
  (s.pwr.startFails < 2 → t.cond = s.cond ∧ t.rot.state = s.rot.state)

/-- What a failed start may change, entry to BIVOUAC included. -/
def failedStartParts : List Part :=
  [.pwr, .bb, .sil, .freeCtr, .ctrs, .rot, .light, .cond, .cfg, .hif, .sco, .pnl, .plt, .gcl, .mem, .tu, .clk, .fly, .books,
   .blt]

/-- A PTP message from a port and of a domain, a profile and a transport that the Time Unit takes, no management message
(R363, R364). -/
abbrev PtpHeard (s : State) (m : PtpMsg) : Prop :=
  s.tu.running = true ∧ ptpPort s m = true ∧ ptpMatch s m = true

/-- The offset that a Sync gives (R365, R366). -/
def syncOffset (s : State) (port arrival origin : Nat) (corr : Int) : Int :=
  (arrival : Int) - rxLat s port - origin - s.tu.meanPath - corr

/-- A Sync has been judged: its times are held, and the offset is shown. -/
def SyncTaken (s t : State) (port arrival origin : Nat) (corr : Int) : Prop :=
  t.tu.syncPend = none ∧ t.tu.lastSync = some (origin, corr, ((arrival : Int) - rxLat s port).toNat) ∧
  t.tu.offset = clampI (-2147483647) 2147483647 (offNs (syncOffset s port arrival origin corr)) ∧
  ((s.tu.state = .locked ∨ s.tu.state = .acquiring) → s.tu.declined = false → s.tu.slewing = false →
    (syncOffset s port arrival origin corr).natAbs ≤ par s 0x6004 * 65536 →
    t.tu.pendStep = false ∧ t.tu.freqPpb.natAbs ≤ par s 0x6006 ∧ t.tu.time = s.tu.time)

/-- The masters heard without the one that is lost. -/
def otherMasters (s : State) (g : Gm) : List Gm :=
  s.tu.masters.filter (fun x => !(x.source == g.source && x.port == g.port))

/-- The master is lost (R368). -/
def MasterLost (s t : State) (g : Gm) : Prop :=
  Raised 163 t ∧ t.tu.masters = otherMasters s g ∧ t.tu.master = bestGm (otherMasters s g) ∧ t.tu.time = s.tu.time ∧
  t.tu.state = (if s.tu.state = .acquiring ∨ s.tu.state = .locked then .holdover else s.tu.state)

/-- An edge of a trigger leaves (R375, R378). -/
def EdgeSent (s t : State) (n : Nat) : Prop :=
  (trigOf t n).active = true ∧ (trigOf t n).sent = (trigOf s n).sent + 1 ∧ (trigOf t n).desc = (trigOf s n).desc ∧
  (trigOf t n).armed = (trigMode (trigOf s n) != 1 && (field (trigOf s n).desc 0x1C 4 == 0 ||
    decide ((trigOf s n).sent + 1 < field (trigOf s n).desc 0x1C 4))) ∧
  (trigFlag (trigOf s n) 2 = true → Raised 165 t) ∧ ∀ k, k ≠ n → trigOf t k = trigOf s k

/-- The frame on the wire and the retry or the end of an update whose frame has not been answered well (R316). -/
def FlyRetried (c : Instr) (s : State) (u : FlyUpdate) (op arg : Nat) : Prop :=
  (u.tries < 3 → Happens c s [.fly] (fun t =>
    t.fly = { s.fly with sent := flyBytes op arg :: s.fly.sent, cur := some { u with tries := u.tries + 1 } })) ∧
  (3 ≤ u.tries → Happens c s [.fly, .bb, .books, .blt, .ctrs] (fun t => t.fly.cur = none ∧ Raised 62 t ∧
    t.fly.sent = flyBytes op arg :: s.fly.sent))

end Sys2Proof.Machine
end

