-- ==== Sys2Proof/Certificates/Slice0/Obligations.lean ====
section
/-! DEFINITION. The statements for the provers. Each docstring says what is stated and names the rules it rests on. -/
section Statements
open Sys2Proof Sys2Proof.Machine

/-- For every command c, every rest of the queue and every state s, step at s with c in front of the rest is exec of c
at s with the rest as its queue. (R394, R395.) -/
def Obligations.StepRunsFront : Prop :=
  ∀ (c : Instr) (rest : List Instr) (s : State),
    step { s with pending := c :: rest } = exec c { s with pending := rest }

/-- With no command waiting a step answers the state in which one nanosecond of clock has passed; before RUNNING the
time stands still, and nothing but the clock and the Time Unit differs. That an idle step is one nanosecond is the
model's choice (log 1). (R360, R362.) -/
def Obligations.IdleStepIsOneTick : Prop :=
  ∀ s : State, s.pending = [] →
    ∃ t, step s = .next t ∧ OnlyIn [.clock, .tu] s t ∧ t.clock = s.clock + 1 ∧
      (s.tu.running = false → t.tu = s.tu) ∧
      (s.tu.running = true → s.tu.slewing = false → s.tu.freqPpb = 0 → t.tu.time = (s.tu.time + nsUnit) % timeMod ∧
        t.tu = { s.tu with time := t.tu.time })

/-- After reset nothing waits, no command is in flight, the Host Interface and READY are down, no mode but PARKED is
in force, memory lists no written byte and all of it is undefined, and no source is pending; the rotor is STOPPED and the
encoder angle not valid, the time does not run, the panel is off, and every parameter stands at its default. The zero of
the registers for which the spec gives no reset value is the model's choice (log 3). (R353, R400, R405, R455, R493, R212,
R240, R360.) -/
def Obligations.ResetValues : Prop :=
  State.reset.pending = [] ∧ State.reset.hif.flights = [] ∧ State.reset.hif.fwUp = false ∧ State.reset.hif.ready = false ∧
    State.reset.cond.mode = .parked ∧ State.reset.cond.fault = false ∧ State.reset.cond.coast = false ∧
    State.reset.mem.cells = [] ∧ State.reset.mem.undef = [(0, 0x2000000000, 0)] ∧ State.reset.rot.state = .stopped ∧
    State.reset.mem.resetsHeld = true ∧ State.reset.intc.hpend = [] ∧ State.reset.rot.angleValid = false ∧ State.reset.tu.running = false ∧
    State.reset.tu.timeSet = false ∧ State.reset.pnl.state = .off ∧ State.reset.cfg.epoch = 0 ∧
    ∀ pn : Nat, paramWord State.reset pn = paramDefault pn

/-- Every command, at every state, answers a next state; and in it LIT_OK is what the conditions of R235 make it, no
row is in a pulse while anything forbids light (R257), from READY on no sink is on and no zone has a current then, and
an awake Interrupt Controller has answered for exactly the vectors whose message condition holds (R493). (R235, R257,
R493, R451.) -/
def Obligations.EveryCommandLeavesCalm : Prop :=
  ∀ (c : Instr) (s : State), ∃ t, exec c s = .next t ∧ Calm t

/-- From every state that is calm a step answers a next state, and that state is calm: the light interlocks of R235
and R257 and the message books of R493 hold in it, whatever command stands in front, and on an empty queue. (R235,
R257, R493, R451.) -/
def Obligations.EveryStepKeepsCalm : Prop :=
  ∀ s : State, Calm s → ∃ t, step s = .next t ∧ Calm t

/-- State.reset is calm: LIT_OK is 0 as R235 makes it, no row is lit, and no vector has a message condition. (R235,
R257, R493.) -/
def Obligations.CalmAtReset : Prop :=
  Calm State.reset

/-- For memory in canonical form, a store of bytes at an address leaves it in canonical form, leaves every byte
outside the stored ones as it read before, and makes each stored byte read back as written unless its channel has
failed (R348). (R344, R348, R51.) -/
def Obligations.StoresKeepMemoryCanonical : Prop :=
  ∀ (m : Mem) (a : Nat) (bs : List Byte), m.wf →
    (memStore a bs m).wf ∧
    (∀ x, x < a ∨ a + bs.length ≤ x → memRead (memStore a bs m) x = memRead m x) ∧
    (∀ i, i < bs.length → chanFailed m (a + i) = false → memRead (memStore a bs m) (a + i) = bs.getD i 0)

/-- For every host command that a check of Table 15-4 refuses with a status, at every state whose light interlocks
hold: the command answers a next state with one reply that carries the packet's tag, opcode and that status and a
RESULT of zeros; the commands in flight stay as they were; HIF_REFUSED_CNT counts it; and no part of the state differs
but the reply's books, the counters and the controller's events. (R395, R398, R491.) -/
def Obligations.RefusedCommandHasNoEffect : Prop :=
  ∀ (c : Instr) (op : Nat) (p : Pkt) (s : State) (st : Nat), hostPacket c = some (op, p) → LightInv s → Refuses s op p st →
    RunsTo c s [.books, .events, .ctrs] (fun t =>
      Replied s t op p st [] ∧ t.hif.flights = s.hif.flights ∧ t.hif.nextSeq = s.hif.nextSeq ∧
      ctrVal t .refused = if ctrMax ≤ ctrVal s .refused then ctrVal s .refused else ctrVal s .refused + 1)

/-- A packet whose tag is in flight is refused with ST_TAG_IN_USE whatever else is wrong with it; one whose opcode is
not defined with ST_BAD_OPCODE; one with a reserved header bit with ST_RESERVED_FIELD; before READY and outside
BIVOUAC every opcode but IDENTIFY and GET_STATUS with ST_NOT_READY; and only a packet that passes those is judged by
the conditions of check 5 and the parameters of check 6. (R395, Table 15-4.) -/
def Obligations.AcceptanceChecksInOrder : Prop :=
  ∀ (s : State) (op : Nat) (p : Pkt),
    ((flightOf s (ptag p)).isSome = true → acceptCheck s op p = some 0x0201) ∧
    (flightOf s (ptag p) = none → opModes op = none → acceptCheck s op p = some 0x0202) ∧
    (flightOf s (ptag p) = none → (opModes op).isSome = true →
      (512 ≤ p.tag.toNat ∨ 2048 ≤ p.dep.toNat ∨ 2 ≤ p.flags.toNat ∨ p.rsvd ≠ 0) → acceptCheck s op p = some 0x0203) ∧
    (flightOf s (ptag p) = none → (opModes op).isSome = true → p.tag.toNat < 512 → p.dep.toNat < 2048 → p.flags.toNat < 2 →
      p.rsvd = 0 → s.hif.ready = false → s.cond.bivouac = false → op ≠ 0x0101 → op ≠ 0x0102 →
      acceptCheck s op p = some 0x0100) ∧
    (∀ m, flightOf s (ptag p) = none → opModes op = some m → p.tag.toNat < 512 → p.dep.toNat < 2048 → p.flags.toNat < 2 →
      p.rsvd = 0 → (s.hif.ready = true ∨ s.cond.bivouac = true ∨ op = 0x0101 ∨ op = 0x0102) →
      acceptCheck s op p = (check5 s op p m).or (check6 s op p))

/-- For every host command: one that passes the checks with DEP_VALID set and its dependency tag in flight is
accepted, is the newest command in flight, not started and waiting, and no reply is written; of the state beside the
books of the Host Interface no more differs than what acceptance itself takes, a place in the Blitter's queue, a place
in the exchange queue, or the LOADING state of a ray-map slot. While its path delivers nothing (a reset episode runs,
COAST is set, or a queue's interface is not up) and it did not come by Ethernet, its packet is appended to what waits
on that path, no reply is written and no command starts. One that came by Ethernet while the Ethernet ports are down
is dropped; before RUNNING it is counted in TU_EARLY_DROP_CNT. (R395, R396, R405, R407, R381.) -/
def Obligations.PathsAndDependenciesHoldCommands : Prop :=
  ∀ (c : Instr) (op : Nat) (p : Pkt) (s : State), hostPacket c = some (op, p) → LightInv s →
    (pathOpen s p.path = true → (p.path = 16 → ethUp s = true) → acceptCheck s op p = none →
      p.dep.getLsbD 9 = true → (flightOf s (p.dep.toNat % 512)).isSome = true →
      RunsTo c s [.books, .events, .blt, .gcl, .rmap] (fun t =>
        t.hif.replies = s.hif.replies ∧
        t.hif.flights = s.hif.flights ++ [{ op := op, p := p, dep := .waiting, depTag := p.dep.toNat % 512, seq := s.hif.nextSeq }] ∧
        t.hif.nextSeq = s.hif.nextSeq + 1 ∧
        ((op < 0x0501 ∨ 0x0504 < op) → t.blt = s.blt) ∧ (op ≠ 0x0412 → op ≠ 0x0413 → t.gcl = s.gcl) ∧
        (op ≠ 0x0210 → t.rmap = s.rmap))) ∧
    (p.path ≠ 16 → pathOpen s p.path = false →
      RunsTo c s [.books, .events] (fun t => t.hif.flights = s.hif.flights ∧ t.hif.replies = s.hif.replies ∧
        (queueOf t p.path).ring = (queueOf s p.path).ring ++ [{ opcode := BitVec.ofNat 16 op, pkt := p }])) ∧
    (p.path = 16 → ethUp s = false →
      RunsTo c s [.events, .ctrs] (fun t =>
        (s.tu.running = true → t.ctrs = s.ctrs) ∧
        (s.tu.running = false → ctrVal t .tuEarlyDrop =
          if ctrMax ≤ ctrVal s .tuEarlyDrop then ctrVal s .tuEarlyDrop else ctrVal s .tuEarlyDrop + 1)))

/-- NOTES_DEFINE, LAYER_DEFINE, SAFETY_DEFINE, SIL_REGION_DEFINE and RAYMAP_SELECT, once accepted, end at once with
ST_OK and an empty RESULT, and put what their packet or data holds into the draft set under the index they name; every
other entry of the draft, the active set and every other part of the state stay. (R21, R22, R58, R124, R145, R524,
R45.) -/
def Obligations.StagingGoesToTheDraft : Prop :=
  (∀ (s : State) (p : Pkt), LightInv s → Accepts s 0x0203 p → EndsWith (.notesDefine p) s 0x0203 p 0 [] [.cfg] (fun t =>
      t.cfg = { s.cfg with draft := { s.cfg.draft with
        notes := (List.range (pf p 0x14 1)).map (fun i =>
          { first := byteAt (pdata s p) (8 * i), last := byteAt (pdata s p) (8 * i + 1), cls := byteAt (pdata s p) (8 * i + 2)
            rsvd := BitVec.ofNat 8 (byteAt (pdata s p) (8 * i + 3))
            mergeD := BitVec.ofNat 32 (field (pdata s p) (8 * i + 4) 4) }) } })) ∧
  (∀ (s : State) (p : Pkt), LightInv s → Accepts s 0x0301 p → EndsWith (.layerDefine p) s 0x0301 p 0 [] [.cfg] (fun t =>
      layerOf t.cfg.draft (pf p 0x14 1) = padTo 48 (pdata s p) ∧
      (∀ l, l ≠ pf p 0x14 1 → layerOf t.cfg.draft l = layerOf s.cfg.draft l) ∧
      t.cfg = { s.cfg with draft := { s.cfg.draft with
        layers := t.cfg.draft.layers
        layerSeq := tset s.cfg.draft.layerSeq (pf p 0x14 1) (tget s.cfg.draft.layerSeq (pf p 0x14 1) 0 + 1) } })) ∧
  (∀ (s : State) (p : Pkt), LightInv s → Accepts s 0x0302 p → EndsWith (.safetyDefine p) s 0x0302 p 0 [] [.cfg] (fun t =>
      regionOf t.cfg.draft (pf p 0x14 1) = pbytes p 0x18 32 ∧
      (∀ n, n ≠ pf p 0x14 1 → regionOf t.cfg.draft n = regionOf s.cfg.draft n) ∧
      t.cfg = { s.cfg with draft := { s.cfg.draft with safety := t.cfg.draft.safety } })) ∧
  (∀ (s : State) (p : Pkt), LightInv s → Accepts s 0x0902 p → EndsWith (.silRegionDefine p) s 0x0902 p 0 [] [.cfg] (fun t =>
      t.cfg = { s.cfg with draft := { s.cfg.draft with
        regions := tset s.cfg.draft.regions (pf p 0x14 1) {
          target := pf p 0x15 1, rate := pf p 0x16 1, x := pf p 0x18 2, y := pf p 0x1A 2, w := pf p 0x1C 2
          h := pf p 0x1E 2 } } })) ∧
  (∀ (s : State) (p : Pkt), LightInv s → Accepts s 0x0211 p → EndsWith (.raymapSelect p) s 0x0211 p 0 [] [.cfg] (fun t =>
      setParam t.cfg.draft 0x1000 = pf p 0x14 1 ∧
      (∀ pn, pn ≠ 0x1000 → setParam t.cfg.draft pn = setParam s.cfg.draft pn) ∧
      t.cfg = { s.cfg with draft := { s.cfg.draft with params := t.cfg.draft.params } }))

/-- SCALER_COEFF, RAY_LUT_LOAD and TC_LUT_LOAD of a table of the wrong size, or with a selector above 4, end with
ST_LUT_FORMAT, and of one with an entry outside its range with ST_LUT_RANGE, and neither changes the configuration; a
table that passes ends with ST_OK and is staged whole in the draft set: the 512 signed taps of a scaler bank, the entries
of a decode or response LUT, or the 1,089 entries of the transition table. (R135, R187, R251.) -/
def Obligations.TableLoadsAreChecked : Prop :=
  (∀ (s : State) (p : Pkt), LightInv s → Accepts s 0x0303 p →
      ((pdata s p).length ≠ 1024 → EndsWith (.scalerCoeff p) s 0x0303 p 0x0233 [] [] (fun _ => True)) ∧
      ((pdata s p).length = 1024 → (∃ i, i < 512 ∧ (sext 16 (field (pdata s p) (2 * i) 2) < -2048 ∨
          2047 < sext 16 (field (pdata s p) (2 * i) 2))) →
        EndsWith (.scalerCoeff p) s 0x0303 p 0x0234 [] [] (fun _ => True)) ∧
      ((pdata s p).length = 1024 → (∀ i, i < 512 → -2048 ≤ sext 16 (field (pdata s p) (2 * i) 2) ∧
          sext 16 (field (pdata s p) (2 * i) 2) ≤ 2047) →
        EndsWith (.scalerCoeff p) s 0x0303 p 0 [] [.cfg] (fun t =>
          t.cfg = { s.cfg with draft := { s.cfg.draft with
            scalers := tset s.cfg.draft.scalers (pf p 0x14 1) ((List.range 512).map (fun i => sext 16 (field (pdata s p) (2 * i) 2))) } }))) ∧
  (∀ (s : State) (p : Pkt), LightInv s → Accepts s 0x0401 p →
      ((4 < pf p 0x14 1 ∨ (pdata s p).length ≠ (if pf p 0x14 1 = 0 then 512 else 2048)) →
        EndsWith (.rayLutLoad p) s 0x0401 p 0x0233 [] [] (fun _ => True)) ∧
      (pf p 0x14 1 ≤ 4 → (pdata s p).length = (if pf p 0x14 1 = 0 then 512 else 2048) →
        (∃ i, i < (if pf p 0x14 1 = 0 then 256 else 1024) ∧
          (if pf p 0x14 1 < 2 then 4095 else 1023) < field (pdata s p) (2 * i) 2) →
        EndsWith (.rayLutLoad p) s 0x0401 p 0x0234 [] [] (fun _ => True)) ∧
      (pf p 0x14 1 ≤ 4 → (pdata s p).length = (if pf p 0x14 1 = 0 then 512 else 2048) →
        (∀ i, i < (if pf p 0x14 1 = 0 then 256 else 1024) →
          field (pdata s p) (2 * i) 2 ≤ (if pf p 0x14 1 < 2 then 4095 else 1023)) →
        EndsWith (.rayLutLoad p) s 0x0401 p 0 [] [.cfg] (fun t =>
          t.cfg = { s.cfg with draft := { s.cfg.draft with
            luts := tset s.cfg.draft.luts (pf p 0x14 1) ((List.range (if pf p 0x14 1 = 0 then 256 else 1024)).map (fun i => field (pdata s p) (2 * i) 2)) } }))) ∧
  (∀ (s : State) (p : Pkt), LightInv s → Accepts s 0x0402 p →
      ((pdata s p).length ≠ 2178 → EndsWith (.tcLutLoad p) s 0x0402 p 0x0233 [] [] (fun _ => True)) ∧
      ((pdata s p).length = 2178 → (∃ i, i < 1089 ∧ 2047 < field (pdata s p) (2 * i) 2) →
        EndsWith (.tcLutLoad p) s 0x0402 p 0x0234 [] [] (fun _ => True)) ∧
      ((pdata s p).length = 2178 → (∀ i, i < 1089 → field (pdata s p) (2 * i) 2 ≤ 2047) →
        EndsWith (.tcLutLoad p) s 0x0402 p 0 [] [.cfg] (fun t =>
          t.cfg = { s.cfg with draft := { s.cfg.draft with
            tc := some ((List.range 1089).map (fun i => field (pdata s p) (2 * i) 2)) } })))

/-- With no block bound to the plane, PLANE_DEFINE ends at once with ST_OK: the draft descriptor of that plane is the
32 bytes of the packet, every other plane keeps its own, and the damage records of the one or two buffers it names are
cleared, all others kept. With blocks bound to the plane it goes on, and nothing is staged yet. (R63, R101, R22.) -/
def Obligations.PlaneDefineStagesOrWaits : Prop :=
  ∀ (s : State) (p : Pkt), LightInv s → Accepts s 0x0202 p →
    (boundBlocks s (pf p 0x14 1) = [] → EndsWith (.planeDefine p) s 0x0202 p 0 [] [.cfg] (fun t =>
      planeOf t.cfg.draft (pf p 0x14 1) = pbytes p 0x18 32 ∧
      (∀ k, k ≠ pf p 0x14 1 → planeOf t.cfg.draft k = planeOf s.cfg.draft k) ∧
      (∀ b, damageOf t b = if b ∈ planeBufs (pbytes p 0x18 32) then [] else damageOf s b) ∧
      t.cfg = { s.cfg with draft := { s.cfg.draft with planes := t.cfg.draft.planes }, damage := t.cfg.damage })) ∧
    (boundBlocks s (pf p 0x14 1) ≠ [] → GoesOn (.planeDefine p) s 0x0202 p [] (fun _ => True))

/-- CACHE_STORE of planes without damage records the draft's planes, notes and count in the entry it names, and with a
damaged plane it ends with ST_PLANE_DAMAGED naming the first such plane and leaves the entry unchanged; CACHE_RECALL
of a full entry puts its planes, notes and count into the draft, and of an empty one ends with ST_CACHE_EMPTY;
CACHE_DROP empties the entry. Nothing else of the configuration changes. (R67, R68, R69, R103.) -/
def Obligations.SceneCacheEntries : Prop :=
  (∀ (s : State) (p : Pkt), LightInv s → Accepts s 0x0204 p →
      ((∀ e ∈ cachePlanes s, damageOf s (dBase e.2) = []) → EndsWith (.cacheStore p) s 0x0204 p 0 [] [.cfg] (fun t =>
        t.cfg = { s.cfg with
          cache := tset s.cfg.cache (pf p 0x14 1) {
            count := setParam s.cfg.draft 0x2000, planes := cachePlanes s, notes := s.cfg.draft.notes } })) ∧
      (∀ (pre post : Table (List Byte)) (k : Nat) (d : List Byte), cachePlanes s = pre ++ (k, d) :: post →
        (∀ e ∈ pre, damageOf s (dBase e.2) = []) → damageOf s (dBase d) ≠ [] →
        EndsWith (.cacheStore p) s 0x0204 p 0x0247 (objResult 1 k) [] (fun _ => True))) ∧
  (∀ (s : State) (p : Pkt), LightInv s → Accepts s 0x0205 p →
      (tget? s.cfg.cache (pf p 0x14 1) = none → EndsWith (.cacheRecall p) s 0x0205 p 0x0311 [] [] (fun _ => True)) ∧
      (∀ e, tget? s.cfg.cache (pf p 0x14 1) = some e → EndsWith (.cacheRecall p) s 0x0205 p 0 [] [.cfg] (fun t =>
        t.cfg = { s.cfg with draft := { s.cfg.draft with planes := e.planes, notes := e.notes
                                                         params := paramPut s.cfg.draft.params 0x2000 (BitVec.ofNat 32 e.count) } }))) ∧
  (∀ (s : State) (p : Pkt), LightInv s → Accepts s 0x0206 p → EndsWith (.cacheDrop p) s 0x0206 p 0 [] [.cfg] (fun t =>
      tget? t.cfg.cache (pf p 0x14 1) = none ∧
      (∀ n, n ≠ pf p 0x14 1 → tget? t.cfg.cache n = tget? s.cfg.cache n) ∧ t.cfg = { s.cfg with cache := t.cfg.cache }))

/-- When a pair of an accepted PARAM_SET fails, the command ends with that pair's status and its index in RESULT byte
4, and no parameter changes. When every pair passes, it ends with ST_OK; each Commit parameter named then stands in
the draft at the last VALUE given for it, each other parameter named is in force at the last VALUE given for it, and
every parameter not named is as it was, in the draft and in force. Beside the configuration only what a parameter acts
on at once may differ: the PTP state, the thermal books, the reference selection, the autostart word, and the memory
point with the facet that its change makes dark. (R402, R403.) -/
def Obligations.ParamSetAllOrNothing : Prop :=
  ∀ (s : State) (p : Pkt), LightInv s → Accepts s 0x0104 p →
    (∀ i st, firstFailing s (paramPairs p) = some (i, st) →
      EndsWith (.paramSet p) s 0x0104 p st ([0, 0, 0, 0] ++ leBytes 1 i) [] (fun _ => True)) ∧
    (firstFailing s (paramPairs p) = none →
      EndsWith (.paramSet p) s 0x0104 p 0 [] [.cfg, .tu, .therm, .pwr, .mem, .clk, .ctrs, .bb, .sco, .light] (fun t =>
        (∀ pn, match (paramPairs p).reverse.find? (fun e => e.1 == pn) with
          | some e =>
            if ((paramSpec pn).map (·.commit)).getD false then
              tget t.cfg.draft.params pn (paramDefault pn) = e.2 ∧ paramWord t pn = paramWord s pn
            else paramWord t pn = e.2
          | none => paramWord t pn = paramWord s pn ∧
            tget t.cfg.draft.params pn (paramDefault pn) = tget s.cfg.draft.params pn (paramDefault pn)) ∧
        t.cfg = { s.cfg with params := t.cfg.params, draft := { s.cfg.draft with params := t.cfg.draft.params } }))

/-- IDENTIFY, GET_STATUS, PARAM_GET, RAYMAP_PROBE, THERMAL_LOG_READ, MEM_READ and SILLAGE_EXPORT end at once. IDENTIFY's
RESULT holds the version, BOOT, stepping and mode, and its image is that of Table 16-3; GET_STATUS's RESULT holds bytes
0x010 to 0x01B of its image, which is 512 bytes long and begins with the epochs, mode, conditions, throttle step, rotor
status and speed, phase error and angle of the state; PARAM_GET's the draft or active value of a defined PN, and
ST_BAD_PN otherwise. RAYMAP_PROBE of a READY slot gives s and the four v in RESULT and the image of R420, and of another
ends with ST_RAYMAP_EMPTY; that this refusal names the slot is the model's choice (log 74). THERMAL_LOG_READ gives the
number of entries and the newest 256 entries, oldest first. While memory takes requests, MEM_READ gives the bytes of its
range, and of a poisoned range ends with ST_MEM_UNCORR; while the memory point changes it waits. An export gives its bytes,
and beyond its log ends with ST_MEM_RANGE. Beside the reply nothing differs but what the image is written to: the host, or
the ingest area, outside whose written bytes every byte of memory reads as before. (R350, R398, R403, R412, R417, R418,
R420, R422, R473.) -/
def Obligations.ReadOutsChangeNothing : Prop :=
  (∀ (s : State) (p : Pkt), LightInv s → Accepts s 0x0101 p →
      EndsWith (.identify p) s 0x0101 p 0
        (leBytes 4 (mainVersion s).toNat ++ leBytes 4 s.pwr.boot ++ [Config.steppingByte 0, Config.steppingByte 1] ++
          [BitVec.ofNat 8 (modeCode s.cond.mode)]) [.mem]
        (ImageTo p ((List.range 12).map Config.serialByte ++ [0x46, 0x4A, 0x2D, 0x37, 0x31, 0x32, 0x38, 0x00] ++
          [Config.steppingByte 0, Config.steppingByte 1] ++ [0, 0] ++ leBytes 4 (mainVersion s).toNat ++
          leBytes 4 Config.fwBoot.toNat ++ leBytes 4 Config.fwService.toNat ++ leBytes 4 s.pwr.boot ++ leBytes 2 0x1F3C ++
          leBytes 2 0x7128 ++ leBytes 4 67108864 ++ leBytes 8 8589934592 ++ leBytes 8 0) s)) ∧
  (∀ (s : State) (p : Pkt), LightInv s → Accepts s 0x0102 p →
      EndsWith (.getStatus p) s 0x0102 p 0 (statusHead s) [.mem] (fun t => ∃ img, img.length = 512 ∧
        img.take 0x24 = leBytes 8 s.cfg.epoch ++ leBytes 8 ((s.cfg.snap.map (·.epoch)).getD 0) ++
          (leBytes 1 (modeCode s.cond.mode) ++ leBytes 1 (condBits s) ++
            leBytes 1 (bit s.hif.ready 0 + bit s.rot.litOk 1 + bit (s.cfg.draft.mode != s.cond.mode) 2) ++
            leBytes 1 s.therm.step ++ leBytes 4 (rotStatus s) ++ leBytes 4 (s.rot.speed16 % 2 ^ 20)) ++
          leBytes 4 (wrapTo 32 s.rot.phaseErr) ++ leBytes 4 s.rot.angle.toNat ∧
        statusHead s = (img.drop 0x10).take 12 ∧ ImageTo p img s t)) ∧
  (∀ (s : State) (p : Pkt), LightInv s → Accepts s 0x0105 p →
      (paramSpec (pf p 0x14 2) = none → EndsWith (.paramGet p) s 0x0105 p 0x0204 [] [] (fun _ => True)) ∧
      (∀ q, paramSpec (pf p 0x14 2) = some q → EndsWith (.paramGet p) s 0x0105 p 0
        (leBytes 4 (if q.commit = true ∧ pf p 0x16 1 = 1 then setParam s.cfg.draft (pf p 0x14 2) else par s (pf p 0x14 2)))
        [] (fun _ => True))) ∧
  (∀ (s : State) (p : Pkt), LightInv s → Accepts s 0x0212 p →
      (s.rmap.state.getD (pf p 0x14 1) .empty ≠ .ready →
        EndsWith (.raymapProbe p) s 0x0212 p 0x0230 (objResult 6 (pf p 0x14 1)) [] (fun _ => True)) ∧
      (∀ m r, s.rmap.state.getD (pf p 0x14 1) .empty = .ready → m = s.rmap.image.getD (pf p 0x14 1) [] →
        r = rayPoint m (pf p 0x16 2) (pf p 0x18 2) (pf p 0x1A 1) →
        EndsWith (.raymapProbe p) s 0x0212 p 0
          (leBytes 1 r.s ++ (List.range 4).flatMap (fun a => leBytes 1 (viewIndex m r a))) [.mem]
          (ImageTo p (leBytes 4 (wrapTo 32 r.n) ++ leBytes 2 r.u ++ leBytes 1 r.s ++ leBytes 1 2 ++ leBytes 4 r.xref ++
            leBytes 4 r.yref ++ (List.range 4).flatMap (fun a => leBytes 1 (viewIndex m r a)) ++ leBytes 4 (field m 0x18 4) ++
            List.replicate 8 0) s))) ∧
  (∀ (s : State) (p : Pkt), LightInv s → Accepts s 0x0703 p →
      EndsWith (.thermalLogRead p) s 0x0703 p 0 (leBytes 2 (min 256 s.therm.log.length)) [.mem]
        (ImageTo p (padTo 16384 ((s.therm.log.take 256).reverse.flatMap (fun e => padTo 64 e.bytes))) s)) ∧
  (∀ (s : State) (p : Pkt), LightInv s → Accepts s 0x0801 p →
      (s.mem.changing.isSome = true → GoesOn (.memRead p) s 0x0801 p [] (fun _ => True)) ∧
      (s.mem.changing = none → memPoisoned s.mem (pf p 0x18 8) (pf p 0x20 4) = true →
        EndsWith (.memRead p) s 0x0801 p 0x0540 [] [] (fun _ => True)) ∧
      (s.mem.changing = none → memPoisoned s.mem (pf p 0x18 8) (pf p 0x20 4) = false →
        EndsWith (.memRead p) s 0x0801 p 0 [] [.mem]
          (ImageTo p ((List.range (pf p 0x20 4)).map (fun i => memRead s.mem (pf p 0x18 8 + i))) s))) ∧
  (∀ (s : State) (p : Pkt), LightInv s → Accepts s 0x0901 p →
      ((if pf p 0x14 1 = 0 then 0x80000000 else 0x1E8000000) < pf p 0x18 8 + pf p 0x20 4 →
        EndsWith (.sillageExport p) s 0x0901 p 0x0208 [] [] (fun _ => True)) ∧
      (pf p 0x18 8 + pf p 0x20 4 ≤ (if pf p 0x14 1 = 0 then 0x80000000 else 0x1E8000000) →
        EndsWith (.sillageExport p) s 0x0901 p 0 (leBytes 4 (if p.addr = 0 then 0 else pf p 0x20 4)) [.mem]
          (ImageTo p (if pf p 0x14 1 = 0 then (List.range (pf p 0x20 4)).map (fun i => memRead s.mem (silBase + pf p 0x18 8 + i))
            else (List.range (pf p 0x20 4)).map (fun i => nandByte s (pf p 0x18 8 + i))) s)))

/-- An accepted MEM_WRITE into a range no lock covers ends at once with ST_OK: stacked memory is as a store of the
command's data at the address of the packet leaves it, so every byte outside those reads as before, and the commands in
flight that do not name it in their dependency field note its range. Into locked memory it ends with ST_PLANE_BUSY and
memory is unchanged. While the memory point changes it waits. (R422, R61, R193, R350.) -/
def Obligations.MemWriteStoresItsData : Prop :=
  ∀ (s : State) (p : Pkt), LightInv s → Accepts s 0x0802 p →
    (s.mem.changing.isSome = true → GoesOn (.memWrite p) s 0x0802 p [] (fun _ => True)) ∧
    (s.mem.changing = none → isLocked s (pf p 0x18 8) (pf p 0x20 4) = true →
      EndsWith (.memWrite p) s 0x0802 p 0x0112 [] [] (fun _ => True)) ∧
    (s.mem.changing = none → isLocked s (pf p 0x18 8) (pf p 0x20 4) = false →
      RunsTo (.memWrite p) s [.books, .blt, .events, .mem] (fun t => Replied s t 0x0802 p 0 [] ∧
        t.hif.flights = depDone (ptag p) true (noteRanges false (ptag p) [(pf p 0x18 8, pf p 0x20 4)] s.hif.flights) ∧
        t.blt = { s.blt with queue := bltDepDone t.hif.flights s.blt.queue } ∧
        t.mem = memStore (pf p 0x18 8) (pdata s p) s.mem ∧
        (s.mem.wf → ∀ a, a < pf p 0x18 8 ∨ pf p 0x18 8 + (pdata s p).length ≤ a → memRead t.mem a = memRead s.mem a)))

/-- An accepted COMMIT whose snapshot fails a check ends at once with the status of the first failing check and the
object it names, and the configuration is as it was. One whose snapshot passes goes on: it is the newest pending
commit, its snapshot is the draft set as the commit point names its buffers, and neither the draft set, the active set
nor the epoch shown changes; its number is one more than the last number given when it changes anything. Beside the
configuration only camera ports may start. (R23, R24, R25, R12.) -/
def Obligations.CommitTakesItsSnapshot : Prop :=
  (∀ (s : State) (p : Pkt), LightInv s → Accepts s 0x0103 p →
      (∀ r, commitChecks s (snapshotOf s) = some r →
        EndsWith (.commit p) s 0x0103 p r.status (objResult r.kind r.index) [] (fun _ => True)) ∧
      (commitChecks s (snapshotOf s) = none → GoesOn (.commit p) s 0x0103 p [.cfg, .acc] (fun t =>
        t.cfg.draft = s.cfg.draft ∧ t.cfg.active = s.cfg.active ∧ t.cfg.epoch = s.cfg.epoch ∧ t.cfg.cache = s.cfg.cache ∧
        t.cfg.params = s.cfg.params ∧ t.cfg.damage = s.cfg.damage ∧
        ∃ c, t.cfg.commits = s.cfg.commits ++ [c] ∧ c.tag = ptag p ∧ c.path = p.path ∧ c.snap.set = snapshotOf s ∧
          (c.noChange = true ↔ snapshotOf s = (s.cfg.snap.map (·.set)).getD s.cfg.active) ∧
          (c.noChange = false → c.epoch = s.cfg.nextEpoch + 1) ∧
          t.cfg.nextEpoch = if c.noChange then s.cfg.nextEpoch else s.cfg.nextEpoch + 1)))

/-- An accepted SCENE_LOAD waits for the Scene Decoder; RAYMAP_LOAD makes its slot LOADING; GC_WRITE and GC_READ put
their exchange at the end of the host exchanges; BLIT_FILL, BLIT_COPY, BLIT_OUTLINE and BLIT_CLIP_SET put their
descriptor at the end of the Blitter's queue; MEM_TEST goes on with nothing else changed. Each is started and in
flight, no reply is written, and no other part of the state changes. (R95, R43, R421, R191, R422, R192.) -/
def Obligations.QueuedCommandsTakeTheirPlace : Prop :=
  (∀ (s : State) (p : Pkt), LightInv s → Accepts s 0x0201 p → GoesOn (.sceneLoad p) s 0x0201 p [.sdec] (fun t =>
      t.sdec = { s.sdec with waiting := s.sdec.waiting ++ [ptag p] })) ∧
  (∀ (s : State) (p : Pkt), LightInv s → Accepts s 0x0210 p → GoesOn (.raymapLoad p) s 0x0210 p [.rmap] (fun t =>
      t.rmap = { s.rmap with state := s.rmap.state.set (pf p 0x14 1) .loading })) ∧
  (∀ (s : State) (p : Pkt), LightInv s → Accepts s 0x0412 p → GoesOn (.gcWrite p) s 0x0412 p [.gcl] (fun t =>
      t.gcl = { s.gcl with host := s.gcl.host ++ [
        { link := pf p 0x14 1, addr := pf p 0x15 1, reg := pf p 0x16 1, data := BitVec.ofNat 16 (pf p 0x18 2)
          kind := .write, tag := some (ptag p) }] })) ∧
  (∀ (s : State) (p : Pkt), LightInv s → Accepts s 0x0413 p → GoesOn (.gcRead p) s 0x0413 p [.gcl] (fun t =>
      t.gcl = { s.gcl with host := s.gcl.host ++ [
        { link := pf p 0x14 1, addr := pf p 0x15 1, reg := pf p 0x16 1, kind := .read, tag := some (ptag p) }] })) ∧
  (∀ (s : State) (p : Pkt), LightInv s → Accepts s 0x0501 p → GoesOn (.blitFill p) s 0x0501 p [.blt] (fun t =>
      t.blt = { s.blt with queue := s.blt.queue ++ [{ tag := ptag p, op := 0x0501, desc := pbytes p 0x18 40, dep := .met }] })) ∧
  (∀ (s : State) (p : Pkt), LightInv s → Accepts s 0x0502 p → GoesOn (.blitCopy p) s 0x0502 p [.blt] (fun t =>
      t.blt = { s.blt with queue := s.blt.queue ++ [{ tag := ptag p, op := 0x0502, desc := pbytes p 0x18 40, dep := .met }] })) ∧
  (∀ (s : State) (p : Pkt), LightInv s → Accepts s 0x0503 p → GoesOn (.blitOutline p) s 0x0503 p [.blt] (fun t =>
      t.blt = { s.blt with queue := s.blt.queue ++ [{ tag := ptag p, op := 0x0503, desc := pbytes p 0x18 40, dep := .met }] })) ∧
  (∀ (s : State) (p : Pkt), LightInv s → Accepts s 0x0504 p → GoesOn (.blitClipSet p) s 0x0504 p [.blt] (fun t =>
      t.blt = { s.blt with queue := s.blt.queue ++ [{ tag := ptag p, op := 0x0504, desc := pbytes p 0x14 16, dep := .met }] })) ∧
  (∀ (s : State) (p : Pkt), LightInv s → Accepts s 0x0803 p → GoesOn (.memTest p) s 0x0803 p [] (fun _ => True))

/-- With no staging running, FW_STAGE of the running slot ends with ST_FW_SLOT and FW_STAGE of the other slot goes on:
that slot is invalid until its image has been checked, and the other keeps its own. Behind another staging it waits.
FW_ACTIVATE selects a slot whose image verifies for the next cold episode and ends with ST_FW_SIGNATURE otherwise; the
running slot stays. SERVICE_STORE puts a descriptor that may be stored into its slot and refuses another with
ST_SERVICE_DESC; SERVICE_SELECT selects a slot that holds one. That a FW_STAGE waits behind another is the model's
choice (log 27). (R423, R426, R458.) -/
def Obligations.FirmwareAndServiceSlots : Prop :=
  (∀ (s : State) (p : Pkt), LightInv s → Accepts s 0x0B01 p →
      (s.pwr.fwTag.isSome = true → GoesOn (.fwStage p) s 0x0B01 p [] (fun _ => True)) ∧
      (s.pwr.fwTag = none → pf p 0x14 1 = s.pwr.runningSlot → EndsWith (.fwStage p) s 0x0B01 p 0x0209 [] [] (fun _ => True)) ∧
      (s.pwr.fwTag = none → pf p 0x14 1 ≠ s.pwr.runningSlot → GoesOn (.fwStage p) s 0x0B01 p [.pwr] (fun t =>
        t.pwr = { s.pwr with
          fwTag := some (ptag p, pf p 0x14 1, pdata s p), slots := t.pwr.slots } ∧
        (∀ n, slotGood t n = if n = pf p 0x14 1 then false else slotGood s n)))) ∧
  (∀ (s : State) (p : Pkt), LightInv s → Accepts s 0x0B02 p →
      (slotGood s (pf p 0x14 1) = true → EndsWith (.fwActivate p) s 0x0B02 p 0 [] [.pwr] (fun t =>
        t.pwr = { s.pwr with selected := pf p 0x14 1 })) ∧
      (slotGood s (pf p 0x14 1) = false → EndsWith (.fwActivate p) s 0x0B02 p 0x0601 [] [] (fun _ => True))) ∧
  (∀ (s : State) (p : Pkt), LightInv s → Accepts s 0x0F01 p →
      (svcStorable (pdata s p) = true → EndsWith (.serviceStore p) s 0x0F01 p 0 [] [.pwr] (fun t =>
        t.pwr = { s.pwr with svcSlots := s.pwr.svcSlots.set (pf p 0x14 1) (pdata s p) })) ∧
      (svcStorable (pdata s p) = false → EndsWith (.serviceStore p) s 0x0F01 p 0x0441 [] [] (fun _ => True))) ∧
  (∀ (s : State) (p : Pkt), LightInv s → Accepts s 0x0F02 p →
      (s.pwr.svcSlots.getD (pf p 0x14 1) [] ≠ [] → EndsWith (.serviceSelect p) s 0x0F02 p 0 [] [.pwr] (fun t =>
        t.pwr = { s.pwr with svcSel := some (pf p 0x14 1) })) ∧
      (s.pwr.svcSlots.getD (pf p 0x14 1) [] = [] → EndsWith (.serviceSelect p) s 0x0F02 p 0x0441 [] [] (fun _ => True)))

/-- While a CALIBRATE runs a CAL_LOAD waits. Otherwise a file of the wrong length, MAGIC or CHECK ends with
ST_CAL_FORMAT and changes nothing, and a good one ends with ST_OK and sets the 132 zone values and the 16 temperature
values together, every other parameter kept. CAL_SAVE ends with ST_OK; its image is the file of Table 18-4 with the
values in force, the module's serial number and FLAGS bit 1 set, whose bit 0, and whose time before any measurement, are
free values (log 2). CALIBRATE goes on: with none running it is the one that runs, for the four spares and then the zones
of its mask in ascending order, or for the enabled inputs of TS_MASK, whose readings are held; behind another it waits,
which is the model's choice (log 15). (R478, R480, R481, R482, R483, R484.) -/
def Obligations.CalibrationCommands : Prop :=
  (∀ (s : State) (p : Pkt), LightInv s → Accepts s 0x0A01 p →
      (s.therm.calRun.isSome = true → GoesOn (.calLoad p) s 0x0A01 p [.therm] (fun t =>
        t.therm = { s.therm with calWait := s.therm.calWait ++ [ptag p] })) ∧
      (s.therm.calRun = none → ¬ ((pdata s p).length = 628 ∧ field (pdata s p) 0 2 = 0x4C43 ∧
          field (pdata s p) 0x270 4 = (crc32c ((pdata s p).take 0x270)).toNat) →
        EndsWith (.calLoad p) s 0x0A01 p 0x0440 [] [] (fun _ => True)) ∧
      (s.therm.calRun = none → (pdata s p).length = 628 → field (pdata s p) 0 2 = 0x4C43 →
          field (pdata s p) 0x270 4 = (crc32c ((pdata s p).take 0x270)).toNat →
        EndsWith (.calLoad p) s 0x0A01 p 0 [] [.cfg, .therm] (fun t =>
          (∀ k, k < 132 → par t (0xA000 + k) = field (pdata s p) (0x20 + 4 * k) 4) ∧
          (∀ k, k < 16 → par t (0xA100 + k) = field (pdata s p) (0x230 + 4 * k) 4) ∧
          (∀ pn, (pn < 0xA000 ∨ 0xA084 ≤ pn) → (pn < 0xA100 ∨ 0xA110 ≤ pn) → paramWord t pn = paramWord s pn) ∧
          t.cfg = { s.cfg with params := t.cfg.params } ∧
          t.therm = { s.therm with calTime := some (field (pdata s p) 0x10 4) }))) ∧
  (∀ (s : State) (p : Pkt), LightInv s → Accepts s 0x0A02 p →
      EndsWith (.calSave p) s 0x0A02 p 0 [] [.freeCtr, .mem] (fun t => ∃ v time body, v < 2 ∧
        (∀ c, s.therm.calTime = some c → time = c) ∧
        body = leBytes 2 0x4C43 ++ [0x01] ++ leBytes 1 (2 + v) ++ (List.range 12).map Config.serialByte ++ leBytes 4 time ++
          List.replicate 12 0 ++ (List.range 132).flatMap (fun k => leBytes 4 (par s (0xA000 + k))) ++
          (List.range 16).flatMap (fun k => leBytes 4 (par s (0xA100 + k))) ∧
        ImageTo p (body ++ leBytes 4 (crc32c body).toNat) s t)) ∧
  (∀ (s : State) (p : Pkt), LightInv s → Accepts s 0x0A03 p →
      (s.therm.calRun = none → GoesOn (.calibrate p) s 0x0A03 p [.therm] (fun t =>
        (∃ r, t.therm.calRun = some r ∧ r.tag = ptag p ∧
          (pf p 0x14 1 = 0 → r.item = 0 ∧ r.spares = decide (zonesInUse s ≤ 96) ∧ t.therm.heldRead = s.therm.heldRead ∧
            r.items = [128, 129, 130, 131] ++ bitList (leNat ((pdata s p).take 16)) 128 ∧
            r.zones = bitList (leNat ((pdata s p).take 16)) 128) ∧
          (pf p 0x14 1 ≠ 0 → r.item = 1 ∧ t.therm.heldRead = r.items ∧
            r.items = (bitList (pf p 0x16 2) 16).filter (tempEnabled s))) ∧
        t.therm = { s.therm with calRun := t.therm.calRun, heldRead := t.therm.heldRead })) ∧
      (s.therm.calRun.isSome = true → GoesOn (.calibrate p) s 0x0A03 p [] (fun _ => True)))

/-- SILLAGE_MARK ends at once with ST_OK and its eight bytes and its tag are the last mark that waits. SILLAGE_FLUSH
in PARKED, or after the seal of a PARKED or COAST flush, ends at once with 0 bytes; while a flush runs it goes on and
waits; otherwise its own flush begins: the record is sealed while the Recorder runs, and nothing differs but the
Recorder and stacked memory. That it also ends with 0 bytes after such a seal, and waits behind another flush, is the
model's choice (log 16). (R520, R528, R516, R522.) -/
def Obligations.SillageMarksAndFlushes : Prop :=
  (∀ (s : State) (p : Pkt), LightInv s → Accepts s 0x0903 p → EndsWith (.sillageMark p) s 0x0903 p 0 [] [.sil] (fun t =>
      t.sil = { s.sil with marks := s.sil.marks ++ [{ mark := pbytes p 0x18 8, tag := ptag p }] })) ∧
  (∀ (s : State) (p : Pkt), LightInv s → Accepts s 0x0904 p →
      ((s.cond.mode = .parked ∨ s.sil.stopped = true) →
        EndsWith (.sillageFlush p) s 0x0904 p 0 [0, 0, 0, 0] [] (fun _ => True)) ∧
      (s.cond.mode ≠ .parked → s.sil.stopped = false → s.sil.flush.isSome = true →
        GoesOn (.sillageFlush p) s 0x0904 p [] (fun _ => True)) ∧
      (s.cond.mode ≠ .parked → s.sil.stopped = false → s.sil.flush = none →
        GoesOn (.sillageFlush p) s 0x0904 p [.sil, .mem] (fun t =>
          (∃ j, t.sil.flush = some j ∧ j.cause = .command ∧ j.tag = some (ptag p)) ∧ t.sil.stopped = false ∧
          t.sil.nand = s.sil.nand ∧ t.sil.running = s.sil.running ∧
          (s.sil.running = false → t.mem = s.mem ∧ t.sil.rseq = s.sil.rseq) ∧
          (s.sil.running = true → t.sil.sealSeq = (s.sil.sealSeq + 1) % 2 ^ 32 ∧ t.sil.rseq = (s.sil.rseq + 1) % 2 ^ 32 ∧
            (s.mem.wf → ∀ a, a < silBase ∨ silBase + 64 * (2 ^ 20 + 1) ≤ a → s.sil.recHead < recUnits →
              memRead t.mem a = memRead s.mem a)))))

/-- With no step pending TIME_STEP_ACCEPT and TIME_STEP_DECLINE end with ST_TIME_NO_PENDING. An accepted step ends
with ST_OK and the pending offset in RESULT, TSEQ one higher, and the Time Unit acquiring: at once the time is moved
by the offset, and by slew the time stands and the slew of that offset begins. A declined step is pending no more and
the time goes on. TIME_SET is refused with ST_TIME_MASTER while a master is selected; otherwise the time is the one
given and counts as set. (R371, R373, R374.) -/
def Obligations.TimeCommands : Prop :=
  (∀ (s : State) (p : Pkt), LightInv s → Accepts s 0x0601 p →
      (s.tu.pendStep = false → EndsWith (.timeStepAccept p) s 0x0601 p 0x011B [] [] (fun _ => True)) ∧
      (s.tu.pendStep = true → pf p 0x14 1 = 0 →
        EndsWith (.timeStepAccept p) s 0x0601 p 0 (leBytes 8 (wrapTo 64 s.tu.pendOff)) [.tu, .ctrs] (fun t =>
          t.tu.time = timeAdd s.tu.time (-(s.tu.pendOff * 65536)) ∧ t.tu.pendStep = false ∧ t.tu.state = .acquiring ∧
          t.tu.tseq = (s.tu.tseq + 1) % 256 ∧ t.tu.slewing = false ∧ t.tu.master = s.tu.master ∧ Raised 164 t)) ∧
      (s.tu.pendStep = true → pf p 0x14 1 ≠ 0 →
        EndsWith (.timeStepAccept p) s 0x0601 p 0 (leBytes 8 (wrapTo 64 s.tu.pendOff)) [.tu] (fun t =>
          t.tu.time = s.tu.time ∧ t.tu.pendStep = false ∧ t.tu.state = .acquiring ∧ t.tu.tseq = (s.tu.tseq + 1) % 256 ∧
          t.tu.slewing = true ∧ t.tu.slewLeft = -(s.tu.pendOff * 1000000000) ∧ t.tu.slewPpb = par s 0x6007 ∧
          t.tu.master = s.tu.master ∧ t.tu.trig = s.tu.trig))) ∧
  (∀ (s : State) (p : Pkt), LightInv s → Accepts s 0x0602 p →
      (s.tu.pendStep = false → EndsWith (.timeStepDecline p) s 0x0602 p 0x011B [] [] (fun _ => True)) ∧
      (s.tu.pendStep = true → EndsWith (.timeStepDecline p) s 0x0602 p 0 [] [.tu] (fun t =>
        t.tu = { s.tu with pendStep := false, pendOff := 0, outliers := [], declined := true }))) ∧
  (∀ (s : State) (p : Pkt), LightInv s → Accepts s 0x0603 p →
      (s.tu.master.isSome = true → EndsWith (.timeSet p) s 0x0603 p 0x011C [] [] (fun _ => True)) ∧
      (s.tu.master = none → EndsWith (.timeSet p) s 0x0603 p 0 [] [.tu, .ctrs] (fun t =>
        t.tu.time = timeUnpack (pf p 0x18 12) ∧ t.tu.timeSet = true ∧ t.tu.pendStep = false ∧ t.tu.state = s.tu.state ∧
        t.tu.tseq = (s.tu.tseq + 1) % 256 ∧ t.tu.master = none ∧ Raised 164 t)))

/-- TRIGGER_ARM of a bad descriptor ends with ST_TRIG_PARAM and of a one-shot whose edge is less than 10 µs away with
ST_TRIG_PAST, and nothing changes; otherwise it ends with ST_OK, the descriptor of its output is the 40 bytes given,
the output is armed unless MODE is 0, and a pulse in progress goes on. TRIGGER_STOP clears the descriptor of its
output, a pulse in progress apart. CAPTURE_CONFIG writes the enable, edge and filter of its input. Every other output
and input keeps its own. (R379, R375, R380.) -/
def Obligations.TriggerCommands : Prop :=
  (∀ (s : State) (p : Pkt), LightInv s → Accepts s 0x0610 p →
      (trigBad (pbytes p 0x18 40) = true → EndsWith (.triggerArm p) s 0x0610 p 0x0280 [] [] (fun _ => True)) ∧
      (trigBad (pbytes p 0x18 40) = false → byteAt (pbytes p 0x18 40) 0 = 1 →
          edgeTime { desc := pbytes p 0x18 40 } 0 < s.tu.time + 10000 * nsUnit →
        EndsWith (.triggerArm p) s 0x0610 p 0x0281 [] [] (fun _ => True)) ∧
      (trigBad (pbytes p 0x18 40) = false → (byteAt (pbytes p 0x18 40) 0 = 1 →
          s.tu.time + 10000 * nsUnit ≤ edgeTime { desc := pbytes p 0x18 40 } 0) →
        EndsWith (.triggerArm p) s 0x0610 p 0 [] [.tu] (fun t =>
          (∃ k, trigOf t (pf p 0x14 1) = { trigOf s (pf p 0x14 1) with
              desc := pbytes p 0x18 40, armed := byteAt (pbytes p 0x18 40) 0 != 0, k := k, sent := 0, passes := 0
              due := false, rearmed := (trigOf s (pf p 0x14 1)).active } ∧ (byteAt (pbytes p 0x18 40) 0 ≠ 2 → k = 0)) ∧
          (∀ m, m ≠ pf p 0x14 1 → trigOf t m = trigOf s m) ∧ t.tu = { s.tu with trig := t.tu.trig }))) ∧
  (∀ (s : State) (p : Pkt), LightInv s → Accepts s 0x0611 p → EndsWith (.triggerStop p) s 0x0611 p 0 [] [.tu] (fun t =>
      trigOf t (pf p 0x14 1) = { trigOf s (pf p 0x14 1) with desc := [], armed := false, due := false } ∧
      (∀ m, m ≠ pf p 0x14 1 → trigOf t m = trigOf s m) ∧ t.tu = { s.tu with trig := t.tu.trig })) ∧
  (∀ (s : State) (p : Pkt), LightInv s → Accepts s 0x0612 p → EndsWith (.captureConfig p) s 0x0612 p 0 [] [.tu] (fun t =>
      tget t.tu.caps (pf p 0x14 1) {} =
        { enable := pf p 0x15 1 == 1, edge := pf p 0x16 1, filter := pf p 0x17 1 } ∧
      (∀ n, n ≠ pf p 0x14 1 → tget t.tu.caps n {} = tget s.tu.caps n {}) ∧ t.tu = { s.tu with caps := t.tu.caps }))

/-- Outside the hold-off DEBUG_CHALLENGE ends at once with a new nonce, which awaits its one attempt; in the hold-off
it waits. DEBUG_UNLOCK uses the nonce up: with the right response it ends with ST_OK and the lock is open; with any
other, or with no nonce, it ends with ST_DEBUG_KEY, the hold-off begins, source 251 is raised and the failure is
counted, and the lock stays as it was. DEBUG_LOCK ends with ST_OK and the lock is closed. No halted core, breakpoint
or register of a core changes. (R424, R533.) -/
def Obligations.DebugLockCommands : Prop :=
  (∀ (s : State) (p : Pkt), LightInv s → Accepts s 0x0B10 p →
      (s.dbg.holdoff = true → GoesOn (.debugChallenge p) s 0x0B10 p [] (fun _ => True)) ∧
      (s.dbg.holdoff = false →
        EndsWith (.debugChallenge p) s 0x0B10 p 0 (leBytes 8 (Config.nonce s.dbg.nonces).toNat) [.dbg] (fun t =>
          t.dbg = { s.dbg with nonce := some s.dbg.nonces, nonces := s.dbg.nonces + 1 }))) ∧
  (∀ (s : State) (p : Pkt), LightInv s → Accepts s 0x0B11 p →
      (∀ n, s.dbg.nonce = some n → pbytes p 0x18 32 = dbgAnswer n →
        EndsWith (.debugUnlock p) s 0x0B11 p 0 [] [.dbg, .bb, .sil] (fun t =>
          t.dbg = { s.dbg with nonce := none, unlocked := true } ∧ t.sil = { s.sil with frameOpen := t.sil.frameOpen })) ∧
      ((∀ n, s.dbg.nonce = some n → pbytes p 0x18 32 ≠ dbgAnswer n) →
        EndsWith (.debugUnlock p) s 0x0B11 p 0x0602 [] [.dbg, .bb, .ctrs] (fun t =>
          t.dbg = { s.dbg with nonce := none, holdoff := true } ∧ Counted .dbgUnlockFail 1 s t ∧ Raised 251 t))) ∧
  (∀ (s : State) (p : Pkt), LightInv s → Accepts s 0x0B12 p → EndsWith (.debugLock p) s 0x0B12 p 0 [] [.dbg, .bb] (fun t =>
      t.dbg = { s.dbg with unlocked := false } ∧ (s.dbg.unlocked = false → t.bb = s.bb) ∧
      (s.dbg.unlocked = true → Raised 250 t)))

/-- An accepted MODE_SET that names the mode in force ends with ST_OK and no effect; between LIGHTFIELD and FLAT it
writes the draft set's mode and ends with ST_OK; while a commit or a switch is pending any other change waits; entry
to LIGHTFIELD whose draft names no READY slot ends with the status of that check; otherwise the entry sequence starts
with the first step of Table 22-4 when that step has something to do: the mode in force stays, and the reply waits for
the new mode. (R415, R558, R564, R263.) -/
def Obligations.ModeSetAnswersOrStarts : Prop :=
  ∀ (s : State) (p : Pkt), LightInv s → Accepts s 0x0106 p → s.cond.seq = none →
    (modeOf (pf p 0x14 1) = s.cond.mode →
      EndsWith (.modeSet p) s 0x0106 p 0 [BitVec.ofNat 8 (modeCode s.cond.mode)] [] (fun _ => True)) ∧
    (((modeOf (pf p 0x14 1) = .flat ∧ s.cond.mode = .lightfield) ∨ (modeOf (pf p 0x14 1) = .lightfield ∧ s.cond.mode = .flat)) →
      EndsWith (.modeSet p) s 0x0106 p 0 [BitVec.ofNat 8 (modeCode s.cond.mode)] [.cfg] (fun t =>
        t.cfg = { s.cfg with draft := { s.cfg.draft with mode := modeOf (pf p 0x14 1) } })) ∧
    (modeOf (pf p 0x14 1) ≠ s.cond.mode → stagedChange s.cond.mode (modeOf (pf p 0x14 1)) = false →
      (mustWait s = true → GoesOn (.modeSet p) s 0x0106 p [] (fun _ => True)) ∧
      (mustWait s = false → ∀ r, modeOf (pf p 0x14 1) = .lightfield →
        raymapCheck s { s.cfg.draft with mode := .lightfield } = some r →
        EndsWith (.modeSet p) s 0x0106 p r.status [BitVec.ofNat 8 (modeCode s.cond.mode)] [] (fun _ => True)) ∧
      (mustWait s = false → (modeOf (pf p 0x14 1) = .lightfield →
          raymapCheck s { s.cfg.draft with mode := .lightfield } = none) →
        ∀ c cs, entrySteps s.cond.mode (modeOf (pf p 0x14 1)) = c :: cs →
        stepIdle c (modeOf (pf p 0x14 1)) { s with cond := { s.cond with
          svcTiming := if modeOf (pf p 0x14 1) = .service then svcDeep (svcBytes s) else s.cond.svcTiming } } = false →
        GoesOn (.modeSet p) s 0x0106 p [.cond, .light, .ray, .sco, .cfg, .mem, .freeCtr, .clk, .plt, .gcl] (fun t =>
          t.cond = { s.cond with
            seq := some {
              fromM := s.cond.mode, toM := modeOf (pf p 0x14 1), steps := c :: cs, tag := some (ptag p), begun := true }
            svcTiming := if modeOf (pf p 0x14 1) = .service then svcDeep (svcBytes s) else s.cond.svcTiming } ∧
          t.mem.cells = s.mem.cells ∧ t.cfg.draft = s.cfg.draft ∧ t.cfg.active = s.cfg.active ∧ t.cfg.commits = s.cfg.commits)))

/-- FAULT_CLEAR with FAULT not set ends with ST_OK and no effect; while the rotor turns under control, an enabled
crack loop is not OK or a memory channel is marked failed, it ends with ST_FAULT_HOLD and nothing changes; otherwise
FAULT and the cause bits are cleared, unless a clock is still lost. THERMAL_CLEAR with the condition not set ends with
ST_OK and no effect; with an enabled input not valid or not below its re-arm level it ends with ST_THERMAL_HOT and
nothing changes; otherwise the condition is cleared and a KIND 2 entry is the newest of the thermal log. RESULT names
the causes before the clear, and the inputs that block it. A clear that passes may be followed by the entry to PARKED,
which ends every Blitter command still queued. That FAULT_CLEAR clears every cause bit is the model's
reading (log 26). (R416, R474, R237, R308, R560.) -/
def Obligations.ClearsFollowTheirConditions : Prop :=
  (∀ (s : State) (p : Pkt), LightInv s → Accepts s 0x0107 p →
      (s.cond.fault = false → EndsWith (.faultClear p) s 0x0107 p 0
        (leBytes 4 s.rot.cause.toNat ++ leBytes 4 s.pnl.cause.toNat) [] (fun _ => True)) ∧
      (s.cond.fault = true → (¬ (s.rot.state = .stopped ∨ s.rot.state = .freewheel) ∨ crackBad s = true ∨ s.mem.chanFail ≠ 0) →
        EndsWith (.faultClear p) s 0x0107 p 0x0107 (leBytes 4 s.rot.cause.toNat ++ leBytes 4 s.pnl.cause.toNat) [] (fun _ => True)) ∧
      (s.cond.fault = true → (s.rot.state = .stopped ∨ s.rot.state = .freewheel) → crackBad s = false → s.mem.chanFail = 0 →
        clockStillLost s = false →
        ClearsWith (.faultClear p) s 0x0107 p (leBytes 4 s.rot.cause.toNat ++ leBytes 4 s.pnl.cause.toNat)
          [.cond, .rot, .pnl, .bb, .light, .mem, .cfg, .sil, .sco] (fun t =>
          t.cond.fault = false ∧ t.cond.shutdown = s.cond.shutdown ∧ t.cond.coast = s.cond.coast ∧ t.rot.cause = 0 ∧
          t.pnl.cause = 0 ∧ t.mem.cells = s.mem.cells ∧
          (s.cond.mode = .parked → s.cond.seq = none → t.cond = { s.cond with fault := false } ∧
            t.rot.state = s.rot.state ∧ t.mem = s.mem ∧ t.cfg = s.cfg ∧ t.sil = s.sil)))) ∧
  (∀ (s : State) (p : Pkt), LightInv s → Accepts s 0x0701 p →
      (s.cond.shutdown = false → EndsWith (.thermalClear p) s 0x0701 p 0 (leBytes 2 (remoteHot s)) [] (fun _ => True)) ∧
      (s.cond.shutdown = true → inMask (inHot s) ≠ 0 →
        EndsWith (.thermalClear p) s 0x0701 p 0x0108 (leBytes 2 (remoteBlocking s)) [] (fun _ => True)) ∧
      (s.cond.shutdown = true → inMask (inHot s) = 0 →
        ClearsWith (.thermalClear p) s 0x0701 p [0, 0]
          [.cond, .therm, .freeCtr, .rot, .light, .mem, .cfg, .sil, .sco, .bb] (fun t =>
          t.cond.shutdown = false ∧ t.cond.fault = s.cond.fault ∧ t.therm.rearmed = false ∧
          t.therm.logSeq = (s.therm.logSeq + 1) % 2 ^ 32 ∧
          (∃ e, t.therm.log = e :: s.therm.log.take 319 ∧ byteAt e.bytes 3 = 2) ∧ t.mem.cells = s.mem.cells)))

/-- LINK_TRAIN waits for the next revolution start in LIGHTFIELD and FLAT while the angle is valid; elsewhere, with no
other waiting, training begins at once and what it overlaps is dark. LINK_LOOPBACK runs unless another does: the lanes
are in L0, no row is sent over it (the model's choice, log 78), and test 2 sends its packets on the lanes of its mask. With no
other PANEL_POWER waiting, ON = 1 starts power-on from OFF, waits for the crack loops, or for a discharge, and ends at
once from ON; ON = 0 starts the discharge from ON and ends at once from OFF. ROTOR_START and ROTOR_STOP move the rotor
by the rows of Table 9-4, a start of a drum that turns below 60 rpm through STOPPED; a start in RUN and a stop in STOPPED
end at once. (R283, R286, R570, R302, R304, R231.) -/
def Obligations.LinkPanelAndRotorCommands : Prop :=
  (∀ (s : State) (p : Pkt), LightInv s → Accepts s 0x0410 p →
      (((s.cond.mode = .lightfield ∨ s.cond.mode = .flat) ∧ s.rot.angleValid = true) ∨ s.plt.state = .training →
        GoesOn (.linkTrain p) s 0x0410 p [.plt] (fun t =>
          t.plt = { s.plt with trainWait := some (s.plt.trainWait.getD (ptag p)) })) ∧
      (¬ (((s.cond.mode = .lightfield ∨ s.cond.mode = .flat) ∧ s.rot.angleValid = true) ∨ s.plt.state = .training) →
        trainWaiting s = [] →
        GoesOn (.linkTrain p) s 0x0410 p [.plt, .gcl, .sco, .light] (fun t =>
          t.plt.state = .training ∧ t.plt.trainFor = 2 ∧ t.plt.trainWait = none ∧ t.sco.linkDark = true ∧
          t.sco.scanning = false ∧ t.bl.lit = List.replicate 8 false))) ∧
  (∀ (s : State) (p : Pkt), LightInv s → Accepts s 0x0411 p →
      (s.plt.loopTag = none → GoesOn (.linkLoopback p) s 0x0411 p [.plt, .sco, .light] (fun t =>
        t.plt = { s.plt with
          state := .l0, loopBusy := true, loopTag := some (ptag p), loopFail := 0, loopRes := none
          reps := pf p 0x18 4
          packets := (if pf p 0x14 1 = 2 then lanesOf (loopMask s p) else []).map (fun l =>
            { link := l, bits := polarize s l (trainingBits l) }) } ∧
        t.sco.scanning = false ∧ t.sco.barred = true ∧ t.bl.lit = List.replicate 8 false)) ∧
      (s.plt.loopTag.isSome = true → GoesOn (.linkLoopback p) s 0x0411 p [] (fun _ => True))) ∧
  (∀ (s : State) (p : Pkt), LightInv s → Accepts s 0x0414 p → s.pnl.cmds = [] →
      (pf p 0x14 1 = 1 → s.pnl.state = .on → EndsWith (.panelPower p) s 0x0414 p 0 [2] [] (fun _ => True)) ∧
      (pf p 0x14 1 = 1 → s.pnl.state = .off → crackBad s = false → GoesOn (.panelPower p) s 0x0414 p [.pnl] (fun t =>
        t.pnl = { s.pnl with
          cmds := [ptag p], state := .powering, step := 2, waitReady := true, waitCrack := false, delay := false
          auxPnl := true, dischStep := 0, powerAfter := false })) ∧
      (pf p 0x14 1 = 1 → s.pnl.state = .off → crackBad s = true → GoesOn (.panelPower p) s 0x0414 p [.pnl] (fun t =>
        t.pnl = { s.pnl with cmds := [ptag p], waitCrack := true })) ∧
      (pf p 0x14 1 = 1 → s.pnl.state = .discharging → GoesOn (.panelPower p) s 0x0414 p [.pnl] (fun t =>
        t.pnl = { s.pnl with cmds := [ptag p], powerAfter := true })) ∧
      (pf p 0x14 1 = 1 → s.pnl.state = .powering → GoesOn (.panelPower p) s 0x0414 p [.pnl] (fun t =>
        t.pnl = { s.pnl with cmds := [ptag p] })) ∧
      (pf p 0x14 1 = 0 → s.pnl.state = .off → EndsWith (.panelPower p) s 0x0414 p 0 [0] [] (fun _ => True)) ∧
      (pf p 0x14 1 = 0 → s.pnl.state = .on → s.plt.loopRes = none → startedOf s 0x0410 = [] →
        GoesOn (.panelPower p) s 0x0414 p [.pnl, .gcl, .plt, .light] (fun t =>
          t.pnl.state = .discharging ∧ t.pnl.dischStep = 1 ∧ t.pnl.cmds = [ptag p] ∧ t.bl.lit = List.replicate 8 false)) ∧
      (pf p 0x14 1 = 0 → s.pnl.state = .on →
        Happens (.panelPower p) s [.books, .blt, .bb, .pnl, .gcl, .plt, .light, .sco] (fun t =>
          t.pnl.state = .discharging ∧ t.pnl.dischStep = 1 ∧ t.pnl.cmds = [ptag p] ∧ t.bl.lit = List.replicate 8 false)) ∧
      (pf p 0x14 1 = 0 → (s.pnl.state = .discharging ∨ s.pnl.state = .powering) →
        GoesOn (.panelPower p) s 0x0414 p [.pnl] (fun t => t.pnl = { s.pnl with cmds := [ptag p] }))) ∧
  (∀ (s : State) (p : Pkt), LightInv s → Accepts s 0x0420 p → startedOf s 0x0420 = [] → startedOf s 0x0421 = [] →
      (s.rot.state = .run → EndsWith (.rotorStart p) s 0x0420 p 0 [5] [.rot] (fun t =>
        t.rot = { s.rot with req := .start })) ∧
      (s.rot.state ≠ .run → GoesOn (.rotorStart p) s 0x0420 p [.rot, .light] (fun t =>
        t.rot.req = .start ∧ t.rot.angle = s.rot.angle ∧ t.rot.cause = s.rot.cause ∧
        (s.rot.state = .freewheel → s.rot.speed16 < 60 * 16 → Raised 24 t) ∧
        t.rot.state = match s.rot.state with
          | .stopped => .align
          | .freewheel => if s.rot.speed16 < 60 * 16 then .align else .catching
          | .brake => .spinUp
          | x => x))) ∧
  (∀ (s : State) (p : Pkt), LightInv s → Accepts s 0x0421 p → startedOf s 0x0420 = [] → startedOf s 0x0421 = [] →
      (s.rot.state = .stopped → EndsWith (.rotorStop p) s 0x0421 p 0 [0] [] (fun _ => True)) ∧
      ((s.rot.state = .align ∨ (s.rot.state = .freewheel ∧ s.rot.speed16 < 60 * 16)) →
        EndsWith (.rotorStop p) s 0x0421 p 0 [0] [.rot, .light] (fun t => t.rot.state = .stopped ∧ Raised 24 t)) ∧
      (s.rot.state ≠ .stopped → s.rot.state ≠ .align → ¬ (s.rot.state = .freewheel ∧ s.rot.speed16 < 60 * 16) →
        GoesOn (.rotorStop p) s 0x0421 p [.rot, .light, .ctrs] (fun t =>
          t.rot.req = .stop ∧ t.rot.angle = s.rot.angle ∧
          t.rot.state = if s.rot.state = .spinUp ∨ s.rot.state = .run then .brake
            else if s.rot.state = .freewheel ∧ 300 * 16 ≤ s.rot.n0 then .catching else s.rot.state)))

/-- For every JT-40 request frame: outside SERVICE, before READY, in a reset episode or with a wrong sync byte it has
no effect. Otherwise a wrong CRC answers CRC, a right one while an entry sequence runs answers BUSY, and then a length
that is not the command's answers RANGE; each answer is one reply frame and nothing else changes. That a frame in a
sequence answers BUSY and a wrong length RANGE is the model's reading (log 25). (R428, R429.) -/
def Obligations.Jt40FramesAreJudged : Prop :=
  ∀ (c : Instr) (cmd n : Nat) (f : JtFrame) (s : State), jtRow c = some (cmd, n, f) → LightInv s →
    ((s.cond.mode ≠ .service ∨ s.hif.ready = false ∨ s.pwr.episode = true ∨ f.sync ≠ 0xA5) → Nothing c s) ∧
    (JtHears s f → jtCrcGood cmd f = false → JtAnswers c s 4 [] [] (fun _ => True)) ∧
    (JtHears s f → jtCrcGood cmd f = true → s.cond.seq.isSome = true → JtAnswers c s 1 [] [] (fun _ => True)) ∧
    (JtHears s f → jtCrcGood cmd f = true → s.cond.seq = none → (f.len.toNat ≠ n ∨ f.payload.length ≠ n) →
      JtAnswers c s 3 [] [] (fun _ => True))

/-- JT_NOP answers OK; JT_VERSION and JT_STATUS answer OK with their bytes; a code that is not defined answers
UNSUPPORTED. JT_BRIGHTNESS, JT_BACKLIGHT, JT_OVERLAY_SHOW, JT_OVERLAY_HIDE, JT_SET_DEPTH, JT_MIRROR_START and
JT_MIRROR_STOP answer RANGE for an operand outside their range, and otherwise stage their change and commit it: BUSY
while a commit is pending or in COAST, RANGE with the draft as it was when the commit is refused, and else a pending
commit whose reply comes as it takes effect. (R428, R429, R430.) -/
def Obligations.Jt40CommandsAct : Prop :=
  ∀ (s : State) (f : JtFrame), LightInv s →
    (JtHolds s 0x01 0 f → JtAnswers (.jtNop f) s 0 [] [] (fun _ => True)) ∧
    (JtHolds s 0x02 0 f → JtAnswers (.jtVersion f) s 0 ([0x34, 0x00] ++ leBytes 4 Config.fwService.toNat) [] (fun _ => True)) ∧
    (JtHolds s 0x40 0 f → JtAnswers (.jtStatus f) s 0 (leBytes 1 (condBits s) ++ leBytes 1 s.therm.step ++
      leBytes 1 (rotCode s.rot.state) ++ leBytes 1 (bit s.cond.svcFlat 0)) [] (fun _ => True)) ∧
    (∀ cmd : Byte, cmd.toNat ∉ jtKnown → JtHolds s cmd.toNat f.payload.length f →
      JtAnswers (.jtUnsupportedCmd cmd f) s 2 [] [] (fun _ => True)) ∧
    (JtHolds s 0x20 1 f →
      JtCommits (.jtBrightness f) s (putParam 0x4400 (BitVec.ofNat 32 (160 * jtByte f 0 / 255)))) ∧
    (JtHolds s 0x21 1 f → (1 < jtByte f 0 → JtAnswers (.jtBacklight f) s 3 [] [] (fun _ => True)) ∧
      (jtByte f 0 = 0 → JtCommits (.jtBacklight f) s (fun c => (List.range 4).foldl (fun c k => putParam (0x4410 + k) 0 c) c)) ∧
      (jtByte f 0 = 1 → JtCommits (.jtBacklight f) s (fun c => (List.range 4).foldl (fun c k =>
        putParam (0x4410 + k) (s.cond.svcZone.getD k 0xFFFFFFFF) c) c))) ∧
    (JtHolds s 0x30 1 f → (30 < jtByte f 0 → JtAnswers (.jtOverlayShow f) s 3 [] [] (fun _ => True)) ∧
      (jtByte f 0 ≤ 30 → JtCommits (.jtOverlayShow f) s (enableLayer (jtByte f 0) true))) ∧
    (JtHolds s 0x31 1 f → (30 < jtByte f 0 → JtAnswers (.jtOverlayHide f) s 3 [] [] (fun _ => True)) ∧
      (jtByte f 0 ≤ 30 → JtCommits (.jtOverlayHide f) s (enableLayer (jtByte f 0) false))) ∧
    (JtHolds s 0x50 4 f → (dispExtended (leNat f.payload) = false → JtAnswers (.jtSetDepth f) s 3 [] [] (fun _ => True)) ∧
      (dispExtended (leNat f.payload) = true → JtCommits (.jtSetDepth f) s (putDepth (leNat f.payload)))) ∧
    (JtHolds s 0x11 0 f → JtCommits (.jtMirrorStop f) s (enableLayer 31 false)) ∧
    (JtHolds s 0x10 2 f → ((3 < jtByte f 0 ∨ jtByte f 1 ≠ 0 ∨ scaler7Used s.cfg.draft = true ∨ mirrorTarget s = none) →
        JtAnswers (.jtMirrorStart f) s 3 [] [] (fun _ => True)) ∧
      (jtByte f 0 ≤ 3 → jtByte f 1 = 0 → scaler7Used s.cfg.draft = false → ∀ t w h dw dh, mirrorTarget s = some (t, w, h) →
        mirrorRect (camParam s.cfg.draft (jtByte f 0) 4) (camParam s.cfg.draft (jtByte f 0) 5) w h = some (dw, dh) →
        JtCommits (.jtMirrorStart f) s (putLayer 31 (mirrorLayer (jtByte f 0) t (camParam s.cfg.draft (jtByte f 0) 4)
          (camParam s.cfg.draft (jtByte f 0) 5) ((w - dw) / 2) ((h - dh) / 2) dw dh))))

/-- A tail outside its ring disables the queue, sets its bit of HIF_QERR and raises source 192, and a head outside
does the same; a tail of a disabled queue has no effect. With every path empty, a tail that adds one packet makes the
module fetch it when the path delivers and the completion ring has room: SQ_HEAD moves on, and the packet is refused
with its status in one reply, or, when it is accepted and its dependency is in flight, it is in flight and waits. With
no path to fetch from, a head is only stored; QCFG stores WEIGHT, LOG2_SIZE while ENABLE was 0, and ENABLE, whose
setting resets the pointers. A message held by HIF_IRQ_DELAY_US is sent once and the queue is no longer unsignalled.
(R393, R394, R395, R396, R493.) -/
def Obligations.QueueRegistersFetchPackets : Prop :=
  ∀ s : State, LightInv s → ∀ (q : Nat) (v : Word), live s = true → q < 16 →
    (∀ es, (queueOf s q).enable = false → Happens (.sqTailDoorbell q v es) s [] (fun _ => True)) ∧
    (∀ c, (c = .cqHeadWrite q v ∨ ∃ es, c = .sqTailDoorbell q v es) → (queueOf s q).enable = true →
      2 ^ (queueOf s q).log2 ≤ v.toNat % 2048 → Happens c s [.books, .hif] (fun t =>
        t.hif = { s.hif with
          queues := t.hif.queues
          qerr := s.hif.qerr ||| BitVec.ofNat 16 (2 ^ q) } ∧
        queueOf t q = { queueOf s q with enable := false } ∧ (∀ k, k ≠ q → queueOf t k = queueOf s k) ∧ Raised 192 t)) ∧
    (QuietPaths s → (queueOf s q).enable = true → v.toNat % 2048 < 2 ^ (queueOf s q).log2 →
      Happens (.cqHeadWrite q v) s [.books] (fun t => t.hif = { s.hif with queues := t.hif.queues } ∧
        queueOf t q = { queueOf s q with cqHead := v.toNat % 2048 } ∧ (∀ k, k ≠ q → queueOf t k = queueOf s k))) ∧
    (QuietPaths s → Happens (.qcfgWrite q v) s [.books] (fun t => t.hif = { s.hif with queues := t.hif.queues } ∧
      (∀ k, k ≠ q → queueOf t k = queueOf s k) ∧ (queueOf t q).enable = v.getLsbD 8 ∧
      (queueOf t q).weight = v.toNat / 16 % 16 ∧
      (queueOf t q).log2 = (if (queueOf s q).enable then (queueOf s q).log2 else v.toNat % 16) ∧
      (v.getLsbD 8 = true → (queueOf s q).enable = false → (queueOf t q).sqHead = 0 ∧ (queueOf t q).cqTail = 0 ∧
        (queueOf t q).phase = true ∧ (queueOf t q).sqTail = 0 ∧ (queueOf t q).cqHead = 0))) ∧
    ((queueOf s q).unsignalled = true → Happens (.hifIrqDelayExpiry q) s [.books] (fun t =>
      t.hif = { s.hif with queues := t.hif.queues } ∧ queueOf t q = { queueOf s q with unsignalled := false } ∧
      (∀ k, k ≠ q → queueOf t k = queueOf s k) ∧
      (s.intc.fnMask = false → s.intc.msixMask.getLsbD q = false → ∃ l, t.intc.msix = l ++ q :: s.intc.msix))) ∧
    (∀ r : RawPkt, QuietPaths s → starting s = false → (queueOf s q).enable = true → pathOpen s q = true → hasRoom s q = true →
      1 < 2 ^ (queueOf s q).log2 → v.toNat % 2048 = ((queueOf s q).sqTail + 1) % 2 ^ (queueOf s q).log2 →
      (queueOf s q).sqTail < 2 ^ (queueOf s q).log2 →
      (∀ st, acceptCheck s r.opcode.toNat { r.pkt with path := q } = some st →
        Happens (.sqTailDoorbell q v [r]) s [.books, .hif, .ctrs] (fun t =>
          Replied s t r.opcode.toNat { r.pkt with path := q } st [] ∧ t.hif.flights = s.hif.flights ∧
          (queueOf t q).ring = [] ∧ (queueOf t q).sqHead = ((queueOf s q).sqHead + 1) % 2 ^ (queueOf s q).log2)) ∧
      (acceptCheck s r.opcode.toNat { r.pkt with path := q } = none → r.pkt.dep.getLsbD 9 = true →
        (flightOf s (r.pkt.dep.toNat % 512)).isSome = true →
        Happens (.sqTailDoorbell q v [r]) s [.books, .hif, .blt, .gcl, .rmap] (fun t =>
          t.hif.replies = s.hif.replies ∧ (∃ f, t.hif.flights = s.hif.flights ++ [f] ∧ f.op = r.opcode.toNat ∧
            f.p = { r.pkt with path := q } ∧ f.started = false ∧ f.dep = .waiting) ∧
          (queueOf t q).ring = [] ∧ (queueOf t q).sqHead = ((queueOf s q).sqHead + 1) % 2 ^ (queueOf s q).log2)))

/-- Before RUNNING an Ethernet message is lost and counted in TU_EARLY_DROP_CNT, in COAST and under BIVOUAC it is
lost, and one that is not in sequence, not from a source that may command or not well formed is dropped and counted.
An accepted TYPE 2 message is acknowledged and its body stands in the ingest area at its offset, every other byte of
memory as it was. An accepted TYPE 1 message is acknowledged and its packet runs; one that a check refuses is answered
by a TYPE 3 message. GO is ignored while the mailbox is BUSY; otherwise its packet runs, and one that a check refuses
leaves its reply in HIF_MBX_REPLY with DONE set, BUSY clear and source 194 raised. (R381, R388, R389, R390, R392.) -/
def Obligations.EthernetAndMailboxCarryPackets : Prop :=
  ∀ s : State, LightInv s → (∀ (m : EthMsg) (c : Instr), ((∃ ps, c = .ethPacketMessage m ps) ∨ ∃ d, c = .ethDataMessage m d) →
      (s.tu.running = false → Happens c s [.ctrs] (fun t => Counted .tuEarlyDrop 1 s t)) ∧
      (s.tu.running = true → ethUp s = false → Nothing c s) ∧
      (ethUp s = true → (ethFrom s m && decide (m.payloadLen ≤ par s 0x0102) && m.version == 1 && ethInSeq s m) = false →
        Happens c s [.ctrs] (fun t => Counted .ethDrop 1 s t))) ∧
    (∀ (m : EthMsg) (d : List Byte), ethUp s = true → EthGood s m → m.type = 2 → m.count = 0 → 4 ≤ d.length →
      d.length % 4 = 0 → m.payloadLen = 16 + d.length → 256 * m.offset.toNat + d.length ≤ ingestSize →
      Happens (.ethDataMessage m d) s [.books, .hif, .freeCtr, .mem] (fun t => EthAcked s t m ∧
        t.mem = memStore (ingestBase + 256 * m.offset.toNat) d s.mem ∧
        (s.mem.wf → ∀ a, a < ingestBase + 256 * m.offset.toNat ∨ ingestBase + 256 * m.offset.toNat + d.length ≤ a →
          memRead t.mem a = memRead s.mem a))) ∧
    (∀ (m : EthMsg) (r : RawPkt) (st : Nat), ethUp s = true → EthGood s m → m.type = 1 → m.count = 1 → m.payloadLen = 80 →
      acceptCheck s r.opcode.toNat { r.pkt with path := 16 } = some st →
      Happens (.ethPacketMessage m [r]) s [.books, .hif, .freeCtr, .ctrs] (fun t =>
        t.hif.ethSeq = some m.seq ∧ t.hif.ethMac = some m.srcMac ∧ t.hif.flights = s.hif.flights ∧
        Replied s t r.opcode.toNat { r.pkt with path := 16 } st [] ∧
        ∃ e3 e4 : EthOut, t.hif.ethOut = e3 :: e4 :: s.hif.ethOut ∧ e3.type = 3 ∧ e3.replies = t.hif.replies.take 1 ∧
          e4.type = 4 ∧ e4.ack = m.seq)) ∧
    (live s = true → s.hif.mbxBusy = true → Happens .mailboxGo s [] (fun _ => True)) ∧
    (∀ st, live s = true → s.hif.mbxBusy = false → pathOpen s 17 = true →
      acceptCheck s (bytesPacket 17 (s.hif.mbxCmd.flatMap (fun w => leBytes 4 w.toNat))).1
        (bytesPacket 17 (s.hif.mbxCmd.flatMap (fun w => leBytes 4 w.toNat))).2 = some st →
      Happens .mailboxGo s [.books, .ctrs] (fun t =>
        t.hif.mbxBusy = false ∧ t.hif.mbxDone = true ∧ t.hif.flights = s.hif.flights ∧ Raised 194 t ∧
        ∃ r : Reply, t.hif.replies = r :: s.hif.replies ∧ r.status = BitVec.ofNat 16 st ∧
          t.hif.mbxReply = (List.range 8).map (fun i => BitVec.ofNat 32 (field (replyBytes r) (4 * i) 4))))

/-- A command in flight whose dependency has failed ends with ST_DEP_FAILED without starting, a SCENE_LOAD with none of its
blocks attempted, a queued Blitter operation counted as failed; one whose dependency is met starts, which for a MEM_TEST, an exchange or a Blitter command marks it started and changes nothing else; a tag
with no such command has no effect. An endpoint reset disables every queue, discards the replies of the queues'
commands in flight, resets the host routes, the active states and the message masks and raises no command's end; after
it the link is down, a function-level reset apart. Once up, the link raises source 193. (R396, R387, R410.) -/
def Obligations.DependenciesAndEndpointResets : Prop :=
  ∀ s : State, LightInv s → live s = true →
    (∀ tag, (∀ f, flightOf s tag = some f → f.started = true ∨ f.dep = .waiting) →
      Happens (.commandDependencyMet tag) s [] (fun t => t.intc.hpend = s.intc.hpend)) ∧
    (∀ tag f, flightOf s tag = some f → f.started = false → f.dep = .failed → f.silent = false → f.ext = false →
      (f.op ≠ 0x0210 → Happens (.commandDependencyMet tag) s [.books, .blt, .gcl, .ctrs] (fun t =>
        Replied s t f.op f.p 0x0102 (notRun f) ∧
        t.hif.flights = depDone tag false (s.hif.flights.filter (fun g => ptag g.p != tag)) ∧
        t.gcl = { s.gcl with host := s.gcl.host.filter (fun e => e.tag != some (ptag f.p)) } ∧
        ((∀ b ∈ s.blt.queue, b.tag ≠ tag) → t.ctrs = s.ctrs) ∧
        ((∃ b ∈ s.blt.queue, b.tag = tag) → Counted .bltFail 1 s t ∧ ∀ b ∈ t.blt.queue, b.tag ≠ tag))) ∧
      (f.op = 0x0210 → Happens (.commandDependencyMet tag) s [.books, .blt, .rmap] (fun t =>
        Replied s t f.op f.p 0x0102 [] ∧ t.rmap.image = s.rmap.image))) ∧
    (∀ tag f, flightOf s tag = some f → f.started = false → f.dep = .met →
      f.op ∈ [0x0803, 0x0412, 0x0413, 0x0501, 0x0502, 0x0503, 0x0504, 0x0210] →
      Happens (.commandDependencyMet tag) s [.books] (fun t => t.hif = { s.hif with
        flights := s.hif.flights.map (fun g => if ptag g.p == tag then { g with started := true } else g) })) ∧
    (∀ k : EpReset, s.hif.fwUp = true → Happens (.pcieEndpointReset k) s [.books, .hif, .intc] (fun t =>
      (∀ q, (queueOf t q).enable = false ∧ (queueOf t q).unsignalled = false ∧ (queueOf t q).ring = (queueOf s q).ring) ∧
      t.hif.replies = s.hif.replies ∧
      t.hif.flights = s.hif.flights.map (fun f => if f.p.path < 16 then { f with silent := true } else f) ∧
      t.hif.linkUp = (s.hif.linkUp && k == .functionLevel) ∧ (∀ n, hroute t n = 0) ∧ t.intc.active = [] ∧
      t.intc.hclaimed = [] ∧ t.intc.croute = s.intc.croute ∧ t.intc.cactive = s.intc.cactive)) ∧
    (s.hif.fwUp = true → s.hif.linkUp = false → Happens .pcieLinkUp s [.hif] (fun t =>
      t.hif = { s.hif with linkUp := true } ∧ Raised 193 t))

/-- Reading a counter through the window returns it and clears it, and no other counter; an offset beyond the window
reads 0 and a write there has no effect. CAPTURE latches the angle and the time together; SDEC_ERR_POP removes the
head of the error queue, and TC_FIFO_POP that of the capture FIFO; reading TU_TIME0 latches the time and returns its
word 0; writing ROT_FAULT_CAUSE clears the bits written as 1, LIT_OK following; writing BL_ZONE_FAULT clears the
faults of the zones written as 1. Of the writes with no row of their own HIF_QERR, GCL_FAIL_MASK and PNL_FAULT_CAUSE
clear the bits written as 1 and INTC_EXT_CFG takes MODE and FILTER; nothing else differs. (R6, R7, R106, R221, R220,
R313, R361, R380.) -/
def Obligations.RegisterAccesses : Prop :=
  ∀ s : State, LightInv s → live s = true →
    (∀ o x c, o < 0x200000 → x = o / 4 * 4 → (x, c) ∈ windowCtrs → Happens (.rcRegisterRead o) s [.hif, .ctrs] (fun t =>
      t.hif = { s.hif with lastRead := BitVec.ofNat 32 (ctrReg s c) } ∧ ctrVal t c = 0 ∧
      ∀ d, d ≠ c → ctrVal t d = ctrVal s d)) ∧
    (∀ o, 0x200000 ≤ o → Happens (.rcRegisterRead o) s [.hif] (fun t => t.hif = { s.hif with lastRead := 0 })) ∧
    (∀ o v, 0x200000 ≤ o → Nothing (.registerWrite o v) s) ∧
    Happens .rotSnapCapture s [.rot] (fun t =>
      t.rot = { s.rot with snapAngle := s.rot.angle, snapTime := stampTime s }) ∧
    Happens .sdecErrPop s [.sdec] (fun t => t.sdec = { s.sdec with errs := s.sdec.errs.drop 1, overflowed := false }) ∧
    Happens .tcFifoPop s [.tu] (fun t => t.tu = { s.tu with fifo := s.tu.fifo.drop 1 }) ∧
    Happens .tuTimeRead s [.tu, .hif] (fun t => t.tu = { s.tu with latch := stampTime s } ∧
      t.hif = { s.hif with lastRead := BitVec.ofNat 32 (timePack (stampTime s)) }) ∧
    (∀ v : Word, Happens (.rotFaultCauseClear v) s [.rot, .light] (fun t =>
      t.rot.cause = s.rot.cause &&& ~~~(v.setWidth 9) ∧ t.rot.state = s.rot.state ∧ t.rot.angleValid = s.rot.angleValid ∧
      t.rot.litOk = litCond t ∧ (t.rot.cause.toNat % 32 = 0 → t.rot.encLost = false))) ∧
    (∀ (k : Nat) (v : Word), k < 4 → Happens (.blZoneFaultClear k v) s [.bl] (fun t =>
      (∀ z, t.bl.fault.getLsbD z = (s.bl.fault.getLsbD z && !(decide (32 * k ≤ z) && v.getLsbD (z - 32 * k) && decide (z < 32 * k + 32)))) ∧
      t.bl = { s.bl with fault := t.bl.fault, verdict := t.bl.verdict })) ∧
    (∀ v : Word, Happens (.registerWrite 0x00004 v) s [.hif] (fun t =>
      t.hif = { s.hif with qerr := s.hif.qerr &&& ~~~(v.setWidth 16) })) ∧
    (∀ v : Word, Happens (.registerWrite 0xB1010 v) s [.gcl] (fun t =>
      t.gcl = { s.gcl with failMask := s.gcl.failMask &&& ~~~v })) ∧
    (∀ v : Word, Happens (.registerWrite 0xC0004 v) s [.pnl] (fun t =>
      t.pnl = { s.pnl with cause := s.pnl.cause &&& ~~~(v.setWidth 4) })) ∧
    (∀ v : Word, s.intc.extCfg.length = 2 → Happens (.registerWrite 0x120010 v) s [.intc] (fun t =>
      t.intc.extCfg.getD 0 0 = v &&& 0xFF07 ∧ t.intc.extCfg.getD 1 0 = s.intc.extCfg.getD 1 0))

/-- A claim at an idle vector returns 256 plus the lowest source pending there and makes it active, an edge source no
longer pending; with none, or while the vector is active, it returns 0. A completion of the active source frees the
vector; any other is counted as spurious. The cores claim and complete in the same way. A route word sets four routes,
and a source that loses HOST_EN is no longer pending for the host. Unmasking a vector with a message held and its
source still pending sends it. A line whose level has been stable for FILTER cycles raises its source on the edges its
MODE names; a shorter level has no effect. In PARKED with nothing running
the CORE domain sleeps, and a wake makes every latched event pending where it is routed. (R489, R490, R491, R492,
R493, R495, R496, R497.) -/
def Obligations.InterruptControllerEvents : Prop :=
  ∀ s : State, LightInv s → live s = true →
    (∀ v n, 16 ≤ v → v ≤ 31 → tget? s.intc.active v = none → lowestAt (wakeDomain s) v = some n →
      Happens (.intcClaim v) s [.hif, .intc] (fun t => t.hif = { s.hif with lastRead := BitVec.ofNat 32 (n + 256) } ∧
        tget? t.intc.active v = some n ∧ (∀ w, w ≠ v → tget? t.intc.active w = tget? s.intc.active w) ∧
        (isLevel s n = false → n ∉ t.intc.hpend) ∧ (isLevel s n = true → n ∈ t.intc.hclaimed) ∧
        t.intc.hroute = s.intc.hroute ∧ hostPending t n = false)) ∧
    (∀ v, 16 ≤ v → v ≤ 31 → ((tget? s.intc.active v).isSome = true ∨ lowestAt (wakeDomain s) v = none) →
      Happens (.intcClaim v) s [.hif] (fun t => t.hif = { s.hif with lastRead := 0 })) ∧
    (∀ v w, 16 ≤ v → v ≤ 31 → tget? s.intc.active v = some (w.toNat % 256) → Happens (.intcEoi v w) s [.intc] (fun t =>
      t.intc.active = tdel s.intc.active v ∧ t.intc.hclaimed = s.intc.hclaimed.filter (· != w.toNat % 256) ∧
      t.intc.hroute = s.intc.hroute ∧ t.intc.cactive = s.intc.cactive)) ∧
    (∀ v w, 16 ≤ v → v ≤ 31 → tget? s.intc.active v ≠ some (w.toNat % 256) →
      Happens (.intcEoi v w) s [.ctrs] (fun t => Counted .spurious 1 s t)) ∧
    (∀ m (w : Word), m < 64 → Happens (.intcHrouteWrite m w) s [.intc] (fun t =>
      (∀ k, k < 4 → hroute t (4 * m + k) = BitVec.ofNat 8 (w.toNat / 256 ^ k) &&& 0x7F) ∧
      (∀ n, (n < 4 * m ∨ 4 * m + 4 ≤ n) → hroute t n = hroute s n) ∧
      (∀ n, n ∈ t.intc.hpend ↔ n ∈ (wakeDomain s).intc.hpend ∧ (4 * m ≤ n → n < 4 * m + 4 → hostEn t n = true)) ∧
      t.intc.active = s.intc.active ∧ t.intc.croute = s.intc.croute)) ∧
    (∀ c n, c < 4 → s.intc.asleep = false → tget? s.intc.cactive c = none → lowestAtCore s c = some n →
      Happens (.coreIntcClaim c) s [.intc] (fun t => t.intc.cactive = tset s.intc.cactive c n ∧
        (isLevel s n = false → n ∉ t.intc.cpend) ∧ (isLevel s n = true → n ∈ t.intc.cclaimed) ∧
        t.intc.active = s.intc.active ∧ t.intc.hpend = s.intc.hpend)) ∧
    (∀ c n, s.intc.asleep = false → tget? s.intc.cactive c = some n → Happens (.coreIntcEoi c n) s [.intc] (fun t =>
      t.intc.cactive = tdel s.intc.cactive c ∧ t.intc.active = s.intc.active ∧ t.intc.hpend = s.intc.hpend)) ∧
    (∀ v, v < 32 → s.intc.pba.getLsbD v = true → s.intc.fnMask = false → (v < 16 ∨ msixCond (wakeDomain s) v = true) →
      Happens (.msixUnmask v) s [.intc] (fun t => t.intc.msixMask = s.intc.msixMask &&& ~~~(BitVec.ofNat 32 (2 ^ v)) ∧
        t.intc.pba.getLsbD v = false ∧ (∃ l, t.intc.msix = l ++ v :: s.intc.msix) ∧ t.intc.hroute = s.intc.hroute)) ∧
    (∀ n level k, n < 2 → k < extFilter s n → Nothing (.gpioInputEvent n ⟨level, k⟩) s) ∧
    (∀ n level k, n < 2 → s.intc.gpio.length = 2 → extFilter s n ≤ k → Happens (.gpioInputEvent n ⟨level, k⟩) s [.intc] (fun t =>
      t.intc.gpio = s.intc.gpio.set n level ∧
      (level = true → s.intc.gpio.getD n false = false → (extMode s n = 1 ∨ extMode s n = 3) → Raised (232 + n) t) ∧
      (level = false → s.intc.gpio.getD n false = true → (extMode s n = 2 ∨ extMode s n = 3) → Raised (232 + n) t))) ∧
    (s.hif.ready = true → s.cond.mode = .parked → s.cond.bivouac = false → s.cond.coast = false → s.cond.seq = none →
      Happens .coreDomainSleep s [] (fun t => t.intc = { s.intc with asleep := true })) ∧
    (∀ a, s.intc.asleep = true → (a = true ∨ s.intc.wakeLatch ≠ []) → Happens (.coreDomainWake a) s [] (fun t =>
      t.intc.asleep = false ∧ t.intc.woke = true ∧ t.intc.wakeLatch = [] ∧
      (∀ n ∈ s.intc.wakeLatch, hostEn s n = true → n ∈ t.intc.hpend) ∧ (∀ n ∈ s.intc.hpend, n ∈ t.intc.hpend)))

/-- SAMPLE/PRELOAD, IDCODE, BYPASS and Test-Logic-Reset select their instruction; EXTEST, CLAMP and HIGHZ do so with
the lock open in TEST or under BIVOUAC and act as BYPASS otherwise. The challenge captures a new nonce outside the
hold-off and a free value in it; a response uses the nonce up; the status capture reads DBG_STATUS; the end of the
hold-off clears it. With the lock closed a debug access acts as BYPASS. With it open an access reads or writes a word
of stacked memory that is served and healthy, or a register of a halted core, and says ERR otherwise. A halt, resume
or step request acts with the lock open, and a breakpoint or watchpoint that is set halts its core. (R424, R533, R534,
R535.) -/
def Obligations.TapAndDebugAccesses : Prop :=
  ∀ s : State, LightInv s → (Happens .tapSamplePreload s [.dbg] (fun t => t.dbg = { s.dbg with ir := 0x01, dr := [] })) ∧
    (Happens .tapIdcode s [.dbg] (fun t => t.dbg = { s.dbg with ir := 0x02, dr := toBits 32 idcode.toNat })) ∧
    (Happens .tapBypass s [.dbg] (fun t => t.dbg = { s.dbg with ir := 0xFF, dr := [false] })) ∧
    (Happens .tapReset s [.dbg] (fun t => t.dbg = { s.dbg with ir := 0x02, dr := [] })) ∧
    (∀ (c : Instr) (ir : Byte), (c, ir) ∈ [(Instr.tapExtest, (0x00 : Byte)), (.tapClamp, 0x03), (.tapHighz, 0x04)] →
      Happens c s [.dbg] (fun t =>
        (s.dbg.unlocked = true → (s.cond.mode = .test ∨ s.cond.bivouac = true) → t.dbg = { s.dbg with ir := ir, dr := [] }) ∧
        ((s.dbg.unlocked = false ∨ (s.cond.mode ≠ .test ∧ s.cond.bivouac = false)) →
          t.dbg = { s.dbg with ir := 0xFF, dr := [false] }))) ∧
    (s.dbg.holdoff = false → Happens .dbgChallengeCapture s [.dbg] (fun t => t.dbg = { s.dbg with
      ir := 0x21, dr := toBits 64 (Config.nonce s.dbg.nonces).toNat, nonce := some s.dbg.nonces
      nonces := s.dbg.nonces + 1 })) ∧
    (s.dbg.holdoff = true → Happens .dbgChallengeCapture s [.dbg, .freeCtr] (fun t =>
      ∃ v, t.dbg = { s.dbg with ir := 0x21, dr := toBits 64 v })) ∧
    (∀ resp, Happens (.dbgResponseUpdate resp) s [.dbg, .bb, .sil, .ctrs] (fun t => t.dbg.nonce = none ∧ t.dbg.ir = 0x22 ∧
      (∀ n, s.dbg.nonce = some n → padTo 32 resp = dbgAnswer n → t.dbg.unlocked = true ∧ t.dbg.holdoff = s.dbg.holdoff) ∧
      ((∀ n, s.dbg.nonce = some n → padTo 32 resp ≠ dbgAnswer n) →
        t.dbg.unlocked = s.dbg.unlocked ∧ t.dbg.holdoff = true ∧ Raised 251 t))) ∧
    (Happens .dbgStatusCapture s [.dbg] (fun t => t.dbg = { s.dbg with ir := 0x23, dr := toBits 32 (dbgStatus s) })) ∧
    (s.dbg.holdoff = true → startedOf s 0x0B10 = [] → Happens .debugHoldoffEnd s [.dbg] (fun t =>
      t.dbg = { s.dbg with holdoff := false })) ∧
    (s.dbg.unlocked = false → ∀ sp c a v, (Happens (.dbgAccessRead sp c a) s [.dbg] (fun t =>
        t.dbg = { s.dbg with ir := 0x20, dr := [false] })) ∧
      (Happens (.dbgAccessWrite sp c a v) s [.dbg] (fun t => t.dbg = { s.dbg with ir := 0x20, dr := [false] }))) ∧
    (s.dbg.unlocked = true → ∀ c a, a < memSize → a % 4 = 0 → Happens (.dbgAccessRead 0 c a) s [.dbg] (fun t =>
        t.dbg.err = (!memServed s || memPoisoned s.mem a 4) ∧
        (t.dbg.err = false → t.dbg = { s.dbg with
          ir := 0x20, dr := accessBits 1 0 c a { data := leNat (memBytes s.mem a 4), state := s }, err := false }))) ∧
    (s.dbg.unlocked = true → memServed s = true → ∀ c a (v : Word), a < memSize → a % 4 = 0 →
      (a < silBase ∨ silBase + silSize ≤ a) → Happens (.dbgAccessWrite 0 c a v) s [.dbg, .mem] (fun t =>
        t.dbg.err = false ∧ t.mem = memStore a (leBytes 4 v.toNat) s.mem ∧
        (s.mem.wf → ∀ x, x < a ∨ a + 4 ≤ x → memRead t.mem x = memRead s.mem x))) ∧
    (s.dbg.unlocked = true → ∀ c n (v : Word), c < 4 → n < 64 → Happens (.dbgAccessWrite 1 c n v) s [.dbg] (fun t =>
        t.dbg.err = (!isHalted s c) ∧
        (isHalted s c = true → tget? t.dbg.coreRegs (64 * c + n) = some v) ∧
        (isHalted s c = false → t.dbg.coreRegs = s.dbg.coreRegs))) ∧
    (∀ c, c < 4 → s.dbg.unlocked = true → isHalted s c = false → Happens (.dbgHaltRequest c) s [.dbg, .bb, .sil] (fun t =>
      isHalted t c = true ∧ (∀ k, k < 4 → k ≠ c → isHalted t k = isHalted s k) ∧ Raised 249 t)) ∧
    (∀ c, c < 4 → s.dbg.unlocked = true → isHalted s c = true → Happens (.dbgResumeRequest c) s [.dbg] (fun t =>
      isHalted t c = false ∧ (∀ k, k < 4 → k ≠ c → isHalted t k = isHalted s k))) ∧
    (∀ c, c < 4 → s.dbg.unlocked = true → isHalted s c = true → Happens (.dbgStepRequest c) s [.dbg, .bb, .sil] (fun t =>
      t.dbg.halted = s.dbg.halted ∧ t.dbg.coreRuns = s.dbg.coreRuns.set c (s.dbg.coreRuns.getD c 0 + 1) ∧ Raised 249 t)) ∧
    (∀ c n, live s = true → c < 4 → n < 6 → isHalted s c = false → tget s.dbg.brk (breakAddr c n) 0 ≠ 0 →
      Happens (.dbgBreakpointHit c n) s [.dbg, .bb, .sil] (fun t => isHalted t c = true ∧ t.dbg.brk = s.dbg.brk ∧ Raised 249 t))

/-- The latch angle comes once in a revolution. There a pending commit whose commit point was in time takes effect: its snapshot becomes the active
set, its number the epoch, and its COMMIT has its reply. With none pending a frame composition takes the newest camera
frames, is queued behind one that runs, or does not follow in PARKED and under BIVOUAC. A timer tick while the angle
is not valid does the same for the commit, whatever its commit point. A revolution start takes the time, the speed,
the power cap and the active set for the frame that begins, and writes the entry of the frame that ends into the
record ring and nowhere else. (R25, R64, R139, R141, R223, R227, R260, R261, R262, R312, R518.) -/
def Obligations.FramesBeginAndCommitsTakeEffect : Prop :=
  ∀ s : State, LightInv s → live s = true → NoModeSets s →
    (angleDue 0 32768 s = false → Nothing .latchAngle s) ∧
    (s.rot.angleValid = true → angleDue 0 32768 s = true →
      (s.cfg.commits = [] → (s.cond.mode = .parked ∨ s.cond.bivouac = true ∨ memServed s = false) →
        Happens .latchAngle s [.rot] (fun t =>
          t.rot = { (angleTo 32768 s).rot with fired := eventKey 0 32768 :: s.rot.fired })) ∧
      (s.cfg.commits = [] → s.cond.mode ≠ .parked → s.cond.bivouac = false → memServed s = true → s.cond.coast = false →
        (s.acc.comp = none → Happens .latchAngle s [.rot, .acc, .ray] (fun t => StandsAt 32768 t ∧
          t.acc.frameCams = pickFrames s s.acc.frameCams (camLayers s false))) ∧
        (s.acc.comp ≠ none → Happens .latchAngle s [.rot, .acc] (fun t => StandsAt 32768 t ∧
          t.acc = { s.acc with queuedFrame := true, queuedLate := false }))) ∧
      (∀ c f, OneCommit s c f → (rev (angleTo 32768 s) + 65536 - c.snap.minRev) % 65536 < 32768 →
        Happens .latchAngle s [.books, .blt, .cfg, .acc, .rot, .light, .ray, .sco, .gcl, .mem, .clk, .ctrs] (fun t =>
          StandsAt 32768 t ∧ CommitShown s t c ∧ Raised 35 t ∧ t.mem.cells = s.mem.cells))) ∧
    (s.rot.angleValid = false → Settled s → s.sil.running = false → s.pnl.state ≠ .on →
      (s.cfg.commits = [] → Happens .latchTimerTick s [.sil, .sco, .bl, .tu, .acc, .mem] (fun t =>
        t.sco.frameSet = s.cfg.active ∧ t.sil.frameMode = s.cond.mode ∧ t.sil.frameEpoch = s.cfg.epoch ∧
        t.mem.cells = s.mem.cells)) ∧
      (∀ c f, OneCommit s c f → c.snap.set.mode = s.cond.mode →
        Happens .latchTimerTick s [.books, .blt, .cfg, .acc, .rot, .ray, .gcl, .mem, .ctrs, .sil, .sco, .bl, .tu] (fun t =>
          CommitShown s t c ∧ Raised 35 t ∧ t.sco.frameSet = c.snap.set ∧ t.sil.frameEpoch = c.epoch ∧
          t.mem.cells = s.mem.cells))) ∧
    (s.rot.angleValid = true → Settled s → s.mem.wf → s.sil.recHead < recUnits → ∀ (speed16 mw : Nat) (mins : List Nat),
      Happens (.revolutionStart speed16 mw mins) s
        [.books, .rot, .light, .bl, .sil, .sco, .tu, .acc, .mem, .ctrs, .plt, .gcl, .sdec, .cfg] (fun t =>
          t.rot.startTime = stampTime s ∧ t.rot.speed16 = speed16 ∧ t.sil.frameRev = rev t ∧
          t.rot.fired = [] ∧ t.hif.replies = s.hif.replies ∧
          t.rot.angle = (if rev s = s.sil.frameRev then BitVec.ofNat 32 ((rev s + 1) * 65536) else s.rot.angle) ∧
          t.cfg.active = s.cfg.active ∧ t.sco.frameSet = s.cfg.active ∧ t.sil.frameMode = s.cond.mode ∧
          t.sil.frameEpoch = (if s.acc.lateFrame then s.sil.frameEpoch else s.cfg.epoch) ∧
          t.bl.cap = (if 1000 * par s 0x4404 < mw then max 1 (s.bl.cap - 1)
            else if mw * 100 < 95 * (1000 * par s 0x4404) then min 64 (s.bl.cap + 1) else s.bl.cap) ∧
          MemOutside s t silBase (64 * recUnits) ∧
          (s.sil.running = false → t.sil.rseq = s.sil.rseq ∧ t.mem.cells = s.mem.cells) ∧
          (Records s → s.sil.skipFrame = false → Recorded s t)))

/-- Each angle event comes once in a revolution. At F_j a facet whose render is complete starts to scan at offset 0, and
one whose render is not waits; a drum facet of FLAT but facet 0 scans nothing. At the end of the start window a facet that
waits repeats the buffer shown before, or is dark where nothing may be shown or could be at some moment of the window,
each counted with its source; a render not complete is abandoned and counted, and of memory only its buffer and
statistics may read otherwise. A render that
may start takes its facet's set and a buffer that is not shown; one that completes before its deadline is shown, and
memory differs only in its buffer and statistics. A check of the governor that is due and projects the render late raises
the level by one, given a valid flat. A pick
takes the newest frames of the facet-latched layers; the end of a composition that nothing waits behind leaves none in
progress; a late composition is counted and raises source 96. (R137, R140, R141, R171, R172, R173, R178, R179, R243,
R244, R265.) -/
def Obligations.FacetsStartRepeatOrGoDark : Prop :=
  ∀ s : State, LightInv s → 
    (∀ j, hasFacet s j = true →
      (angleDue 1 (16384 * j) s = false → Nothing (.facetNominalStart j) s) ∧
      (angleDue 2 (16384 * j + 2048) s = false → ∀ m, Nothing (.startWindowClose j m) s) ∧
      (angleDue 1 (16384 * j) s = true →
        (canShow s = true → renderDone s j = true →
          Happens (.facetNominalStart j) s [.rot, .therm, .sco, .ray, .plt, .gcl] (fun t =>
            StandsAt (16384 * j) t ∧ t.sco.scanning = true ∧ t.sco.facet = j ∧ t.sco.startOfs = 0 ∧ t.sco.row = 0 ∧
            t.sco.repeating = false ∧ t.sco.isDark = false ∧ t.sco.buf = shownOf s j ∧ t.ray.shown = s.ray.shown ∧
            t.plt = (facetLinks s).plt ∧ t.gcl = (facetLinks s).gcl)) ∧
        ((canShow s = false ∨ renderDone s j = false) →
          Happens (.facetNominalStart j) s [.rot, .therm, .sco, .plt, .gcl] (fun t =>
            StandsAt (16384 * j) t ∧ t.plt = (facetLinks s).plt ∧ t.gcl = (facetLinks s).gcl ∧
            t.sco = { s.sco with
              awaiting := some j, barred := !canShow s
              headShown := (shownOf s j).map (fillHead s.mem)
              headPrev := (shownOf s (facetBefore j)).map (fillHead s.mem) }))) ∧
      (angleDue 2 (16384 * j + 2048) s = true →
        (∀ m, (∀ r, s.ray.render = some r → r.facet ≠ j) →
          (s.sco.awaiting ≠ some j → Happens (.startWindowClose j m) s [.rot, .cfg] (fun t =>
            StandsAt (16384 * j + 2048) t ∧ t.cfg = { s.cfg with outgoing := t.cfg.outgoing })) ∧
          (s.sco.awaiting = some j → canShow s = true → s.sco.barred = false → (shownOf s j).isSome = true →
            Happens (.startWindowClose j m) s [.rot, .cfg, .sco, .ray, .ctrs] (fun t => Counted .scoRepeat 1 s t ∧
              Raised 32 t ∧ t.sco.scanning = true ∧ t.sco.repeating = true ∧ t.sco.facet = j ∧ t.sco.startOfs = 2048 ∧
              t.sco.buf = shownOf s j ∧ t.ray.shown = s.ray.shown)) ∧
          (s.sco.awaiting = some j → (canShow s = false ∨ s.sco.barred = true ∨ (shownOf s j).isSome = false) →
            Happens (.startWindowClose j m) s [.rot, .cfg, .sco, .ray, .ctrs] (fun t => Counted .scoDark 1 s t ∧
              Raised 34 t ∧ t.sco.scanning = false ∧ t.sco.isDark = true ∧ t.sco.facet = s.sco.facet ∧
              t.sco.buf = none))) ∧
        (∀ m r, s.ray.render = some r → r.facet = j →
          Happens (.startWindowClose j m) s [.rot, .cfg, .sco, .ray, .mem, .freeCtr, .ctrs] (fun t =>
            t.ray.render = none ∧ Advanced .rayLate 1 s t ∧ Raised 112 t ∧ t.ray.shown = s.ray.shown ∧
            t.mem.cells = s.mem.cells ∧
            ∀ a, (a < facetBase r.buf ∨ facetBase r.buf + 530841600 ≤ a) →
              (a < statBase r.buf ∨ statBase r.buf + 2073600 ≤ a) → memRead t.mem a = memRead s.mem a)))) ∧
    (∀ j, flatFacet s j = true → angleDue 1 (16384 * j) s = true →
      Happens (.facetNominalStart j) s [.rot, .sco, .plt, .gcl] (fun t => StandsAt (16384 * j) t ∧
        t.plt = (facetLinks s).plt ∧ t.gcl = (facetLinks s).gcl ∧ t.sco = { s.sco with frame := t.sco.frame })) ∧
    (∀ x, rayTurn s (facetAhead (x % 65536)) = true → (renderFlat s = true → facetAhead (x % 65536) = 0) →
      Happens (.renderStart x) s [.rot, .acc, .ray, .mem, .ctrs] (fun t => t.ray.running = true ∧ t.ray.shown = s.ray.shown ∧
        ∃ r, t.ray.render = some r ∧ r.facet = facetAhead (x % 65536) ∧ r.set = renderSet s r.facet ∧
          shownOf s r.facet ≠ some r.buf ∧
          ((renderFlat s = true ∨ setParam r.set 0x4001 ≠ 0) →
            t.mem = s.mem ∧ t.ctrs = s.ctrs ∧ r.level = s.ray.level ∧ r.flatBuilt = false))) ∧
    (∀ x m r, s.ray.render = some r → r.facet < 4 → s.ray.shown.length = 4 → s.mem.wf → renderPos r.facet x < 18432 →
      Happens (.renderComplete x m) s [.rot, .mem, .ray, .cfg, .acc, .sco, .ctrs] (fun t => t.ray.render = none ∧
        shownOf t r.facet = some r.buf ∧ (∀ k, k ≠ r.facet → shownOf t k = shownOf s k) ∧
        (∀ a, (a < facetBase r.buf ∨ facetBase r.buf + 530841600 ≤ a) → (a < statBase r.buf ∨ statBase r.buf + 2073600 ≤ a) →
          memRead t.mem a = memRead s.mem a) ∧
        (s.sco.awaiting ≠ some r.facet → t.sco = { s.sco with headNew := t.sco.headNew }) ∧
        (s.sco.awaiting = some r.facet → (canShow s = false ∨ s.sco.barred = true) →
          t.sco = { s.sco with headNew := t.sco.headNew, barred := true }) ∧
        (s.sco.awaiting = some r.facet → canShow s = true → s.sco.barred = false →
          t.sco.scanning = true ∧ t.sco.facet = r.facet ∧ t.sco.buf = some r.buf))) ∧
    (∀ x n r, s.ray.render = some r → checkDue r n = false → Nothing (.govEscalationCheck x n) s) ∧
    (∀ x n r i, s.ray.render = some r → checkDue r n = true → (mergeList r.set)[r.level]? = some i →
      flatValid s r.set i = true → r.escalates = true → r.govern = true → r.flat = false → setParam r.set 0x4001 = 0 →
      r.level < (levelLimits r.set).2 →
      (projectsLate r (x % 65536) n = true → Happens (.govEscalationCheck x n) s [.rot, .ray, .ctrs] (fun t =>
        Counted .rayEscalate 1 s t ∧ Raised 113 t ∧ t.ray.level = r.level + 1 ∧
        t.ray.render.map (fun q => (q.level, q.facet, q.buf, q.checked)) = some (r.level + 1, r.facet, r.buf, n))) ∧
      (projectsLate r (x % 65536) n = false → Happens (.govEscalationCheck x n) s [.rot, .ray] (fun t =>
        t.ray = { s.ray with render := some { r with checked := n } }))) ∧
    (∀ j, j < 4 → angleDue 3 (pickAtk j) s = false → Nothing (.facetPick j) s) ∧
    (∀ j, j < 4 → angleDue 4 (deadlineAtk j) s = false → Nothing (.compositionDeadline j) s) ∧
    (s.rot.angleValid = true → ∀ j, j < 4 → angleDue 3 (pickAtk j) s = true →
      (s.cond.coast = true → Happens (.facetPick j) s [.rot] (fun _ => True)) ∧
      (s.cond.coast = false → s.acc.comp = none → Happens (.facetPick j) s [.rot, .acc, .ray] (fun t =>
        tget t.acc.facetCams camsNowKey [] =
          pickFrames s (tget s.acc.facetCams camsNowKey []) (camLayers s true)))) ∧
    (s.rot.angleValid = true → ∀ j, j < 4 → angleDue 4 (deadlineAtk j) s = true →
      (s.acc.comp = none → Happens (.compositionDeadline j) s [.rot, .acc] (fun t =>
        t.acc = { s.acc with lateFrame := if j = 0 then false else s.acc.lateFrame })) ∧
      (∀ c, s.acc.comp = some c → j = 0 → c.facet = 0 → c.late = false → s.acc.queuedFrame = false →
        Happens (.compositionDeadline j) s [.rot, .acc, .ctrs] (fun t => Counted .composeLate 1 s t ∧ Raised 96 t ∧
          t.acc = { s.acc with lateFrame := true, queuedLate := false, comp := some { c with late := true } })) ∧
      (∀ c, s.acc.comp = some c → j ≠ 0 → c.facet = j → s.acc.queuedFrame = false →
        Happens (.compositionDeadline j) s [.rot, .acc, .ctrs] (fun t => Counted .composeLate 1 s t ∧ Raised 96 t ∧
          t.acc.comp = none ∧ t.acc.lateFrame = s.acc.lateFrame ∧ tget t.acc.facetCams camsNowKey [] = c.prev)) ∧
      (∀ c, s.acc.comp = some c → j ≠ 0 → c.facet ≠ j → Happens (.compositionDeadline j) s [.rot] (fun _ => True))) ∧
    (∀ x, s.acc.comp ≠ none → s.acc.queuedFrame = false →
      Happens (.compositionEnd x) s [.rot, .acc, .mem, .ray, .sdec, .ctrs] (fun t => t.acc.comp = none ∧
        t.acc.frameCams = s.acc.frameCams))

/-- A slot of a facet that may scan sends the row packets of its row pair, and one that may not ends the scan. A latch
ends the slot with the ROW frame of its row on every link and moves to the next row; a lane in underrun has sent its last
value for each missing one, a packet too long for its slot is cut, and underruns are counted by quadrant. The lanes enter
and leave L1s at their angles in the blank of a facet whose scan has ended. A zone row whose pulse may start takes the currents of R310 and their DAC
codes for its 16 zones and no others; a pulse that something forbids does not light; at its end, ZONE_ON_ATK after its start, the row is dark. Mid-
pulse the lit sinks are judged; the same fault a third time is recorded, and the zone is dark from then on; a sink at
its on-time limit goes dark. (R245, R254, R255, R257, R264, R276, R279, R289, R310, R313, R451.) -/
def Obligations.RowsAndZonesFollowTheScan : Prop :=
  ∀ s : State, LightInv s → 
    (∀ n, s.plt.state ≠ .l0 → Nothing (.rowSlotStart n) s) ∧
    (∀ n, s.sco.scanning = true → s.sco.inSlot = false → s.sco.row < 4320 → s.plt.state = .l0 → live s = true →
      (canShow s = true → Happens (.rowSlotStart n) s [.rot, .sco, .plt, .mem] (fun t =>
        t.plt = { s.plt with packets := slotPackets s s.sco.row, reps := 1 } ∧
        t.sco = { s.sco with inSlot := true, rowsAhead := min n 16, tolerance := slotTolerance s (min n 16) } ∧
        t.mem = { s.mem with urgentSeen := s.mem.urgentSeen || decide (min n 16 < par s 0x4206) })) ∧
      (canShow s = false → Happens (.rowSlotStart n) s [.sco] (fun t => t.sco = { s.sco with scanning := false }))) ∧
    (s.sco.scanning = true → s.sco.inSlot = true → live s = true → ∀ miss sent lost,
      sent = (List.range 256).map (laneLatched s miss s.sco.row) → lost = lateQuadrants sent →
      (lost = 0 → Happens (.rowLatch miss) s [.rot, .sco, .gcl, .plt] (fun t =>
        t.sco.inSlot = false ∧ t.sco.row = s.sco.row + 1 ∧ t.sco.frame = s.sco.frame ∧
        t.sco.scanning = scanGoesOn s.sco.row s ∧
        t.plt = { s.plt with packets := sent.map (·.1), lastVal := sent.map (·.2.2) } ∧
        t.gcl = { s.gcl with
          frames := { link := 32, bits := gcSymbols (rowBody s.sco.row (sentFacet s) s.sco.flat) } :: s.gcl.frames })) ∧
      (lost ≠ 0 → Happens (.rowLatch miss) s [.rot, .sco, .gcl, .plt, .ctrs] (fun t =>
        t.sco.inSlot = false ∧ t.sco.row = s.sco.row + 1 ∧ t.sco.underrunSeen = true ∧
        t.plt = { s.plt with packets := sent.map (·.1), lastVal := sent.map (·.2.2) } ∧
        (∀ q, q < 4 → Advanced (underrunCtr q) (if lost.getLsbD q then 1 else 0) s t) ∧
        (s.sco.underrunSeen = false → Raised 33 t)))) ∧
    (l1sDue s = false → Nothing .laneL1sEntry s) ∧ (s.plt.state ≠ .l1s → Nothing .laneL1sExit s) ∧
    (s.rot.angleValid = true → l1sDue s = true → angleDue 6 (l1sEntryAtk s) s = true →
      Happens .laneL1sEntry s [.rot, .plt] (fun t => t.plt = { s.plt with state := .l1s } ∧
        t.rot.angle = (angleTo (l1sEntryAtk s % 65536) s).rot.angle)) ∧
    (s.rot.angleValid = true → s.plt.state = .l1s → angleDue 7 (l1sExitAtk s) s = true →
      Happens .laneL1sExit s [.rot, .plt] (fun t => t.plt = { s.plt with state := .l0 } ∧
        t.rot.angle = (angleTo (l1sExitAtk s % 65536) s).rot.angle)) ∧
    (∀ row x, pulseStart s row = some x → row < 8 → live s = true → s.rot.angleValid = true → s.bl.pulsed.getD row 0 ≠ quarter s →
      ((mayLight s = false ∨ s.sco.isDark = true) → Happens (.zonePulseStart row) s [.rot, .bl] (fun _ => True)) ∧
      (mayLight s = true → s.sco.isDark = false → s.bl.lit.length = 8 → s.bl.current.length = 128 → s.bl.dac.length = 128 →
        Happens (.zonePulseStart row) s [.rot, .bl, .light] (fun t => t.bl.lit = s.bl.lit.set row true ∧
          t.rot.litOk = s.rot.litOk ∧ t.bl.throttle = s.therm.step ∧
          t.bl.pulseEnd = s.bl.pulseEnd.set row (x + setParam s.sco.frameSet 0x4201) ∧
          (∀ z ∈ rowZones row, t.bl.current.getD z 0 = zoneCurrent s z ∧
            t.bl.sinkOn.getLsbD z = (zoneCurrent s z != 0) ∧
            t.bl.dac.getD z 0 = (if zoneCurrent s z = 0 then 0 else dacCode s (zoneSink s z) (zoneCurrent s z))) ∧
          (∀ z, z ∉ rowZones row → t.bl.current.getD z 0 = s.bl.current.getD z 0 ∧
            t.bl.sinkOn.getLsbD z = s.bl.sinkOn.getLsbD z ∧ t.bl.dac.getD z 0 = s.bl.dac.getD z 0)))) ∧
    (∀ row, s.bl.lit.getD row false = true →
      Happens (.zonePulseEnd row) s [.rot, .light] (fun t => t.bl.lit = s.bl.lit.set row false ∧
        t.rot.angle = (angleTo (s.bl.pulseEnd.getD row 0) s).rot.angle ∧
        (∀ z ∈ rowZones row, t.bl.current.getD z 0 = 0 ∧ t.bl.dac.getD z 0 = 0 ∧ t.bl.sinkOn.getLsbD z = false) ∧
        (∀ z, z ∉ rowZones row → t.bl.current.getD z 0 = s.bl.current.getD z 0 ∧
          t.bl.sinkOn.getLsbD z = s.bl.sinkOn.getLsbD z)) ∧
      ∀ mv, Happens (.zoneMidPulseCheck row mv) s [.bl] (fun t => t.bl = { s.bl with verdict := t.bl.verdict } ∧
        ∀ z, tget t.bl.verdict z (SinkFault.okay, 0) =
          (if z ∈ rowZones row ∧ z - 16 * row < mv.length ∧ s.bl.sinkOn.getLsbD z = true then
            (if sinkVerdict (mv.getD (z - 16 * row) 0) = .okay then (.okay, 0)
             else (sinkVerdict (mv.getD (z - 16 * row) 0),
               if (tget s.bl.verdict z (SinkFault.okay, 0)).1 = sinkVerdict (mv.getD (z - 16 * row) 0) then
                 (tget s.bl.verdict z (SinkFault.okay, 0)).2 + 1 else 1))
           else tget s.bl.verdict z (SinkFault.okay, 0)))) ∧
    (∀ z, z < 128 → 3 ≤ (tget s.bl.verdict z (SinkFault.okay, 0)).2 → s.bl.fault.getLsbD z = false →
      Happens (.zoneFaultRecord z) s [.bl, .light, .ctrs, .bb] (fun t => Counted .zoneFault 1 s t ∧ Raised 59 t ∧
        t.bl.fault = s.bl.fault ||| BitVec.ofNat 128 (2 ^ z) ∧ t.bl.current.getD z 0 = 0 ∧ t.bl.lit = s.bl.lit ∧
        zoneCurrent t z = 0)) ∧
    (∀ z, s.bl.sinkOn.getLsbD z = true → Happens (.sinkOnTimeLimit z) s [.light] (fun t =>
      t.bl.sinkOn.getLsbD z = false ∧ t.bl.current.getD z 0 = 0 ∧ t.bl.lit = s.bl.lit))

/-- For a port that receives: a packet of another channel, or a line of another data type, is dropped and counted. A
frame start begins a frame, and damages one whose end is missing, which is counted and raises source 98. A line of the
right length, check and place is converted and written to its place in the frame's buffer and nowhere else; any other
damages the frame. A frame end with every line received ends the frame; else it is damaged. A complete frame gets the
next number and its time and becomes the newest; a port with no good frame for its limit is stale. (R127, R128, R130.)
-/
def Obligations.CameraPortsReceiveFrames : Prop :=
  ∀ s : State, LightInv s → ∀ (n : Nat), n < 4 → s.acc.ports.length = 4 → (s.acc.ports.getD n {}).receiving = true →
    ∀ (p : CamPort), s.acc.ports.getD n {} = p →
    (∀ h, p.rx = none → h.ok = true → h.vc ≠ pVc p →
      Happens (.camFrameStartPacket n h) s [.ctrs] (fun t => Counted (camDroppedCtr n) 1 s t)) ∧
    (∀ h, p.rx = none → (h.ok = false ∨ h.vc = pVc p) → Happens (.camFrameStartPacket n h) s [.acc] (fun t =>
      t.acc = { s.acc with ports := s.acc.ports.set n { p with rx := some {
        lines := 0, damaged := !h.ok, ended := false, buf := freeBuf s n p, fmt10 := pDt p == 0x1F } } })) ∧
    (∀ h r, p.rx = some r → r.ended = false → (h.ok = false ∨ h.vc = pVc p) →
      Happens (.camFrameStartPacket n h) s [.acc, .ctrs] (fun t => Counted (camDamagedCtr n) 1 s t ∧ Raised 98 t ∧
        ((t.acc.ports.getD n {}).rx.map (fun x => (x.lines, x.damaged, x.ended))) = some (0, !h.ok, false))) ∧
    (∀ h crc bs, h.ok = true → (h.vc ≠ pVc p ∨ h.dt ≠ pDt p) →
      Happens (.camLongPacket n h crc bs) s [.ctrs] (fun t => Counted (camDroppedCtr n) 1 s t)) ∧
    (∀ h crc bs r, p.rx = some r → r.ended = false → h.ok = true → h.vc = pVc p → h.dt = pDt p →
      (crc = true → bs.length = lineBytes (pDt p) (pW p) → r.lines < pH p → s.mem.changing = none →
        Happens (.camLongPacket n h crc bs) s [.acc, .mem] (fun t =>
          t.acc = { s.acc with ports := s.acc.ports.set n { p with rx := some { r with lines := r.lines + 1 } } } ∧
          t.mem = memStore (camBase n r.buf + 4 * r.lines * pW p)
            ((List.range (pW p)).flatMap (fun x => leBytes 4 (camPixel (pDt p) (pMatrix p) bs x))) s.mem)) ∧
      ((crc = false ∨ bs.length ≠ lineBytes (pDt p) (pW p) ∨ pH p ≤ r.lines ∨ s.mem.changing.isSome = true) →
        Happens (.camLongPacket n h crc bs) s [.acc] (fun t =>
          t.acc = { s.acc with ports := s.acc.ports.set n { p with rx := some { r with lines := r.lines + 1, damaged := true } } }))) ∧
    (∀ h, h.ok = true → h.vc ≠ pVc p →
      Happens (.camFrameEndPacket n h) s [.ctrs] (fun t => Counted (camDroppedCtr n) 1 s t)) ∧
    (∀ h r, p.rx = some r → r.ended = false → (h.ok = false ∨ h.vc = pVc p) →
      ((r.damaged = true ∨ h.ok = false ∨ r.lines ≠ pH p) → Happens (.camFrameEndPacket n h) s [.acc, .ctrs] (fun t =>
        Counted (camDamagedCtr n) 1 s t ∧ Raised 98 t ∧
        t.acc = { s.acc with ports := s.acc.ports.set n { p with rx := none } })) ∧
      (r.damaged = false → h.ok = true → r.lines = pH p → Happens (.camFrameEndPacket n h) s [.acc] (fun t =>
        t.acc = { s.acc with ports := s.acc.ports.set n { p with rx := some { r with ended := true } } }))) ∧
    (∀ r, p.rx = some r → r.ended = true → Happens (.camFrameComplete n) s [.acc] (fun t =>
      (p.good = false → Raised 101 t) ∧ ∃ f fs, t.acc = { s.acc with ports := s.acc.ports.set n { p with
          rx := none, nextSeq := (p.nextSeq + 1) % 2 ^ 32, stale := false, good := true, frames := f :: fs } } ∧
        f.buf = r.buf ∧ f.seq = (p.nextSeq + 1) % 2 ^ 32 ∧ f.time = stampTime s ∧ f.w = pW p ∧ f.h = pH p ∧
        (∀ g ∈ fs, g ∈ p.frames ∧ camKey n g.seq ∈ shownCams s))) ∧
    Happens (.camStale n) s [.acc] (fun t =>
      t.acc.ports = s.acc.ports.set n { p with stale := true, staleFrame := true } ∧
      (setParam s.cfg.active 0x2101 ≠ 1 → t.acc = { s.acc with ports := t.acc.ports }))

/-- While it works on fewer than eight SCENE_LOADs the decoder takes the oldest that waits, with its stream. A block is
taken only of the command whose turn it is. A stream
that ends inside a header, or a header whose check is wrong, is counted as a failed block and entered in the error
queue with its status. A block with a good header that passes the binding waits for an engine at its place in its
plane's buffer. The next block that may go takes the lowest free engine (the model's choice, log 74). A block that ends in its engine is
written to its place, and nothing else is unless a Blitter operation has written some of the same bytes without an order;
one whose content and check value hold is counted as good, one that does not decode or whose check value differs as
failed, with source 129 for the latter. A block whose bytes have been locked since it was bound is refused and writes
nothing, which is the model's reading (log 75). Carry-forward starts once the outgoing epoch is released, and ends plane
by plane, a plane that the outgoing epoch still reads waiting. (R60, R64, R66, R79, R95, R96, R97, R98, R100, R106.) -/
def Obligations.SceneDecoderTakesBlocks : Prop :=
  ∀ s : State, LightInv s → sdecRuns s = true →
    (∀ tg f, s.sdec.jobs.length < 8 → oldestLoad s = some tg → flightOf s tg = some f →
      Happens .sceneLoadTaken s [.sdec, .books] (fun t => t.sdec.waiting = s.sdec.waiting.filter (· != tg) ∧
        t.hif.replies = s.hif.replies ∧ ∃ j, t.sdec.jobs = s.sdec.jobs ++ [j] ∧ j.tag = tg ∧ j.offset = 0 ∧ j.next = 0 ∧
          j.ended = false ∧ j.stream = pdata s f.p)) ∧
    (∀ tg, (turnJob s).map (·.tag) ≠ some tg → Nothing (.sdecBlockParse tg) s) ∧
    (∀ tg j h, turnJob s = some j → s.sdec.jobs.find? (fun x => x.tag == tg) = some j → j.ended = false →
      (j.stream.drop j.offset).take 32 = h →
      (∀ st, (h.length < 32 ∧ st = St.nzTruncated ∨
          h.length = 32 ∧ streamPoisoned s tg j.offset 32 = false ∧ (crc32c (h.take 28)).toNat ≠ nzHcheck h ∧ st = St.nzHdrCheck) →
        Happens (.sdecBlockParse tg) s [.sdec, .ctrs, .bb, .books, .blt] (fun t => Counted .blocksFail 1 s t ∧
          (s.sdec.errs.length < 64 → ∃ e, t.sdec.errs = s.sdec.errs ++ [e] ∧ e.status = st ∧ e.tag = tg ∧ e.offset = j.offset))) ∧
      (h.length = 32 → streamPoisoned s tg j.offset 32 = false → (crc32c (h.take 28)).toNat = nzHcheck h → nzWellFormed h = true →
        carryPlane s (nzPlane h) = false → nzPlane h < 64 → nzPlane h < planeCount s.cfg.draft →
        nzScene h = dScene (planeOf s.cfg.draft (nzPlane h)) →
        nzDest h * 256 + nzUlen h ≤ dLen (planeOf s.cfg.draft (nzPlane h)) →
        isLocked s (loadBuf s (nzPlane h) + nzDest h * 256) (nzUlen h) = false →
        j.offset + 32 + nzPlen h ≤ j.stream.length →
        Happens (.sdecBlockParse tg) s [.sdec] (fun t => ∃ b, t.sdec.blocks = s.sdec.blocks ++ [b] ∧ b.tag = tg ∧
          b.index = j.next ∧ b.plane = nzPlane h ∧ b.engine = none ∧ b.held = false ∧ b.ulen = nzUlen h ∧
          b.desc = planeOf s.cfg.draft (nzPlane h) ∧ b.buf = loadBuf s (nzPlane h) ∧
          b.dst = loadBuf s (nzPlane h) + nzDest h * 256 ∧ t.sdec.errs = s.sdec.errs ∧
          t.sdec.turn = flightSeq s tg + 1))) ∧
    ((∀ f ∈ s.hif.flights, f.op ≠ 0x0202) → (∀ tg b e, (∀ x ∈ s.sdec.blocks, x.held = false) →
        s.sdec.blocks.find? (fun b => b.tag == tg && b.engine.isNone && !b.held && !blockWaits s b) = some b →
        freeEngine s = some e →
        (isLocked s b.dst b.ulen = false → Happens (.sdecBlockDispatch tg) s [.sdec] (fun t =>
          t.sdec = { s.sdec with blocks := s.sdec.blocks.map (fun x => if x = b then { x with engine := some e } else x) })) ∧
        (isLocked s b.dst b.ulen = true →
          Happens (.sdecBlockDispatch tg) s [.sdec, .cfg, .books, .blt, .ctrs, .bb] (fun t => Counted .blocksFail 1 s t ∧
            t.sdec.blocks = s.sdec.blocks.filter (fun x => x != b)))) ∧
      (∀ e b, s.sdec.blocks.find? (fun b => b.engine == some e) = some b →
        (isLocked s b.dst b.ulen = true →
          Happens (.sdecBlockComplete e) s [.sdec, .cfg, .books, .blt, .ctrs, .bb] (fun t => Counted .blocksFail 1 s t ∧
            t.sdec.blocks = s.sdec.blocks.filter (fun x => x != b))) ∧
        (∀ st out, isLocked s b.dst b.ulen = false → streamPoisoned s b.tag (b.offset + 32) b.plen = false →
          nzDecode (nzRaw b.header) b.ulen (blockPayload s b) = (st, out) →
          Happens (.sdecBlockComplete e) s [.sdec, .mem, .freeCtr, .cfg, .books, .blt, .ctrs, .bb] (fun t =>
            t.mem.cells = (memStore b.dst out s.mem).cells ∧
            (MarksOf s b.tag false → t.mem = memStore b.dst out s.mem) ∧
            t.sdec.blocks = s.sdec.blocks.filter (fun x => x != b) ∧
            (st = St.ok → (crc32c out).toNat = nzDcheck b.header → Counted .blocksOk 1 s t) ∧
            (st = St.ok → (crc32c out).toNat ≠ nzDcheck b.header →
              Advanced .cvuMismatch 1 s t ∧ Advanced .blocksFail 1 s t ∧ Raised 129 t) ∧
            (st ≠ St.ok → Counted .blocksFail 1 s t))))) ∧
    (s.cfg.carry ≠ [] → s.cfg.outgoing = none → s.cfg.carryRun = false →
      Happens .carryForwardStart s [.cfg] (fun t => t.cfg = { s.cfg with carryRun := true })) ∧
    (∀ c rest, s.cfg.carry = c :: rest → s.cfg.carryRun = true →
      (c.free = false → s.cfg.outgoing.isSome = true → Nothing .carryForwardEnd s) ∧
      ((c.free = true ∨ s.cfg.outgoing = none) → Happens .carryForwardEnd s [.cfg, .mem] (fun t =>
        t.cfg = { s.cfg with carry := rest, carryRun := !rest.isEmpty } ∧ t.mem = (carryCopy c s).mem)))

/-- The running capture job writes its next block at its place in the thumbnail ring, behind padding of zeros, and goes
on; the block is counted, and one that its verify refuses is stored raw, counted and raises sources 129 and 133. A job that
reads a poisoned granule is abandoned. A job whose input is used up ends with source 132, and its thumbnail waits for the
frame's records. The operation at the head of the Blitter's queue starts when its checks pass, or waits while the controller
gives its traffic nothing, and otherwise ends with the status of the first that fails; it is counted and its command has
its reply. The running operation ends with its pixels written, its clip rectangle set, or ST_MEM_UNCORR where its source is
poisoned; an operation that leaves the queue empty raises source 241. (R112, R116, R117, R191, R195, R202,
R203, R209.) -/
def Obligations.EncoderAndBlitterRun : Prop :=
  ∀ s : State, LightInv s → 
    (sdecRuns s = true → ∀ j rest, s.sdec.cenc = j :: rest → j.units ≠ 0 →
      (∀ sound raw, j.pos < j.input.length → cencPoisoned s j = false →
        raw = !(!j.raw && decide ((cencPayload j).length < (cencData j).length) && sound &&
          nzVerified (cencData j) (cencPayload j)) →
        Happens (.cencBlockVerify sound) s [.sdec, .mem, .sil, .ctrs, .bb] (fun t =>
          Advanced .cencBlocks 1 s t ∧ (raw = true → Advanced .cencRaw 1 s t) ∧
          (raw = false → ctrVal t .cencRaw = ctrVal s .cencRaw ∧ ctrVal t .cencVerifyFail = ctrVal s .cencVerifyFail) ∧
          (raw = true → j.raw = false → (cencPayload j).length < (cencData j).length →
            Advanced .cencVerifyFail 1 s t ∧ Raised 129 t ∧ Raised 133 t) ∧
          ∃ k bytes, t.sdec = { s.sdec with cenc := k :: rest } ∧ k.region = j.region ∧ k.block = j.block + 1 ∧
            k.pos = j.pos + (cencData j).length ∧ k.out = j.out ++ bytes ∧
            bytes = List.replicate (align8 j.out.length - j.out.length) 0 ++
              nzBlockBytes raw (decide (j.input.length ≤ j.pos + (cencData j).length)) j.sceneId j.region j.block
                (j.pos / 256) (cencData j) (if raw then cencData j else cencPayload j) ∧
            t.mem = thumbStore j.start j.out.length bytes s.mem)) ∧
      (∀ sound, j.pos < j.input.length → cencPoisoned s j = true → Happens (.cencBlockVerify sound) s [.sdec] (fun t =>
        t.sdec.cenc.map (·.region) = rest.map (·.region) ∧
        t.sdec.thumbs = s.sdec.thumbs ++ [{ region := j.region, status := 1, rseq := j.sceneId.toNat, offset := j.start
                                            stream := j.out }])) ∧
      (j.input.length ≤ j.pos → Happens .cencJobDone s [.sdec] (fun t => Raised 132 t ∧
        t.sdec.cenc.map (·.region) = rest.map (·.region) ∧
        t.sdec.thumbs = s.sdec.thumbs ++ [{ region := j.region, status := 0, rseq := j.sceneId.toNat, offset := j.start
                                            stream := j.out }]))) ∧
    (∀ b rest, s.blt.queue = b :: rest →
      (memOpen s = false → Nothing .bltOpStart s ∧ Nothing .bltOpEnd s) ∧
      (s.blt.running = false → b.dep = .met → s.cond.coast = false → memOpen s = true →
        (bltCheck s b.op b.desc = none → bltMoves s b.op b.desc = true → requesterCap s 5 = some 0 →
          Happens .bltOpStart s [.books] (fun t => t.hif.replies = s.hif.replies)) ∧
        (bltCheck s b.op b.desc = none → ¬ (bltMoves s b.op b.desc = true ∧ requesterCap s 5 = some 0) →
          Happens .bltOpStart s [.blt, .books] (fun t =>
            t.blt = { s.blt with running := true, staging := bltStaged b.op b.desc } ∧ t.hif.replies = s.hif.replies)) ∧
        (∀ st f, bltCheck s b.op b.desc = some st → Flying s b.tag f →
          Happens .bltOpStart s [.blt, .books, .ctrs] (fun t => Counted .bltFail 1 s t ∧ Finished s t f st ∧
            t.blt.running = false ∧ t.blt.queue.map (·.tag) = rest.map (·.tag) ∧ (rest = [] → Raised 241 t)))) ∧
      (s.blt.running = true → memOpen s = true → ∀ f, Flying s b.tag f →
        (b.op = 0x0504 → Happens .bltOpEnd s [.blt, .books, .ctrs] (fun t => Counted .bltOps 1 s t ∧ Finished s t f 0 ∧
          t.blt.clip = tset s.blt.clip (field b.desc 0 1)
            (field b.desc 4 2, field b.desc 6 2, field b.desc 8 2, field b.desc 10 2) ∧
          t.blt.running = false ∧ (rest = [] → Raised 241 t))) ∧
        (b.op ≠ 0x0504 → ¬(b.op = 0x0502 ∧ (bltSrcRows b.desc).any (fun r => memPoisoned s.mem r.1 r.2) = true) →
          Happens .bltOpEnd s [.blt, .books, .ctrs, .mem, .freeCtr] (fun t => Counted .bltOps 1 s t ∧ Finished s t f 0 ∧
            t.mem.cells = (bltRun b.op b.desc s).mem.cells ∧
            (MarksOf s b.tag true → t.mem = (bltRun b.op b.desc s).mem) ∧ t.blt.clip = s.blt.clip ∧ t.blt.running = false ∧
            (rest = [] → Raised 241 t))) ∧
        (b.op = 0x0502 → (bltSrcRows b.desc).any (fun r => memPoisoned s.mem r.1 r.2) = true →
          Happens .bltOpEnd s [.blt, .books, .ctrs, .mem, .freeCtr] (fun t => Counted .bltFail 1 s t ∧
            Finished s t f St.memUncorr ∧ t.mem.cells = s.mem.cells ∧ t.blt.running = false))))

/-- CALIBRATE with its references in range and every zone measured applies together the values that its measurements
give, an input keeping its OFFSET, raises source 13 and ends with ST_OK; with a reference out of range it ends with
ST_CAL_REF and applies nothing. The oldest load of a ray-map slot ends with the verdict of its
image, and the slot is READY or EMPTY. FW_STAGE leaves the slot valid when the signature is right. MEM_TEST leaves its
range undefined and all other memory as it was, and raises source 74. A flush ends with its segment at the head of the
log and source 245, or with source 246. A periodic seal becomes due after 1,000 ms; at the end of the second after a
FAULT flush what was held back is flushed. (R43, R422, R423, R480, R483, R522, R526, R528, R532.) -/
def Obligations.LongCommandsEnd : Prop :=
  ∀ s : State, LightInv s → 
    (∀ r f, s.therm.calRun = some r → s.therm.calWait = [] → Flying s r.tag f → startedFlights s 0x0A03 = [f] →
      (∀ uv uohm ms, refsOk uv uohm = true → zonesMeasured s r = true →
        Happens (.calibrateDone ⟨uv, uohm⟩ ms) s [.therm, .cfg, .freeCtr, .books, .blt] (fun t =>
          Finished s t f 0 ∧ Raised 13 t ∧ t.therm.calRun = none ∧ t.cfg = { s.cfg with params := t.cfg.params } ∧
          (r.item = 0 → r.items.Nodup → ∀ i k v, r.items[i]? = some k →
            sinkCal (ms.getD i (0, 0)).1 (ms.getD i (0, 0)).2 = some v →
            tget t.cfg.params (0xA000 + k) (paramDefault (0xA000 + k)) = BitVec.ofNat 32 v) ∧
          (r.item ≠ 0 → r.items.Nodup → ∀ i k v, k < 16 → r.items[i]? = some k →
            inputGain (refOf s k) (ms.getD i (0, 0)).1 = some v →
            tget t.cfg.params (0xA100 + k) (paramDefault (0xA100 + k)) =
              BitVec.ofNat 32 (v % 65536 + par s (0xA100 + k) / 65536 * 65536)))) ∧
      (∀ uv uohm ms, refsOk uv uohm = true → zonesMeasured s r = false → Nothing (.calibrateDone ⟨uv, uohm⟩ ms) s) ∧
      (∀ uv uohm ms, refsOk uv uohm = false → Happens (.calibrateDone ⟨uv, uohm⟩ ms) s [.therm, .books, .blt] (fun t =>
        Finished s t f St.calRef ∧ t.therm.calRun = none))) ∧
    (∀ tg f, Flying s tg f → f.op = 0x0210 → f.started = true → slotLoads s (pf f.p 0x14 1) = [tg] → s.rmap.state.length = 4 →
      s.rmap.image.length = 4 → pf f.p 0x14 1 < 4 → Happens (.raymapLoadCompletion tg) s [.rmap, .books, .blt] (fun t =>
        Finished s t f (raymapImageCheck (pdata s f.p)) ∧
        t.rmap.image = s.rmap.image.set (pf f.p 0x14 1) (if raymapImageCheck (pdata s f.p) = 0 then pdata s f.p else []) ∧
        (raymapImageCheck (pdata s f.p) = 0 → pdata s f.p ≠ [] → t.rmap.state.getD (pf f.p 0x14 1) .empty = .ready) ∧
        (raymapImageCheck (pdata s f.p) ≠ 0 → t.rmap.state.getD (pf f.p 0x14 1) .empty = .empty) ∧
        (∀ n, n ≠ pf f.p 0x14 1 → t.rmap.state.getD n .empty = s.rmap.state.getD n .empty))) ∧
    (∀ tg n img f, live s = true → s.pwr.fwTag = some (tg, n, img) → Flying s tg f → startedFlights s 0x0B01 = [f] →
      Happens .fwStageCompletion s [.pwr, .books, .blt] (fun t =>
        Finished s t f (if Config.sigOk img then 0 else St.fwSignature) ∧
        t.pwr = { s.pwr with fwTag := none, slots := s.pwr.slots.set n (img, Config.sigOk img) })) ∧
    (∀ f rest n a, startedFlights s 0x0803 = f :: rest → Flying s (ptag f.p) f →
      Happens (.memTestDone n a) s [.mem, .freeCtr, .books, .blt] (fun t =>
        Finished s t f (if n = 0 then 0 else St.memTest) ∧ Raised 74 t ∧ t.mem.cells = s.mem.cells ∧
        MemOutside s t (pf f.p 0x18 8) (pf f.p 0x20 8))) ∧
    (live s = true → ∀ j, s.sil.flush = some j →
      (j.tag = none → startedFlights s 0x0904 = [] → Happens (.silFlushEnd true) s [.sil, .ctrs, .bb] (fun t =>
        Counted .silFlush 1 s t ∧ Raised 245 t ∧ t.sil.flush = none ∧ t.sil.nand = j.bytes :: s.sil.nand ∧
        t.sil.flushed = j.lastRseq)) ∧
      (∀ f, j.tag = some (ptag f.p) → Flying s (ptag f.p) f → startedFlights s 0x0904 = [f] →
        Happens (.silFlushEnd true) s [.sil, .ctrs, .bb, .books, .blt] (fun t => Finished s t f 0 ∧
          Counted .silFlush 1 s t ∧ Raised 245 t ∧ t.sil.flush = none ∧ t.sil.nand = j.bytes :: s.sil.nand) ∧
        Happens (.silFlushEnd false) s [.sil, .ctrs, .bb, .books, .blt, .freeCtr, .pwr] (fun t => Finished s t f St.nand ∧
          Counted .silNandErr 1 s t ∧ Raised 246 t ∧ t.sil.flush = none ∧ t.sil.records = s.sil.records))) ∧
    (live s = true → Records s → s.sil.freeNs + 1000000000 ≤ s.clock →
      Happens .silPeriodicSeal s [.sil] (fun t => t.sil = { s.sil with sealNext := true })) ∧
    (live s = true → s.bb.second = true →
      (s.bb.again = false → Happens .bbFlushSecondEnd s [.bb] (fun t => t.bb = { s.bb with second := false })) ∧
      (s.bb.again = true → s.cond.coast = false → 2 ≤ s.pwr.released →
        Happens .bbFlushSecondEnd s [.bb, .sil, .ctrs] (fun t => Counted .bbFlush 1 s t ∧ Raised 248 t ∧ t.bb.again = false ∧
          t.bb.second = true ∧ t.sil.bbSlots.tail = s.sil.bbSlots.take 511)))

/-- An entry sequence whose last step has ended puts its mode into force and answers its MODE_SET, where LIGHTFIELD still
has a READY slot to show; a step that has not ended goes on. A requested training begins at the revolution start and
serves the LINK_TRAINs that wait. Training makes its attempts: where every lane passes, the lanes are in L0, and power-on
or the commands it serves end, a far-end loopback test among them; lanes that fail every attempt set FAULT with source
48, and a driver that answers no read sets FAULT with source 51. A near-end loopback test ends with its failed lanes; a
far-end one ends with training, or at once where the panel is not ON (log 78). A poll goes round the devices of its link,
once in a blank: a lost lock is counted with source 49, and a read that finally fails sets FAULT. An exchange starts with
its frame where it fits before the next window, the module's own first; a right reply ends it, a stopped link gives none,
and a bad or missing one repeats it up to the limit, after which it fails, counted, with ST_GC_CRC or ST_GC_NO_REPLY, or
with FAULT for one of the module's own. (R263, R281, R282, R283, R284, R286, R292, R293, R295, R564.) -/
def Obligations.ModesAndLinksGoOn : Prop :=
  ∀ s : State, LightInv s →
    (live s = true → ∀ q c, s.cond.seq = some q → q.steps.head? = some c → c ≠ 9 → q.begun = true →
      (stepOver c q s = true → q.steps = [c] → s.cond.parkNext = false →
        (q.toM = .lightfield → raymapCheck s { s.cfg.draft with mode := .lightfield } = none) →
        (q.toM = .parked → s.blt.queue = []) → ∀ tg f, q.tag = some tg → Flying s tg f →
        Happens .modeEntryStepEnd s [.cond, .sco, .cfg, .bb, .sil, .mem, .books, .blt, .light] (fun t =>
          t.cond = { s.cond with seq := none, mode := q.toM } ∧ Finished s t f q.st ∧ t.sco.flat = flatTiming s q.toM ∧
          t.cfg.active.mode = q.toM ∧ (q.toM = .parked → t.sil.running = false ∧ t.mem = s.mem) ∧
          (q.toM ≠ .parked → t.sil.running = true))) ∧
      (stepOver c q s = true → q.steps = [c] → s.cond.parkNext = false → q.toM = .parked →
        Happens .modeEntryStepEnd s [.cond, .sco, .cfg, .bb, .sil, .mem, .books, .blt, .light, .ctrs] (fun t =>
          t.cond = { s.cond with seq := none, mode := .parked } ∧ t.sil.running = false ∧ t.mem = s.mem ∧
          t.blt.queue = [])) ∧
      (stepOver c q s = false → c ≠ 3 → Nothing .modeEntryStepEnd s)) ∧
    (atTrainStart s = false → Nothing .linkTrainBegin s) ∧
    (s.plt.trainWait.isSome = true → s.pnl.state = .on → s.plt.state ≠ .training → s.cond.coast = false → live s = true →
      atTrainStart s = true → trainWaiting s ≠ [] →
      Happens .linkTrainBegin s [.books, .plt, .sco, .gcl, .light] (fun t =>
        t.plt.state = .training ∧ t.plt.trainFor = 2 ∧ t.plt.trainWait = none ∧ t.plt.rate27 = laneRate27 s ∧
        t.sco.linkDark = true ∧ t.sco.scanning = false ∧ t.bl.lit = List.replicate 8 false ∧ t.hif.replies = s.hif.replies)) ∧
    (s.plt.state = .training → s.plt.trainFor ≠ 0 → live s = true → ∀ reads sum u,
      trainAttempts s.plt.tries (List.range 256) reads s = (sum, u) →
      (sum.lost = none → laneMask sum.failing = 0 → s.plt.trainWait = none →
        (3 ≤ s.plt.trainFor → s.plt.trainFor ≠ 5 → Happens (.trainingEnd reads) s [.plt, .sco, .gcl] (fun t =>
          t.plt = { u.plt with state := .l0, trainFor := 0, trained := true, trainFail := 0 } ∧ t.gcl = u.gcl ∧
          t.sco = { s.sco with linkDark := false })) ∧
        (s.plt.trainFor = 5 → ∀ r tg f, s.plt.loopRes = some r → s.plt.loopTag = some tg → Flying s tg f →
          startedOf s 0x0411 = [tg] →
          Happens (.trainingEnd reads) s [.plt, .sco, .gcl, .books, .blt] (fun t => Finished s t f 0 ∧ Raised 50 t ∧
            t.plt.loopTag = none ∧ t.plt.loopBusy = false ∧ t.plt.trained = true)) ∧
        (s.plt.trainFor = 2 → ∀ f, trainServed s = [ptag f.p] → Flying s (ptag f.p) f →
          Happens (.trainingEnd reads) s [.plt, .sco, .gcl, .books, .blt] (fun t => Finished s t f 0 ∧
            t.plt.state = .l0 ∧ t.plt.trained = true)) ∧
        (s.plt.trainFor = 1 → s.pnl.cmds = [] → Happens (.trainingEnd reads) s [.plt, .sco, .gcl, .pnl] (fun t =>
          Raised 56 t ∧ t.plt.state = .l0 ∧ t.pnl = { s.pnl with state := .on, step := 0 }))) ∧
      (sum.lost = none → laneMask sum.failing ≠ 0 → Happens (.trainingEnd reads) s faultParts (fun t =>
        FaultSet s t ∧ Raised 48 t ∧ t.plt.trained = false ∧ t.plt.trainFail = laneMask sum.failing)) ∧
      (∀ l, sum.lost = some l → Happens (.trainingEnd reads) s faultParts (fun t => FaultSet s t ∧ Raised 51 t ∧
        Advanced .gclNoReply 1 s t))) ∧
    (∀ tg f errs reads lanes, s.plt.loopTag = some tg → s.plt.loopRes = none → Flying s tg f → startedOf s 0x0411 = [tg] →
      lanes = lanesOf (loopMask s f.p) →
      (pf f.p 0x14 1 ≠ 2 → Happens (.loopbackEnd errs reads) s [.plt, .ctrs, .books, .blt] (fun t => Finished s t f 0 ∧
        Counted .loopErr ((lanes.map (fun l => errs.getD l 0)).sum) s t ∧ Raised 50 t ∧ t.plt.loopTag = none ∧
        t.plt.loopBusy = false ∧ t.plt.loopFail = laneMask (lanes.filter (fun l => errs.getD l 0 != 0)))) ∧
      (pf f.p 0x14 1 = 2 → s.pnl.state ≠ .on →
        Happens (.loopbackEnd errs reads) s [.plt, .ctrs, .books, .blt] (fun t => Finished s t f 0 ∧ Raised 50 t ∧
          t.plt.loopTag = none ∧ t.plt.loopFail = laneMask lanes)) ∧
      (pf f.p 0x14 1 = 2 → s.pnl.state = .on →
        (lanes.find? (fun l => (reads.getD l none).isNone) = none →
          Happens (.loopbackEnd errs reads) s [.plt, .ctrs, .freeCtr, .gcl, .sco, .light] (fun t =>
            t.plt.state = .training ∧ t.plt.trainFor = 5 ∧ t.plt.loopTag = some tg ∧
            t.plt.loopFail = laneMask (lanes.filter (fun l => !farPasses (pf f.p 0x18 4) (reads.getD l none))))) ∧
        (∀ l, lanes.find? (fun l => (reads.getD l none).isNone) = some l →
          Happens (.loopbackEnd errs reads) s faultParts (fun t => FaultSet s t ∧ Raised 50 t ∧ Raised 51 t)))) ∧
    (∀ l a replies out u, a = (linkDevices l).getD (s.gcl.pollLink.getD l 0 % (linkDevices l).length) 0 →
      runExchange { link := l, addr := a, reg := 1 } (par s 0x4305) replies { s with gcl := { s.gcl with
        pollLink := s.gcl.pollLink.set l ((s.gcl.pollLink.getD l 0 + 1) % (linkDevices l).length)
        polled := s.gcl.polled.set l true } } = (out, u) →
      (mayPoll l s = false → Nothing (.gclStatusPoll l replies) s) ∧
      (mayPoll l s = true →
        (∀ v, out = .inl v → (a < 8 ∨ v.getLsbD 2 = false) → Happens (.gclStatusPoll l replies) s [.gcl] (fun t =>
          t.gcl = u.gcl)) ∧
        (∀ v, out = .inl v → 8 ≤ a → v.getLsbD 2 = true →
          Happens (.gclStatusPoll l replies) s [.gcl, .plt, .ctrs] (fun t => t.gcl = u.gcl ∧
            Counted .pltLockLoss 1 s t ∧ Raised 49 t ∧ t.plt.lockLost.getLsbD ((8 * l + a - 8) % 256) = true)) ∧
        (∀ silent, out = .inr silent → Happens (.gclStatusPoll l replies) s faultParts (fun t => FaultSet s t ∧
          Raised (if silent then 51 else 52) t ∧ Advanced (if silent then .gclNoReply else .gclCrcErr) 1 s t ∧
          t.gcl.failMask.getLsbD l = true)))) ∧
    ((s.gcl.cur.isSome = true ∨ exchFits s = false) → Nothing .gcExchangeStart s) ∧
    (live s = true → s.gcl.cur = none → exchFits s = true →
      (vcomNow s = false → (∀ e es, s.gcl.own = e :: es → Happens .gcExchangeStart s [.gcl] (fun t =>
          t.gcl.cur = some { e with tries := e.tries + 1 } ∧ t.gcl.own = es ∧ t.gcl.host = s.gcl.host ∧
          t.gcl.frames = { link := e.link, bits := gcSymbols (exchBody e) } :: s.gcl.frames)) ∧
        (∀ e, s.gcl.own = [] → s.gcl.host.find? (exchReady s) = some e → Happens .gcExchangeStart s [.gcl] (fun t =>
          t.gcl.cur = some { e with tries := e.tries + 1 } ∧ t.gcl.own = [] ∧ t.gcl.host = s.gcl.host.erase e ∧
          t.gcl.frames = { link := e.link, bits := gcSymbols (exchBody e) } :: s.gcl.frames))) ∧
      (vcomNow s = true → Happens .gcExchangeStart s [.gcl] (fun t => t.gcl.vcomDue = false ∧
        t.gcl.cur = some { ownWrite false 0x10 (par s 0x4306) (0, 1) with tries := 1 } ∧
        t.gcl.own = ownWrite false 0x10 (par s 0x4306) (16, 1) :: s.gcl.own))) ∧
    (∀ e, s.gcl.cur = some e → ∀ body check,
      (gcStopped s e.link = true → Nothing (.gcReplyReceived body check) s) ∧
      (gcStopped s e.link = false → replyGood e body check = true →
        (∀ tg f, e.tag = some tg → Flying s tg f → Happens (.gcReplyReceived body check) s [.gcl, .books, .blt] (fun t =>
          Finished s t f 0 ∧ t.gcl = { s.gcl with cur := none } ∧
          t.hif.replies.head?.map (·.result) = some (padTo 12 (leBytes 2 (replyData body).toNat)))) ∧
        (e.tag = none → s.pnl.state ≠ .powering → Happens (.gcReplyReceived body check) s [.gcl] (fun t =>
          t.gcl = { s.gcl with cur := none }))) ∧
      (∀ c src ctr st, (src = 52 ∧ ctr = Ctr.gclCrcErr ∧ st = St.gcCrc ∧ c = .gcReplyReceived body check ∧
            gcStopped s e.link = false ∧ replyGood e body check = false ∨
          src = 51 ∧ ctr = Ctr.gclNoReply ∧ st = St.gcNoReply ∧ c = .gcReplyTimeout) →
        (e.tries ≤ par s 0x4305 → exchFits s = true → Happens c s [.gcl] (fun t => t.gcl = { s.gcl with
          cur := some { e with tries := e.tries + 1 }
          frames := { link := e.link, bits := gcSymbols (exchBody e) } :: s.gcl.frames })) ∧
        (e.tries ≤ par s 0x4305 → exchFits s = false → Happens c s [.gcl] (fun t =>
          (e.tag = none → t.gcl = { s.gcl with cur := none, own := e :: s.gcl.own }) ∧
          (e.tag ≠ none → t.gcl = { s.gcl with cur := none, host := e :: s.gcl.host }))) ∧
        (∀ tg f, par s 0x4305 < e.tries → e.tag = some tg → Flying s tg f →
          Happens c s [.gcl, .ctrs, .books, .blt] (fun t => Finished s t f st ∧ Counted ctr 1 s t ∧ Raised src t ∧
            t.gcl.cur = none ∧ t.gcl.failMask = s.gcl.failMask ||| BitVec.ofNat 32 (2 ^ (e.link % 32)))) ∧
        (par s 0x4305 < e.tries → e.tag = none → Happens c s faultParts (fun t => FaultSet s t ∧ Advanced ctr 1 s t ∧
          Raised src t ∧ t.gcl.failMask = s.gcl.failMask ||| BitVec.ofNat 32 (2 ^ (e.link % 32))))))

/-- Each poll of the PMIC sends a READ of its STATUS; a PMIC that is powered and says READY begins step 3 or starts the
2 ms of a later step; the end of the 2 ms begins the next step with
the rails of Table 12-2, or, for step 7, the WRITEs to the drivers. A READY wait that times out sets its cause bit and
FAULT, and outside COAST the panel discharges. Each discharge step leads to the next row of Table 12-3; after the last the panel is
OFF with source 57. A sample of a crack loop is classed, and its run of samples not OK counts up to 4; four in a row
trip the loop: its cause bit, FAULT and source 58, and nothing is lit. (R302, R303, R304, R305, R306, R307, R308.) -/
def Obligations.PanelSequencesAndCrackLoops : Prop :=
  ∀ s : State, LightInv s → live s = true →
    (s.pnl.state = .powering →
      (∀ ready, s.pnl.waitReady = false → Nothing (.pmicReadyPoll ready) s) ∧
      (∀ ready, s.pnl.waitReady = true → (ready = false ∨ s.pnl.auxPnl = false) →
        Happens (.pmicReadyPoll ready) s [.gcl] (fun t => t.gcl = (gcSend 0 (exchBody { link := 0, addr := 2, reg := 1 }) s).gcl)) ∧
      (s.pnl.waitReady = true → s.pnl.auxPnl = true → s.pnl.step = 2 →
        Happens (.pmicReadyPoll true) s [.pnl, .gcl] (fun t =>
          t.pnl = { s.pnl with step := 3, waitReady := true, delay := false, rails := 1 } ∧
          t.gcl = { (gcSend 0 (exchBody { link := 0, addr := 2, reg := 1 }) s).gcl with
            own := s.gcl.own ++ [ownWrite true 0x10 1 (0, 2)] })) ∧
      (s.pnl.waitReady = true → s.pnl.auxPnl = true → s.pnl.step ≠ 2 →
        Happens (.pmicReadyPoll true) s [.pnl, .gcl] (fun t =>
          t.pnl = { s.pnl with waitReady := false, delay := true } ∧
          t.gcl = (gcSend 0 (exchBody { link := 0, addr := 2, reg := 1 }) s).gcl)) ∧
      (s.pnl.delay = true → s.pnl.step + 1 < 7 → Happens .powerOnDelayEnd s [.pnl, .gcl] (fun t =>
        t.pnl = { s.pnl with step := s.pnl.step + 1, waitReady := true, delay := false, rails := stepRails (s.pnl.step + 1) } ∧
        t.gcl.own.getLast? = some (ownWrite true 0x10 (stepRails (s.pnl.step + 1)) (0, 2)))) ∧
      (s.pnl.delay = true → s.pnl.step = 6 → Happens .powerOnDelayEnd s [.pnl, .gcl] (fun t =>
        t.pnl = { s.pnl with step := 7, waitReady := false, delay := false } ∧
        t.gcl = { s.gcl with own := s.gcl.own ++ (gateDrivers.map (ownWrite true 0x10 0) ++ colDrivers.map (ownWrite true 0x10 0)) })) ∧
      (s.pnl.waitReady = true → Happens .pmicReadyTimeout s faultParts (fun t => FaultSet s t ∧
        t.pnl.cause = s.pnl.cause ||| 4 ∧ (s.cond.bivouac = false → s.cond.coast = false → t.pnl.state = .discharging)))) ∧
    (s.pnl.state = .discharging →
      (s.pnl.dischStep = 1 → Happens .dischargeStep s [.pnl, .gcl] (fun t => t.pnl = { s.pnl with dischStep := 2 } ∧
        t.gcl = { s.gcl with own := s.gcl.own ++ colDrivers.map (ownWrite true 0x10 2) })) ∧
      (∀ v, (s.pnl.dischStep, v) ∈ [(2, 0x17), (3, 0x13), (4, 0x11), (5, 0x10)] → Happens .dischargeStep s [.pnl, .gcl] (fun t =>
        t.pnl = { s.pnl with dischStep := s.pnl.dischStep + 1, rails := v } ∧
        t.gcl = { s.gcl with own := s.gcl.own ++ [ownWrite true 0x10 v (0, 2)] })) ∧
      (s.pnl.dischStep = 6 → Happens .dischargeStep s [.pnl, .plt] (fun t =>
        t.pnl = { s.pnl with dischStep := 7, auxPnl := false } ∧ t.plt = { s.plt with state := .l3d })) ∧
      (s.pnl.dischStep = 7 → s.pnl.cmds = [] → s.pnl.powerAfter = false → Happens .dischargeStep s [.pnl, .gcl] (fun t =>
        Raised 57 t ∧ t.pnl = { s.pnl with state := .off, dischStep := 8, rails := 0 } ∧
        t.gcl = { s.gcl with own := s.gcl.own.filter (fun e => !e.power) }))) ∧
    (∀ n ohm sup, n < 2 → s.pnl.waitCrack = false → Happens (.crackLoopSample n ohm sup) s [.pnl] (fun t =>
      t.pnl = { s.pnl with
        crk := s.pnl.crk.set n (crackClass s ohm sup)
        crkRun := s.pnl.crkRun.set n (if crackClass s ohm sup = .ok then 0
          else if 4 < s.pnl.crkRun.getD n 0 then s.pnl.crkRun.getD n 0 else min 4 (s.pnl.crkRun.getD n 0 + 1))
        crkOhm := s.pnl.crkOhm.set n (min ohm 0xFFFF) })) ∧
    (∀ n, crackTrips s n = true → Happens (.crackLoopTrip n) s faultParts (fun t => FaultSet s t ∧ Raised 58 t ∧
      t.pnl.cause = s.pnl.cause ||| BitVec.ofNat 4 (2 ^ n) ∧ t.pnl.crkTripped = s.pnl.crkTripped.set n true))

/-- FLYSHEET_UPDATE is refused while a trip of CRK1 has not been cleared, merges with an update under way, is dropped
when COLD, and otherwise waits for energy or to start. An update that the estimate covers starts with a journal entry
of the image. Each frame answered well is followed by the next, the last by the run; the end of the waveform programs
DONE and shows the image, with source 61. A frame not answered well is sent again three times, then the update is
abandoned with source 62; the ABORT of a CRK1 trip ends it in the same way. An update that waited too long is dropped and counted. The re-drive of an unfinished entry
takes the entry's image, and waits while it may not run. (R314, R315, R316, R319, R320, R322, R323.) -/
def Obligations.FlysheetUpdatesRun : Prop :=
  ∀ s : State, LightInv s → 
    (∀ p, Accepts s 0x0702 p →
      (flySuppressed s = true → EndsWith (.flysheetUpdate p) s 0x0702 p St.faultActive [BitVec.ofNat 8 s.fly.band] [.ctrs, .bb]
        (fun t => Counted .flySkip 1 s t ∧ Raised 62 t)) ∧
      (flySuppressed s = false → (s.fly.cur.isSome = true ∨ s.fly.state = .redriveWaiting) →
        GoesOn (.flysheetUpdate p) s 0x0702 p [.fly] (fun t =>
          t.fly = { s.fly with tags := s.fly.tags ++ [ptag p], causes := .host :: s.fly.causes, pend := true })) ∧
      (flySuppressed s = false → s.fly.cur = none → (s.fly.state = .idle ∨ s.fly.state = .waiting) →
        (flyBand s = 7 → s.fly.tags = [] → EndsWith (.flysheetUpdate p) s 0x0702 p St.flyCold [7] [.fly, .ctrs, .bb] (fun t =>
          Counted .flySkip 1 s t ∧ Raised 62 t ∧ t.fly.state = .idle ∧ t.fly.requested = false ∧ t.fly.tags = [])) ∧
        (flyBand s ≠ 7 → GoesOn (.flysheetUpdate p) s 0x0702 p [.fly] (fun t => t.fly = { s.fly with
          tags := s.fly.tags ++ [ptag p], causes := .host :: s.fly.causes, requested := true, reqBand := flyBand s
          state := if flyCovered s (flyBand s) then .idle else .waiting })))) ∧
    (flyMayStart s = true → flySuppressed s = false → flyBand s ≠ 7 →
      (flyCovered s (flyBand s) = true → Happens .flyUpdateStart s [.fly] (fun t => t.fly.state = .loading ∧
        t.fly.requested = false ∧ t.fly.tags = [] ∧ t.fly.slot = (s.fly.slot + 1) % 4096 ∧
        (∃ u, t.fly.cur = some u ∧ u.image = flyImage s ∧ u.band = flyBand s ∧ u.tags = s.fly.tags ∧ u.sent = 0) ∧
        ∃ e, t.fly.journal.head? = some e ∧ e.image = flyImage s ∧ e.band = flyBand s ∧ e.done = false ∧
          e.cause = flyCause s.fly.causes ∧ e.seq = journalSeq s)) ∧
      (flyCovered s (flyBand s) = false → s.cond.coast = false → Happens .flyUpdateStart s [.fly] (fun t =>
        t.fly = { s.fly with reqBand := flyBand s, state := .waiting }))) ∧
    (∀ u, s.fly.cur = some u → ∀ st ck,
      (u.aborting = true → (flyAck st ck = true →
          Happens (.flyFrameExchange st ck) s [.fly, .bb, .books, .blt, .ctrs] (fun t => t.fly.cur = none ∧ Raised 62 t ∧
            t.fly.sent = flyBytes 0x50 0 :: s.fly.sent)) ∧
        (flyAck st ck = false → FlyRetried (.flyFrameExchange st ck) s u 0x50 0) ∧
        Nothing (.flyStatusPoll st ck) s) ∧
      (u.aborting = false → s.fly.state = .loading →
        (flyAck st ck = true → Happens (.flyFrameExchange st ck) s [.fly] (fun t => t.fly = { s.fly with
          sent := flyBytes (flyFrame u u.sent).1 (flyFrame u u.sent).2 :: s.fly.sent
          cur := some { u with sent := u.sent + 1, tries := 0 }
          state := if u.sent + 1 = flyFrames u then .running else .loading })) ∧
        (flyAck st ck = false →
          FlyRetried (.flyFrameExchange st ck) s u (flyFrame u u.sent).1 (flyFrame u u.sent).2)) ∧
      (u.aborting = false → s.fly.state = .running →
        (flyAck st ck = true → st.getLsbD 3 = false → Happens (.flyStatusPoll st ck) s [.fly] (fun t => t.fly = { s.fly with
          sent := flyBytes 0x40 0 :: s.fly.sent, cur := some { u with tries := 0 } })) ∧
        (flyAck st ck = true → st.getLsbD 3 = true →
          Happens (.flyStatusPoll st ck) s [.fly, .ctrs, .bb, .books, .blt] (fun t => Advanced .flyUpdate 1 s t ∧ Raised 61 t ∧
            t.fly.cur = none ∧ t.fly.imageLo = u.image.setWidth 32 ∧ t.fly.imageHi = (u.image >>> 32).setWidth 32 ∧
            t.fly.journal.length = s.fly.journal.length ∧ (∀ e, t.fly.journal.head? = some e → e.done = true))) ∧
        (flyAck st ck = false → FlyRetried (.flyStatusPoll st ck) s u 0x40 0))) ∧
    (s.fly.state = .waiting → s.fly.requested = true →
      (s.fly.tags = [] → Happens .flyEnergyTimeout s [.fly, .ctrs, .bb] (fun t => Counted .flySkip 1 s t ∧ Raised 62 t ∧
        t.fly.state = .idle ∧ t.fly.requested = false)) ∧
      (∀ f, s.fly.tags = [ptag f.p] → Flying s (ptag f.p) f →
        Happens .flyEnergyTimeout s [.fly, .ctrs, .bb, .books, .blt] (fun t => Counted .flySkip 1 s t ∧ Raised 62 t ∧
          Finished s t f St.flyEnergy ∧ t.fly.state = .idle ∧ t.fly.requested = false ∧ t.fly.tags = []))) ∧
    (s.fly.state = .redriveWaiting → live s = true →
      (redriveHeld s = true → Nothing .flyRedriveStart s) ∧
      (∀ e l, redriveHeld s = false → s.fly.journal = e :: l →
        Happens .flyRedriveStart s [.fly] (fun t => Raised 62 t ∧ t.fly.state = .loading ∧ t.fly.journal = e :: l ∧
          ∃ u, t.fly.cur = some u ∧ u.image = e.image ∧ u.band = flyBand s ∧ u.redrive = true ∧ u.tags = [])))

/-- With no rotor command in flight: alignment ends in SPIN_UP, which latches the setpoint; catching, once an index has
been seen, ends in SPIN_UP with a start request and in BRAKE otherwise; SPIN_UP within 1 % of the setpoint passes to RUN,
acquiring lock and ramping, and a ROTOR_START in flight then has its reply; a ramp within 0.2 % settles. Below 60 rpm the
angle counter stops, a freewheeling drum is STOPPED, and a brake shorts the phases; below 300 rpm regeneration ends in
FREEWHEEL and no longer holds the hold-up bus; the end of the phase shorting and a drum without counts end in STOPPED. A
release of the hardware trip below 4,000 rpm ends its shorting, brakes a rotor in RUN or SPIN_UP, and in REGEN has the
bridge hold the bus again. Each change of state raises source 20, and STOPPED source 24. (R214, R220, R223, R231, R233,
R235, R434, R518.) -/
def Obligations.RotorChangesState : Prop :=
  ∀ s : State, LightInv s → 
    (NoRotorCommands s →
      (live s = true → s.rot.state = .align → Happens .alignComplete s [.rot] (fun t => t.rot.state = .spinUp ∧ Raised 20 t ∧
        t.rot.setpoint = par s 0x4100 ∧
        t.rot.angle = s.rot.angle ∧ t.rot.cause = s.rot.cause ∧ t.rot.lock = s.rot.lock)) ∧
      (s.rot.state = .catching → s.rot.indexSeen = false → Nothing .catchComplete s) ∧
      (live s = true → s.rot.state = .catching → s.rot.indexSeen = true → Happens .catchComplete s [.rot] (fun t =>
        Raised 20 t ∧ t.rot.state = (if s.rot.req = .start then .spinUp else .brake) ∧ t.rot.req = s.rot.req ∧
        (s.rot.req = .start → t.rot.setpoint = par s 0x4100) ∧
        (s.rot.req ≠ .start → t.rot.brakeRate = par s 0x4102))) ∧
      (∀ v, live s = true → s.rot.state = .spinUp → withinMille s v 10 = true →
        Happens (.speedSetpointReached v) s [.rot, .light] (fun t => t.rot.state = .run ∧ Raised 20 t ∧ t.rot.speed16 = v ∧
          t.rot.lock = .acquiring ∧ t.rot.ramp = true ∧ t.rot.litOk = litCond t)) ∧
      (∀ v, live s = true → s.rot.state = .run → withinMille s v 2 = true → Happens (.rampSettled v) s [.rot, .light] (fun t =>
        t.rot.ramp = false ∧ t.rot.state = .run ∧ t.rot.speed16 = v)) ∧
      (∀ v, bridgeLive s = true → v < 60 * 16 → Happens (.speedBelow60rpm v) s
        [.freeCtr, .rot, .light, .sil, .sco, .bl, .tu, .acc, .mem, .sdec, .cfg, .ray] (fun t =>
          t.rot.angleValid = false ∧ t.rot.litOk = false ∧ t.rot.speed16 = v ∧
          (s.rot.angleValid = false → t.sil = s.sil ∧ t.mem = s.mem ∧ t.ray = s.ray ∧ t.sco = s.sco ∧ t.cfg = s.cfg) ∧
          (s.rot.angleValid = true → t.ray.running = false ∧ t.ray.render = none ∧ t.sco.scanning = false ∧
            (Records s → s.sil.skipFrame = false → Recorded s t)) ∧
          (s.rot.state = .freewheel → t.rot.state = .stopped ∧ Raised 20 t ∧ Raised 24 t) ∧
          (s.rot.state = .brake ∨ s.rot.state = .sensorlessBrake →
            t.rot.state = s.rot.state ∧ t.rot.shorting = true ∧ t.rot.shortMs = true))) ∧
      (∀ v, bridgeLive s = true → s.rot.state = .regen → v < 300 * 16 →
        Happens (.speedBelow300rpm v) s [.rot, .pwr, .freeCtr] (fun t =>
          t.rot.state = .freewheel ∧ Raised 20 t ∧ t.rot.speed16 = v ∧ t.pwr = { s.pwr with hub := t.pwr.hub } ∧
          (s.pwr.inputOk = true → 4704 ≤ t.pwr.hub ∧ t.pwr.hub ≤ 4896))) ∧
      (∀ v, s.rot.hwTrip = true → v < 4000 * 16 →
        Happens (.hwOverspeedRelease v) s [.rot, .light, .ctrs, .pwr, .freeCtr] (fun t =>
        t.rot.hwTrip = false ∧ t.rot.speed16 = v ∧ t.pwr = { s.pwr with hub := t.pwr.hub } ∧
        (s.rot.state ≠ .regen → t.pwr = s.pwr ∧ t.freeCtr = s.freeCtr) ∧
        (s.rot.state = .regen → s.rot.shortMs = false → 4312 ≤ t.pwr.hub ∧ t.pwr.hub ≤ 4488) ∧
        ((s.rot.state = .run ∨ s.rot.state = .spinUp) → t.rot.state = .brake ∧ Raised 20 t ∧ t.rot.shorting = false) ∧
        (s.rot.state ∈ [RotState.stopped, .freewheel, .brake, .regen, .sensorlessBrake] →
          t.rot.state = s.rot.state ∧ t.rot.shorting = s.rot.shortMs))) ∧
      (bridgeLive s = true → s.rot.shortMs = true → s.rot.state = .brake → Happens .phaseShortEnd s [.rot] (fun t =>
        t.rot.state = .stopped ∧ Raised 20 t ∧ Raised 24 t ∧ t.rot.shortMs = false ∧ t.rot.req = .none)) ∧
      (bridgeLive s = true → s.rot.state = .freewheel → Happens .freewheelNoCount s
        [.freeCtr, .rot, .light, .sil, .sco, .bl, .tu, .acc, .mem, .sdec, .cfg, .ray] (fun t =>
          t.rot.state = .stopped ∧ t.rot.angleValid = false ∧ t.rot.speed16 = 0 ∧ Raised 20 t ∧ Raised 24 t))) ∧
    (∀ v f, live s = true → s.rot.state = .spinUp → withinMille s v 10 = true → startedOf s 0x0420 = [ptag f.p] →
      startedOf s 0x0421 = [] → Flying s (ptag f.p) f →
      Happens (.speedSetpointReached v) s [.rot, .light, .books, .blt] (fun t => t.rot.state = .run ∧ Finished s t f 0))

/-- A transition that repeats the levels changes only the speed; one in the drum's direction is a count that advances
the angle by 16 ATK and its correction; one against it is counted as such; a double change is a glitch, counted with
source 26. An index edge in its place starts the next count at 0 and keeps the counter; one a count or two off is a
glitch too, but not where a glitch of the revolution has lost those counts; while the counter stands still an edge starts
it at ROT_INDEX_ATK of a new revolution when it is armed, no encoder cause is pending and the rotor is in a state that
lets it count, and is otherwise no more than seen. A failed pair, 4,160 counts without an index, 8 net counts in reverse,
missing counts, a second glitch and an index far off its place declare encoder loss: their cause bit, FAULT, source 16,
sensorless braking, and the counter stopped. Overspeed, the hardware trip outside a cold episode, a stall and overcurrent
set their cause bits with FAULT and their sources, and brake, short or release the rotor; in REGEN a trip or overcurrent
leaves the hold-up bus without the bridge.
(R214, R215, R216, R217, R219, R220, R231, R232, R236, R434.) -/
def Obligations.EncoderAndRotorFaults : Prop :=
  ∀ s : State, LightInv s → 
    (bridgeLive s = true → ∀ (a b : Bool) (v d : Nat), (quadPos (bit a 0 + bit b 1) + 4 - quadPos s.rot.ab) % 4 = d →
      (d = 0 → Happens (.encoderTransition a b v) s [.rot, .light] (fun t => t.rot.speed16 = v ∧ t.rot.counts = s.rot.counts ∧
        t.rot.angle = s.rot.angle)) ∧
      ((d = 1 ∧ s.rot.dir = 0 ∨ d = 3 ∧ s.rot.dir ≠ 0) → Happens (.encoderTransition a b v) s [.rot, .light] (fun t =>
        t.rot.speed16 = v ∧ t.rot.ab = bit a 0 + bit b 1 ∧ t.rot.counts = s.rot.counts + 1 ∧ t.rot.glitches = s.rot.glitches ∧
        t.rot.reverse = s.rot.reverse - 1 ∧ t.rot.corr = s.rot.corr - clampI (-4) 4 s.rot.corr ∧
        t.rot.angle = (if s.rot.angleValid then s.rot.angle + BitVec.ofInt 32 (16 + clampI (-4) 4 s.rot.corr) else s.rot.angle))) ∧
      ((d = 3 ∧ s.rot.dir = 0 ∨ d = 1 ∧ s.rot.dir ≠ 0) → Happens (.encoderTransition a b v) s [.rot, .light] (fun t =>
        t.rot.reverse = s.rot.reverse + 1 ∧ t.rot.counts = s.rot.counts ∧ t.rot.angle = s.rot.angle)) ∧
      (d = 2 → s.rot.glitches = 0 → Happens (.encoderTransition a b v) s [.rot, .light, .ctrs] (fun t =>
        Counted .encGlitch 1 s t ∧ Raised 26 t ∧ t.rot.glitches = 1 ∧ t.rot.angle = s.rot.angle ∧ t.rot.cause = s.rot.cause)) ∧
      (d = 2 → 1 ≤ s.rot.glitches → Happens (.encoderTransition a b v) s lossParts (fun t => EncoderLost 1 s t ∧ Raised 26 t))) ∧
    (bridgeLive s = true → s.rot.angleValid = true →
      (s.rot.counts = 4096 → Happens .indexEdge s [.rot] (fun t => t.rot.counts = 0 ∧ t.rot.glitches = 0 ∧
        t.rot.indexSeen = true ∧ t.rot.angle = s.rot.angle ∧
        t.rot.corr = sext 16 (wrapTo 16 ((s.rot.indexAtk : Int) - (atk s : Int))))) ∧
      (4094 ≤ s.rot.counts → s.rot.counts ≤ 4098 → s.rot.counts ≠ 4096 →
        (s.rot.glitches = 0 → Happens .indexEdge s [.rot, .ctrs] (fun t => Counted .encGlitch 1 s t ∧ Raised 26 t ∧
          t.rot.counts = 0 ∧ t.rot.glitches = 0 ∧ t.rot.cause = s.rot.cause)) ∧
        (s.rot.glitches ≠ 0 → Happens .indexEdge s [.rot] (fun t => t.rot.counts = 0 ∧ t.rot.glitches = 0 ∧
          t.rot.cause = s.rot.cause ∧ t.intc.hpend = s.intc.hpend ∧ t.intc.cpend = s.intc.cpend))) ∧
      ((s.rot.counts < 4094 ∨ 4098 < s.rot.counts) → Happens .indexEdge s lossParts (EncoderLost 2 s))) ∧
    (bridgeLive s = true → s.rot.angleValid = false →
      (mayStart s = true → Happens .indexEdge s [.rot, .light, .sil] (fun t => t.rot.angleValid = true ∧
        t.rot.startTime = stampTime s ∧ t.rot.counts = 0 ∧ t.rot.armed = false ∧ t.rot.encLost = false ∧
        t.rot.angle = BitVec.ofNat 32 ((if s.rot.everStarted then rev s + 1 else 0) * 65536 + par s 0x4108))) ∧
      (mayStart s = false → Happens .indexEdge s [.rot] (fun t => t.rot =
        { s.rot with indexSeen := true, counts := 0, glitches := 0 }))) ∧
    (bridgeLive s = true → Happens .encLossPair s lossParts (EncoderLost 0 s) ∧
      (4160 ≤ s.rot.counts → Happens .encIndexMissing s lossParts (EncoderLost 2 s)) ∧
      (s.rot.counts < 4160 → Nothing .encIndexMissing s) ∧
      (8 ≤ s.rot.reverse → Happens .encLossReverse s lossParts (EncoderLost 4 s)) ∧
      (s.rot.reverse < 8 → Nothing .encLossReverse s) ∧
      (timeoutStates s = true → Happens .encLossTimeout s lossParts (EncoderLost 3 s))) ∧
    (∀ v, bridgeLive s = true → par s 0x4106 * 16 < v → Happens (.overspeed v) s faultParts (fun t => FaultSet s t ∧ Raised 17 t ∧
      t.rot.cause = s.rot.cause ||| 32 ∧ t.rot.speed16 = v ∧ t.rot.litOk = false ∧
      ((s.rot.state = .run ∨ s.rot.state = .spinUp) → t.rot.state = .brake))) ∧
    (∀ v, 4250 * 16 < v →
      (bridgeLive s = true → Happens (.hwOverspeedTrip v) s (.pwr :: faultParts) (fun t => FaultSet s t ∧ Raised 17 t ∧
        t.rot.cause = s.rot.cause ||| 64 ∧ t.rot.hwTrip = true ∧ t.rot.shorting = true ∧ t.rot.state = s.rot.state ∧
        BusLeft s t)) ∧
      (bridgeLive s = false → Happens (.hwOverspeedTrip v) s [.rot, .light, .pwr, .freeCtr] (fun t =>
        t.rot.hwTrip = true ∧ t.rot.shorting = true ∧ t.rot.state = s.rot.state ∧ t.rot.cause = s.rot.cause ∧ BusLeft s t))) ∧
    (live s = true → s.rot.state = .spinUp → Happens .spinupTimeout s faultParts (fun t => FaultSet s t ∧ Raised 19 t ∧
      t.rot.cause = s.rot.cause ||| 128 ∧ t.rot.state = .brake)) ∧
    (bridgeLive s = true → Happens .bridgeOvercurrent s (.pwr :: faultParts) (fun t => FaultSet s t ∧ Raised 18 t ∧
      t.rot.cause = s.rot.cause ||| 256 ∧ t.rot.state = .freewheel ∧ t.rot.req = .none ∧ t.rot.litOk = false ∧
      BusLeft s t))

/-- Before RUNNING a PTP message is counted as dropped; one of another domain, profile or transport and a management
message are dropped and counted; one on a port that is not selected has no effect. A Sync of the master in use is held for its Follow_Up when it is two-
step and judged at once otherwise: its times and its offset are held, and an offset within the step limit leaves the
time as it is and a rate within its limit. An Announce enters its master, and the best master heard is selected; a
change of grandmaster is counted with source 162. Delay_Resp and Pdelay_Resp give the mean path delay,
Pdelay_Req is answered with its turnaround, into which the latencies of its port go, and a request leaves when its timer
ends. A Sync or Announce timeout loses the master: HOLDOVER, source 163,
and the next best. A slew that is consumed ends with source 164. (R363, R364, R365, R366, R367, R368, R370, R371,
R372, R381.) -/
def Obligations.PtpKeepsTheTime : Prop :=
  ∀ s : State, LightInv s → 
    (∀ (m : PtpMsg) (c : Instr), c ∈ [Instr.ptpSync m, .ptpFollowUp m, .ptpAnnounce m, .ptpDelayResp m, .ptpPdelayResp m,
        .ptpPdelayReq m 0] →
      (s.tu.running = false → Happens c s [.ctrs] (fun t => Counted .tuEarlyDrop 1 s t)) ∧
      (s.tu.running = true → ptpPort s m = false → Happens c s [] (fun _ => True)) ∧
      (s.tu.running = true → ptpPort s m = true → (m.domain ≠ par s 0x6001 ∨ m.profile ≠ par s 0x6000 ∨
          m.transport ≠ ptpTransport s ∨ m.management = true) → Happens c s [.ctrs] (fun t => Counted .tuPtpDrop 1 s t))) ∧
    (∀ m, PtpHeard s m →
      (fromMaster s m = false → Happens (.ptpSync m) s [] (fun _ => True)) ∧
      (fromMaster s m = true → m.twoStep = true → Happens (.ptpSync m) s [.tu] (fun t =>
        t.tu = { s.tu with syncPend := some m })) ∧
      (fromMaster s m = true → m.twoStep = false → Happens (.ptpSync m) s [.tu, .freeCtr, .ctrs, .bb] (fun t =>
        SyncTaken s t m.port m.arrival m.origin m.correction)) ∧
      (∀ y, s.tu.syncPend = some y → y.source = m.source → y.seqId = m.seqId →
        Happens (.ptpFollowUp m) s [.tu, .freeCtr, .ctrs, .bb] (fun t =>
          SyncTaken s t y.port y.arrival m.origin (y.correction + m.correction))) ∧
      (∀ ms, ms = s.tu.masters.filter (fun x => !(x.source == m.source && x.port == m.port)) ++
          [{ port := m.port, source := m.source, gmId := m.gmId, rank := m.rank, traceable := m.traceable }] →
        ((∀ g, bestGm ms = some g → s.tu.lastGm = none ∨ s.tu.lastGm = some g.gmId) →
          Happens (.ptpAnnounce m) s [.tu] (fun t => t.tu.masters = ms ∧ t.tu.master = bestGm ms ∧ t.tu.time = s.tu.time)) ∧
        (∀ g x, bestGm ms = some g → s.tu.lastGm = some x → x ≠ g.gmId → Happens (.ptpAnnounce m) s [.tu, .ctrs] (fun t =>
          Counted .tuGmChange 1 s t ∧ Raised 162 t ∧ t.tu.masters = ms ∧ t.tu.master = some g ∧ t.tu.lastGm = some g.gmId ∧
          t.tu.pendStep = false ∧ t.tu.time = s.tu.time))) ∧
      (∀ (q t3 t1 t2 : Nat) (c : Int), s.tu.reqSent = some (q, t3) → s.tu.lastSync = some (t1, c, t2) → fromMaster s m = true →
        m.seqId = q → par s 0x6000 = 0 → Happens (.ptpDelayResp m) s [.tu] (fun t => t.tu = { s.tu with
          reqSent := none, meanPath := ((t2 : Int) - t1 - c + (m.origin - t3) - m.correction) / 2 })) ∧
      (∀ (q t1 : Nat), s.tu.reqSent = some (q, t1) → m.seqId = q → par s 0x6000 ≠ 0 → s.tu.master.map (·.port) = some m.port →
        Happens (.ptpPdelayResp m) s [.tu] (fun t => t.tu = { s.tu with
          reqSent := none, meanPath := ((m.arrival : Int) - rxLat s m.port - t1 - m.correction) / 2 })) ∧
      (∀ n, (par s 0x6000 = 0 → Happens (.ptpPdelayReq m n) s [] (fun _ => True)) ∧
        (par s 0x6000 ≠ 0 → Happens (.ptpPdelayReq m n) s [.tu] (fun t => ∃ r, t.tu = { s.tu with ptpOut := r :: s.tu.ptpOut } ∧
          r.seqId = m.seqId ∧ r.port = m.port ∧ r.correction = m.correction + (n * 65536 : Nat) + rxLat s m.port + txLat s m.port)))) ∧
    (ptpRuns s = true →
      (∀ p, p < 4 → (par s 0x6002).testBit p = true → (par s 0x6000 ≠ 0 ∨ s.tu.master.map (·.port) = some p) →
        Happens (.ptpReqTimer p) s [.tu] (fun t => t.tu.reqSeq = (s.tu.reqSeq + 1) % 65536 ∧ ∃ m, t.tu.ptpOut = m :: s.tu.ptpOut ∧
          m.port = p ∧ m.seqId = s.tu.reqSeq ∧ t.tu.reqSent = some (s.tu.reqSeq, m.origin))) ∧
      (∀ g, s.tu.master = some g → Happens .ptpSyncTimeout s [.tu, .ctrs] (fun t => MasterLost s t g) ∧
        Happens .ptpAnnounceTimeout s [.tu, .ctrs] (fun t => MasterLost s t g))) ∧
    (s.tu.slewing = true → Happens .timeSlewDone s [.tu] (fun t => Raised 164 t ∧ t.tu = { s.tu with
      time := timeAdd s.tu.time (s.tu.slewLeft * 65536 / 1000000000), slewing := false, slewLeft := 0 }))

/-- An edge of an armed time trigger that nothing holds leaves: its pulse is active, its count goes on, and it disarms
with its COUNT reached or as a one-shot; one that a pulse, COAST or an episode holds is counted as missed with source
166. An angle trigger takes each of its angles once in a revolution. A pass is counted, except under the pulse of the
schedule before; on every DIVIDE-th its edge leaves, at once or after its delay. A pulse ends. An edge that a capture input takes enters the FIFO with its stamp, or is counted as lost with source 168
while the FIFO is full; one that it does not take has no effect. (R375, R376, R377, R378, R380, R381, R382.) -/
def Obligations.TriggersAndCapturesFire : Prop :=
  ∀ s : State, LightInv s → 
    (trigRuns s = true → ∀ n,
      ((trigOf s n).armed = true → (trigMode (trigOf s n) = 1 ∨ trigMode (trigOf s n) = 2) →
        (edgeHeld s (trigOf s n) = false → Happens (.triggerTimeEdge n) s [.tu] (fun t => EdgeSent s t n ∧
          (trigOf t n).k = (trigOf s n).k + 1 ∧ t.tu.time = max s.tu.time (edgeTime (trigOf s n) (trigOf s n).k))) ∧
        (edgeHeld s (trigOf s n) = true → Happens (.triggerTimeEdge n) s [.tu, .ctrs] (fun t => Counted .ttMissed 1 s t ∧
          Raised 166 t ∧ (trigOf t n).active = (trigOf s n).active ∧ (trigOf t n).sent = (trigOf s n).sent ∧
          (trigOf t n).armed = (trigMode (trigOf s n) != 1)))) ∧
      (passAtk s n = none → Nothing (.triggerAnglePass n) s) ∧
      (s.rot.angleValid = true → (trigOf s n).armed = true → (trigMode (trigOf s n) = 3 ∨ trigMode (trigOf s n) = 4) →
          ∀ x, passAtk s n = some x →
        Happens (.triggerAnglePass n) s [.rot, .tu, .ctrs] (fun t => t.rot.fired = eventKey (8 + n) x :: s.rot.fired) ∧
        ((trigOf s n).active = true → (trigOf s n).rearmed = true → Happens (.triggerAnglePass n) s [.rot] (fun _ => True)) ∧
        (((trigOf s n).active = false ∨ (trigOf s n).rearmed = false) →
        ((trigOf s n).passes % max 1 (field (trigOf s n).desc 0x16 2) ≠ 0 →
          Happens (.triggerAnglePass n) s [.rot, .tu] (fun t =>
            trigOf t n = { trigOf s n with passes := (trigOf s n).passes + 1 } ∧ ∀ k, k ≠ n → trigOf t k = trigOf s k)) ∧
        ((trigOf s n).passes % max 1 (field (trigOf s n).desc 0x16 2) = 0 → field (trigOf s n).desc 0x20 4 ≠ 0 →
          Happens (.triggerAnglePass n) s [.rot, .tu] (fun t =>
            trigOf t n = { trigOf s n with passes := (trigOf s n).passes + 1, due := true })) ∧
        ((trigOf s n).passes % max 1 (field (trigOf s n).desc 0x16 2) = 0 → field (trigOf s n).desc 0x20 4 = 0 →
          edgeHeld s (trigOf s n) = false → Happens (.triggerAnglePass n) s [.rot, .tu] (fun t => EdgeSent s t n ∧
            (trigOf t n).passes = (trigOf s n).passes + 1)))) ∧
      ((trigOf s n).due = true → edgeHeld s (trigOf s n) = false → Happens (.triggerAngleEdge n) s [.tu] (fun t =>
        EdgeSent s t n ∧ (trigOf t n).due = false))) ∧
    (∀ n, (trigOf s n).active = true → s.pwr.episode = false → Happens (.triggerPulseEnd n) s [.tu] (fun t =>
      trigOf t n = { trigOf s n with active := false } ∧ ∀ k, k ≠ n → trigOf t k = trigOf s k)) ∧
    (∀ n r, n < 16 → trigRuns s = true →
      ((capOf s n).enable = false → Happens (.captureEdge n r) s [] (fun _ => True)) ∧
      ((capOf s n).enable = true → ((capOf s n).edge = 2 ∨ ((capOf s n).edge = 0 ↔ r = true)) →
        (s.tu.fifo.length < 256 → Happens (.captureEdge n r) s [.tu] (fun t =>
          t.tu = { s.tu with fifo := s.tu.fifo ++ [captureStamp n r s] })) ∧
        (256 ≤ s.tu.fifo.length → Happens (.captureEdge n r) s [.ctrs] (fun t => Counted .tcOverflow 1 s t ∧ Raised 168 t))))

/-- A refresh of the bank that is next falls due; it is postponed while nothing picks it, issued when the pick takes it,
and issued ahead of everything at its eighth postponement, which closes the bank's row and lets its waiting requests go
on. An idle row is precharged. Accesses are split and enter the pools; the request that a command slot picks activates
its row, or is served from its open row and leaves the pool. Late service or URGENT raises the pressure level, up to 4,
with source 69, and intervals in time lower it. In service a bank past MEM_ACT_LIMIT has an RFM and waits for its refresh,
counted, with source 68; outside service a row that reaches its limit has an RFM, counted, and counts from 0. ALERT is
counted as a retry with source 66; retries without success are counted as a retraining, or fail a running change; a
retraining without success marks its channel failed, with source 67 and FAULT. A corrected error is counted with source
64; an uncorrectable one poisons its granule, is counted and held, with source 65, and sets FAULT when the requester is a
control core, as a read of a poisoned granule by one does. The scrub after an error and the patrol, in its time, take their granules in
order. A change of operating point opens once, at its angle of the revolution, and ends at the new point with source 70, or
at the old one with source 71 and FAULT. That the patrol's own uncorrectable read sets no FAULT is the model's choice (log
14). (R333, R335, R336, R337, R339, R341, R342, R344, R345, R347, R348, R350.) -/
def Obligations.MemoryControllerEvents : Prop :=
  ∀ s : State, LightInv s → 
    Happens .memActTableClear s [.mem] (fun t => t.mem = { s.mem with actTable := [] }) ∧
    (∀ l, s.pwr.episode = false → Happens (.memTempRead l) s [.mem] (fun t =>
      (t.mem.hot = true ↔ ∃ i, i < 4 ∧ ∃ x, l[i]? = some x ∧ 85 * 16 < x) ∧
      t.mem = { s.mem with temps := (List.range 4).map (fun i => l.getD i 0), hot := t.mem.hot })) ∧
    (memRuns s = true →
      (∀ pc, chanRuns s.mem pc = true →
        (∀ bank idle, bank < 64 → (bankQueue s.mem (bankKey pc bank)).isEmpty = true → par s 0x8005 ≤ idle →
          (tget? s.mem.openRow (bankKey pc bank)).isSome = true → Happens (.memPageIdleClose (bankKey pc bank) idle) s [.mem] (fun t =>
            tget? t.mem.openRow (bankKey pc bank) = none ∧ t.mem.cells = s.mem.cells ∧ t.mem.pool = s.mem.pool ∧
            ∀ k, k ≠ bankKey pc bank → tget? t.mem.openRow k = tget? s.mem.openRow k)) ∧
        (∀ bank idle, idle < par s 0x8005 → Nothing (.memPageIdleClose (bankKey pc bank) idle) s) ∧
        ((∀ b, b < 64 → tget s.mem.due (bankKey pc b) 0 < 8) →
          Happens (.memRefreshDue pc []) s [.mem] (fun t => t.mem = (refreshDue pc s).mem ∧
            tget t.mem.due (bankKey pc (tget s.mem.refreshBank pc 0)) 0 =
              tget s.mem.due (bankKey pc (tget s.mem.refreshBank pc 0)) 0 + 1 ∧
            tget t.mem.refreshBank pc 0 = (tget s.mem.refreshBank pc 0 + 1) % 64) ∧
          (∀ ready b, pickBank (refreshDue pc s) pc ready = some (2, b) →
            Happens (.memRefreshDue pc ready) s [.mem] (fun t => Refreshed s t pc b ∧ tget t.mem.rotp pc 0 = (b + 1) % 64))) ∧
        (∀ ready, tget s.mem.refreshBank pc 0 < 64 → 8 ≤ tget s.mem.due (bankKey pc (tget s.mem.refreshBank pc 0)) 0 →
          (∀ b, b < 64 → b ≠ tget s.mem.refreshBank pc 0 → tget s.mem.due (bankKey pc b) 0 < 9) →
          Happens (.memRefreshDue pc ready) s [.mem] (fun t => Refreshed s t pc (tget s.mem.refreshBank pc 0)))) ∧
      (∀ n m, (par s 0x8000 < n ∨ par s 0x8000 < m ∨ s.mem.urgentSeen = true ∨ scoUrgent s = true) →
        (s.mem.pressure < 4 → Happens (.memPressureInterval n m) s [.mem, .books] (fun t => Raised 69 t ∧
          t.mem = { s.mem with pressure := s.mem.pressure + 1, relax := 0, served := [], urgentSeen := false })) ∧
        (4 ≤ s.mem.pressure → Happens (.memPressureInterval n m) s [.mem, .books] (fun t =>
          t.mem = { s.mem with relax := 0, served := [], urgentSeen := false }))) ∧
      (∀ n m, n ≤ par s 0x8000 → m ≤ par s 0x8000 → s.mem.urgentSeen = false → scoUrgent s = false →
        (s.mem.pressure ≠ 0 → par s 0x8001 ≤ s.mem.relax + 1 → Happens (.memPressureInterval n m) s [.mem, .books] (fun t =>
          Raised 69 t ∧ t.mem = { s.mem with pressure := s.mem.pressure - 1, relax := 0, served := [] })) ∧
        (s.mem.pressure ≠ 0 → s.mem.relax + 1 < par s 0x8001 → Happens (.memPressureInterval n m) s [.mem, .books] (fun t =>
          t.mem = { s.mem with relax := s.mem.relax + 1, served := [] })) ∧
        (s.mem.pressure = 0 → Happens (.memPressureInterval n m) s [.mem, .books] (fun t =>
          t.mem = { s.mem with relax := 0, served := [] }))) ∧
      (∀ pc bank, memPhase s = 0 →
        (par s 0x8002 < tget s.mem.acts (bankKey pc bank) 0 → bankKey pc bank ∉ s.mem.bankWait →
          Happens (.memActLimit pc bank) s [.mem, .ctrs] (fun t => Counted .memThrottle 1 s t ∧ Raised 68 t ∧
            bankKey pc bank ∈ t.mem.bankWait ∧ tget? t.mem.openRow (bankKey pc bank) = none ∧ t.mem.acts = s.mem.acts ∧
            t.mem.cells = s.mem.cells)) ∧
        (tget s.mem.acts (bankKey pc bank) 0 ≤ par s 0x8002 → Nothing (.memActLimit pc bank) s)) ∧
      (∀ pc bank row, memPhase s ≠ 0 →
        (par s 0x8003 ≤ ((tget s.mem.actTable (bankKey pc bank) []).lookup row).getD 0 →
          Happens (.memActCountLimit pc bank row) s [.mem, .ctrs] (fun t => Counted .memRfm 1 s t ∧
            (∀ e ∈ tget t.mem.actTable (bankKey pc bank) [], e.1 = row → e.2 = 0) ∧
            tget? t.mem.openRow (bankKey pc bank) = none ∧ t.mem.cells = s.mem.cells)) ∧
        (((tget s.mem.actTable (bankKey pc bank) []).lookup row).getD 0 < par s 0x8003 →
          Nothing (.memActCountLimit pc bank row) s)) ∧
      (∀ c w, c ∉ s.mem.retraining → s.mem.chanFail.getLsbD c = false → tget s.mem.retries c 0 < par s 0x8004 →
        Happens (.memAlert ⟨c, w⟩) s [.mem, .ctrs] (fun t => Counted .memRetry 1 s t ∧ Raised 66 t ∧
          tget t.mem.retries c 0 = tget s.mem.retries c 0 + 1 ∧ t.mem.cells = s.mem.cells ∧ t.mem.pool = s.mem.pool ∧
          (w = 0 → ∀ k, chanOf (k / 64) = c → tget? t.mem.openRow k = none))) ∧
      (∀ c, (tget s.mem.retries c 0 < par s 0x8004 → Nothing (.memRetryExhausted c) s) ∧
        (par s 0x8004 ≤ tget s.mem.retries c 0 →
          (s.mem.changing = none → Happens (.memRetryExhausted c) s [.mem, .ctrs] (fun t => Counted .memRetrain 1 s t ∧
            c ∈ t.mem.retraining ∧ tget? t.mem.retries c = none ∧ t.mem.cells = s.mem.cells)) ∧
          (s.mem.changing ≠ none → Happens (.memRetryExhausted c) s [.mem] (fun t => t.mem =
            { s.mem with retries := t.mem.retries, changeBad := true })))) ∧
      (s.mem.changing = none →
        (∀ asks pc, Happens (.memReadComplete asks ⟨pc, []⟩ .clean) s [.mem] (fun t => t.mem =
          placeAll (s.mem.held ++ asks.flatMap (splitAsk s)) { s.mem with held := [] })) ∧
        (∀ pc ready c b r, s.mem.held = [] → chanRuns s.mem pc = true → overdue s.mem pc = none →
          pickBank s pc ready = some (c, b) → c ≠ 2 → chosenReq s c (bankKey pc b) = some r → r.req ≠ 9 →
          (tget? s.mem.openRow (bankKey pc b) = some r.row → Happens (.memReadComplete [] ⟨pc, [ready]⟩ .clean) s [.mem] (fun t =>
            t.mem.pool = s.mem.pool.erase r ∧ tget t.mem.rotp pc 0 = (b + 1) % 64 ∧ t.mem.cells = s.mem.cells)) ∧
          (tget? s.mem.openRow (bankKey pc b) = none → Happens (.memReadComplete [] ⟨pc, [ready]⟩ .clean) s [.mem] (fun t =>
            t.mem.pool = s.mem.pool ∧ tget? t.mem.openRow (bankKey pc b) = some r.row ∧ tget t.mem.rotp pc 0 = (b + 1) % 64 ∧
            t.mem.cells = s.mem.cells))) ∧
        (∀ asks pc slots r, (memSlots pc slots none (takeAsks asks s)).1 = some r →
          ((r.req ≠ 9 ∨ memPoisoned s.mem (r.addr / 64 * 64) 64 = false) →
            Happens (.memReadComplete asks ⟨pc, slots⟩ .clean) s [.mem] (fun t => t.mem.cells = s.mem.cells ∧
              t.mem.poison = s.mem.poison)) ∧
          (r.req = 9 → memPoisoned s.mem (r.addr / 64 * 64) 64 = true →
            Happens (.memReadComplete asks ⟨pc, slots⟩ .clean) s faultParts (FaultSet s)) ∧
          Happens (.memReadComplete asks ⟨pc, slots⟩ .correctable) s [.mem, .ctrs] (fun t => Counted .memCe 1 s t ∧ Raised 64 t ∧
            t.mem.poison = s.mem.poison ∧ t.mem.cells = s.mem.cells) ∧
          (r.req ≠ 9 → Happens (.memReadComplete asks ⟨pc, slots⟩ .uncorrectable) s [.mem, .ctrs, .bb, .sdec] (fun t =>
            Counted .memUe 1 s t ∧ Raised 65 t ∧ r.addr / 64 ∈ t.mem.poison ∧ t.mem.cells = s.mem.cells ∧
            (r.req ≠ 1 → t.sdec = s.sdec) ∧ t.mem.ueInfo.getLsbD 31 = true ∧
            (s.mem.ueInfo.getLsbD 31 = false → t.mem.ueAddr = r.addr % 2 ^ 40) ∧
            (s.mem.ueInfo.getLsbD 31 = true → t.mem.ueAddr = s.mem.ueAddr ∧ t.mem.ueInfo = s.mem.ueInfo))) ∧
          (r.req = 9 → Happens (.memReadComplete asks ⟨pc, slots⟩ .uncorrectable) s faultParts (fun t => FaultSet s t ∧
            Raised 65 t ∧ Advanced .memUe 1 s t ∧ r.addr / 64 ∈ t.mem.poison))) ∧
        (∀ x, s.mem.scrub = [] → patrolDue s x = false → ∀ e, Nothing (.memPatrolScrub x e) s) ∧
        (∀ a x, scrubNext x s = some a →
          Happens (.memPatrolScrub x .clean) s [.mem] (fun t =>
            (∀ b l, s.mem.scrub = b :: l → t.mem = { s.mem with
              scrub := if (b + 64) % 2 ^ 20 = 0 then l else (b + 64) :: l }) ∧
            (s.mem.scrub = [] → t.mem = { s.mem with patrol := (s.mem.patrol + 64) % memSize })) ∧
          Happens (.memPatrolScrub x .correctable) s [.mem, .ctrs] (fun t => Counted .memCe 1 s t ∧ Raised 64 t ∧
            t.mem = scrubStep s.mem.scrub.isEmpty s.mem) ∧
          Happens (.memPatrolScrub x .uncorrectable) s [.mem, .ctrs, .bb] (fun t => Counted .memUe 1 s t ∧ Raised 65 t ∧
            a / 64 ∈ t.mem.poison ∧ t.mem.cells = s.mem.cells ∧
            (s.mem.scrub = [] → t.mem.scrub = [a / 2 ^ 20 * 2 ^ 20])))) ∧
      (s.mem.changing ≠ none → ∀ asks pc slots,
        Happens (.memReadComplete asks ⟨pc, slots⟩ .clean) s [.mem] (fun t => t.mem.verifying = true ∧
          t.mem.held = s.mem.held ++ asks.flatMap (splitAsk s) ∧ t.mem.changeBad = s.mem.changeBad ∧
          t.mem.pool = s.mem.pool ∧ t.mem.cells = s.mem.cells) ∧
        Happens (.memReadComplete asks ⟨pc, slots⟩ .uncorrectable) s [.mem, .ctrs, .bb] (fun t => Counted .memUe 1 s t ∧
          Raised 65 t ∧ t.mem.changeBad = true ∧ t.mem.cells = s.mem.cells))) ∧
    (∀ c, c ∈ s.mem.retraining →
      Happens (.memRetrainDone c true) s [.mem] (fun t => c ∉ t.mem.retraining ∧
        t.mem = { s.mem with retraining := t.mem.retraining }) ∧
      Happens (.memRetrainDone c false) s faultParts (fun t => FaultSet s t ∧ Raised 67 t ∧
        t.mem.chanFail = s.mem.chanFail ||| BitVec.ofNat 64 (2 ^ c))) ∧
    (angleDue 5 1024 s = false → Nothing .memFreqChangeWindow s) ∧
    (s.rot.angleValid = true → s.pwr.episode = false → angleDue 5 1024 s = true →
      (∀ p, s.mem.required = some p → s.mem.changing = none → s.cond.coast = false →
        (s.ray.switchRev = 1 ∨ s.cond.seq.isSome = true) →
        Happens .memFreqChangeWindow s [.rot, .mem, .clk, .acc, .sco, .light] (fun t => StandsAt 1024 t ∧
          t.mem = { refreshAll s.mem with
            changing := some (s.mem.point, p), required := none, verifying := false, changeBad := false
            freqFrame := true } ∧
          t.sco.scanning = false ∧ t.bl.lit = List.replicate 8 false)) ∧
      (s.mem.required = none → Happens .memFreqChangeWindow s [.rot] (fun t => StandsAt 1024 t ∧
        t.rot.fired = eventKey 5 1024 :: s.rot.fired))) ∧
    (∀ old new m, s.mem.changing = some (old, new) → s.mem.required = none → s.sil.held = [] → s.mem.held = [] →
      (∀ f ∈ s.hif.flights, f.op ≠ 0x0801 ∧ f.op ≠ 0x0802) →
      (s.mem.changeBad = false → Happens (.memFreqChangeDone true m) s [.mem, .clk, .ctrs] (fun t => Counted .memFreq 1 s t ∧
        Raised 70 t ∧ t.mem = { s.mem with point := new, changing := none, verifying := false, changeBad := false })) ∧
      (∀ ok, (ok = false ∨ s.mem.changeBad = true) → Happens (.memFreqChangeDone ok m) s (.clk :: faultParts) (fun t =>
        FaultSet s t ∧ Raised 71 t ∧ t.mem.point = old ∧ t.mem.changing = none ∧
        t.mem.chanFail = s.mem.chanFail ||| m))) ∧
    (∀ old new m, s.mem.changing = some (old, new) → s.mem.required = none → s.mem.changeBad = false →
      Happens (.memFreqChangeDone true m) s [.mem, .clk, .ctrs, .sil, .books, .blt, .freeCtr, .bb] (fun t =>
        Advanced .memFreq 1 s t ∧ Raised 70 t ∧ t.mem.point = new ∧ t.mem.changing = none ∧ t.sil.held = []))

/-- The input stage starts above 34 V, stops below 28 V, is isolated above 80 V for 1 ms with source 4, and runs again
below 75 V while there are 28 V; the bus then stands in the band of what regulates it, a bridge in REGEN that does not
short its phases or, out of REGEN, the input stage, and within that band is a free value. The sag warning is set below its
level, counted, with source 0, and cleared above the level and its hysteresis. Where the module may, the loss of the
input and a sag that outlasts its dwell enter COAST. The estimate follows the speed each millisecond, and an update
that waits for energy is looked at, dropped in COAST. (R432, R433, R434, R436, R437, R439, R320.) -/
def Obligations.InputStageAndEstimate : Prop :=
  ∀ s : State, LightInv s → 
    (∀ mv, 34000 < mv → s.pwr.inputOk = false → s.pwr.ov = false → Happens (.inputAbove34v mv) s [.pwr, .freeCtr] (fun t =>
      t.pwr.inputOk = true ∧ t.pwr.hub ≤ 4896 ∧ (regenHolds s = true → 4312 ≤ t.pwr.hub ∧ t.pwr.hub ≤ 4488) ∧
      (s.rot.state ≠ .regen → 4704 ≤ t.pwr.hub) ∧ t.pwr.vin = mv / 10 % 65536 ∧ t.pwr.sagw = s.pwr.sagw)) ∧
    (∀ mv, mv < 75000 → s.pwr.ov = true → Happens (.inputBelow75v mv) s [.pwr, .freeCtr] (fun t =>
      t.pwr.inputOk = decide (28000 ≤ mv) ∧ t.pwr.ov = false ∧ t.pwr.hub ≤ 4896 ∧
      (regenHolds s = true → 4312 ≤ t.pwr.hub ∧ t.pwr.hub ≤ 4488) ∧
      (s.rot.state ≠ .regen → 28000 ≤ mv → 4704 ≤ t.pwr.hub) ∧ t.pwr.vin = mv / 10 % 65536)) ∧
    (∀ mv, mv < par s 0x7000 → s.pwr.sagw = false → Happens (.sagwSet mv) s [.pwr, .ctrs] (fun t => Counted .sag 1 s t ∧
      Raised 0 t ∧ t.pwr.sagw = true ∧ t.pwr.inputOk = s.pwr.inputOk ∧ t.pwr.hub = s.pwr.hub ∧ t.pwr.vin = mv / 10 % 65536)) ∧
    (∀ mv, par s 0x7000 + 1500 < mv → s.pwr.sagw = true → Happens (.sagwClear mv) s [.pwr] (fun t => t.pwr.sagw = false ∧
      t.pwr.inputOk = s.pwr.inputOk ∧ t.pwr.hub = s.pwr.hub ∧ t.pwr.vin = mv / 10 % 65536)) ∧
    (mayCoast s = false →
      (∀ mv, mv < 28000 → s.pwr.inputOk = true → Happens (.inputBelow28v mv) s [.pwr, .freeCtr] (fun t =>
        t.pwr.inputOk = false ∧ t.pwr.hub ≤ 4896 ∧ t.pwr.vin = mv / 10 % 65536)) ∧
      (∀ mv, 80000 < mv → s.pwr.ov = false → Happens (.inputOvervoltage mv) s [.pwr, .freeCtr] (fun t => Raised 4 t ∧
        t.pwr.inputOk = false ∧ t.pwr.ov = true ∧ t.pwr.vin = mv / 10 % 65536)) ∧
      (s.pwr.sagw = true → Happens .sagwDwellExpiry s [.pwr] (fun t => t.pwr = { s.pwr with returnPend := false }))) ∧
    (mayCoast s = true →
      (∀ mv, mv < 28000 → s.pwr.inputOk = true → Happens (.inputBelow28v mv) s coastParts (fun t => Coasted s t ∧
        t.pwr.inputOk = false)) ∧
      (∀ mv, 80000 < mv → s.pwr.ov = false → Happens (.inputOvervoltage mv) s coastParts (fun t => Coasted s t ∧ Raised 4 t ∧
        t.pwr.inputOk = false ∧ t.pwr.ov = true)) ∧
      (s.pwr.sagw = true → Happens .sagwDwellExpiry s coastParts (fun t => Coasted s t ∧ t.pwr.sagw = true))) ∧
    (s.fly.state ≠ .waiting → Happens .coastEstimateTick s [.pwr] (fun t =>
      t.pwr = { s.pwr with est := coastEst s % 2 ^ 24 })) ∧
    (s.fly.state = .waiting → s.fly.requested = true → s.fly.cur = none → flySuppressed s = false → flyBand s ≠ 7 →
      25 * flyMs (flyBand s) ≤ coastEst s % 2 ^ 24 → Happens .coastEstimateTick s [.pwr, .fly] (fun t =>
        t.pwr = { s.pwr with est := coastEst s % 2 ^ 24 } ∧ t.fly = { s.fly with reqBand := flyBand s, state := .idle })) ∧
    (s.fly.state = .waiting → s.fly.requested = true → s.fly.cur = none → flySuppressed s = false → flyBand s ≠ 7 →
      coastEst s % 2 ^ 24 < 25 * flyMs (flyBand s) →
      (s.cond.coast = false → Happens .coastEstimateTick s [.pwr, .fly] (fun t =>
        t.pwr = { s.pwr with est := coastEst s % 2 ^ 24 } ∧ t.fly = { s.fly with reqBand := flyBand s })) ∧
      (s.cond.coast = true → s.fly.tags = [] → Happens .coastEstimateTick s [.pwr, .fly, .ctrs, .bb] (fun t =>
        Counted .flySkip 1 s t ∧ Raised 62 t ∧ t.fly.state = .idle ∧ t.fly.requested = false)))

/-- Each step that ends raises source 3 and is noted as ended. Step 1 leads to the flush, for which the Recorder, if
it writes, closes its frame and stops; step 2 to the discharge of a panel that is on, the flush marked done; step 3 to
the status image, which a slow drum or BIVOUAC passes over; step 4 to Coast idle. A step whose work lasts goes on. The
return condition is noted while a step lasts, and in Coast idle it ends COAST as a ride-through: counted, with source
2, every commit and byte of memory as it was, and, with no LINK_TRAIN in flight, every command. (R441, R443, R444, R445, R446, R529.) -/
def Obligations.CoastStepsAndReturn : Prop :=
  ∀ s : State, LightInv s → live s = true → s.cond.coast = true →
    (stepWorkDone s = false → Happens .coastStepEnd s [] (fun _ => True)) ∧
    (s.pwr.coastStep = 1 → stepDomainUp s 1 = true → stepDomainUp s 2 = true → s.pwr.coastSlow = false →
      (¬ Records s → Happens .coastStepEnd s [.pwr] (fun t => Raised 3 t ∧ t.pwr = { s.pwr with
        coastStep := 2, stepsEnded := s.pwr.stepsEnded ++ [1], stepEst := s.pwr.stepEst.set 1 s.pwr.est })) ∧
      (Records s → Happens .coastStepEnd s [.pwr, .sil, .sco, .bl, .tu, .acc, .mem, .sdec, .cfg] (fun t => Raised 3 t ∧
        Recorded s t ∧ t.sil.flush.isSome = true ∧ t.sil.stopped = true ∧ t.pwr.coastStep = 2 ∧ t.cfg.active = s.cfg.active))) ∧
    (s.pwr.returning = false →
      (s.pwr.coastStep = 2 → stepDomainUp s 2 = true → stepDomainUp s 3 = true → s.sil.flush = none → s.mem.changing = none →
        (s.pnl.state = .on ∨ s.pnl.state = .powering) →
        Happens .coastStepEnd s [.pwr, .sil, .bb, .ctrs, .pnl, .gcl, .plt, .light, .books, .blt] (fun t => Raised 3 t ∧
          t.pwr.coastStep = 3 ∧ t.pwr.flushDone = true ∧ t.pwr.stepsEnded = s.pwr.stepsEnded ++ [2] ∧
          t.pnl.state = .discharging ∧ t.pnl.dischStep = 1)) ∧
      (s.pwr.coastStep = 3 → stepDomainUp s 3 = true → stepDomainUp s 4 = true → s.pnl.state = .off →
        (s.cond.bivouac = true ∨ s.pwr.coastSlow = true) → s.fly.requested = false → s.fly.pend = false → s.fly.cur = none →
        Happens .coastStepEnd s [.pwr, .sil, .bb, .ctrs] (fun t => Raised 3 t ∧ Raised 62 t ∧ Counted .flySkip 1 s t ∧
          t.pwr.coastStep = 5 ∧ t.pwr.flySkipped = true ∧ t.pwr.stepsEnded = s.pwr.stepsEnded ++ [3])) ∧
      (s.pwr.coastStep = 4 → stepDomainUp s 4 = true → stepDomainUp s 5 = true → s.fly.requested = false →
        s.fly.pend = false → s.fly.cur = none → Happens .coastStepEnd s [.pwr, .sil] (fun t => Raised 3 t ∧ Raised 244 t ∧
          t.pwr.coastStep = 5 ∧ t.pwr.stepsEnded = s.pwr.stepsEnded ++ [4] ∧
          t.pwr.flyDone = ((s.fly.journal.head?).map (·.done)).getD false))) ∧
    (s.pwr.inputOk = true → s.pwr.sagw = false →
      (s.pwr.coastStep ≠ 5 → Happens .returnCondition s [.pwr] (fun t =>
        t.pwr = { s.pwr with returning := true, returnPend := false })) ∧
      (s.pwr.coastStep = 5 → QuietPaths s → Happens .returnCondition s
          [.pwr, .cond, .sil, .ctrs, .freeCtr, .rot, .light, .pnl, .plt, .gcl, .sco, .acc, .books, .blt] (fun t =>
        t.cond = { s.cond with coast := false } ∧ Raised 2 t ∧ Advanced .ride 1 s t ∧ t.pwr.coastStep = 0 ∧
        t.sil.stopped = false ∧ t.sil.records = s.sil.records ∧ t.rot.state ≠ .regen ∧
        (startedOf s 0x0410 = [] → t.hif = s.hif ∧ t.blt = s.blt))))

/-- The power-on reset starts a cold episode: no command, counter, written byte of memory or commit is left, while the
journal, the thermal log and the NAND log are; a fall of the HUB asserts it only while nothing holds the HUB up. RESET_B
starts a warm episode, counted, which keeps the bytes of memory but for those that writes under way leave undefined, the
black box, the clocks, the mode and its conditions, the level of the status pins, and every command in flight for its
reply; in an episode it only joins.
The release that leaves no reset asserted counts BOOT and sets the epochs from it. Each domain is released in turn
once it is locked; a lock, a training or READY that does not come fails the start, and the third failure is BIVOUAC,
as is a start with no image that verifies. READY comes once all are released, memory is trained and a re-drive that nothing holds back has started: source 195, the
count of failed starts cleared, and, after a warm episode, the replies of the commands it ended. An expired watchdog
sets FAULT; an overloaded rail is switched off and tried again. What a warm episode keeps beyond the rules is the
model's choice (log 20). (R448, R449, R450, R451, R453, R454, R455, R456, R458, R349, R569, R554.) -/
def Obligations.ResetsStartsAndRails : Prop :=
  ∀ s : State, LightInv s → 
    (s.pwr.porAsserted = false → hubHeld s = true → Nothing (.porAssert true) s) ∧
    (∀ b, s.pwr.porAsserted = false → (b = true → hubHeld s = false) →
      Happens (.porAssert b) s episodeParts (fun t => t.pwr.porAsserted = true ∧
      t.pwr.episode = true ∧ t.pwr.cold = true ∧ t.pwr.porSeen = true ∧ t.hif.ready = false ∧ t.hif.fwUp = false ∧
      t.hif.flights = [] ∧ t.ctrs = [] ∧ t.mem.cells = [] ∧ t.cfg.commits = [] ∧ t.cond.mode = .parked ∧ t.cond.fault = false ∧
      t.rot.angleValid = false ∧ t.fly.journal = s.fly.journal ∧ t.therm.log = s.therm.log ∧ t.pwr.boot = s.pwr.boot ∧
      t.pwr.startFails = s.pwr.startFails ∧ (s.sil.flush = none → t.sil.nand = s.sil.nand))) ∧
    (s.pwr.porAsserted = true → ∀ b, Happens (.porAssert b) s [] (fun _ => True)) ∧
    (s.pwr.resetB = false → s.pwr.episode = true → Happens .resetBAssert s [.pwr] (fun t =>
      t.pwr = { s.pwr with resetB := true, resetBSeen := true })) ∧
    (s.pwr.resetB = false → s.pwr.episode = false → Happens .resetBAssert s episodeParts (fun t => t.pwr.resetB = true ∧
      t.pwr.episode = true ∧ t.pwr.cold = false ∧ t.hif.ready = false ∧ t.hif.flights = [] ∧
      t.pwr.aborted = s.pwr.aborted ++ s.hif.flights ∧ Advanced .warm 1 s t ∧ (∀ c, keptCtr c = false → ctrVal t c = 0) ∧
      t.mem.cells = s.mem.cells ∧ t.bb = s.bb ∧ t.clk = s.clk ∧ t.cond.mode = s.cond.mode ∧ t.cond.fault = s.cond.fault ∧
      t.cond.shutdown = s.cond.shutdown ∧ t.cond.coast = s.cond.coast ∧ t.rot.state = s.rot.state ∧ t.rot.angleValid = false ∧
      t.pwr.held = some (pinsNow s))) ∧
    (s.pwr.porAsserted = true → (s.pwr.resetB = true → Happens .porRelease s [.pwr] (fun t =>
        t.pwr = { s.pwr with porAsserted := false, auxEnc := true, auxIo := true, railTrip := [false, false, false] })) ∧
      (s.pwr.resetB = false → Happens .porRelease s [.pwr, .hif, .cfg, .tu, .bb, .fly, .ctrs, .books, .blt] (fun t =>
        t.pwr.episode = false ∧ t.pwr.porAsserted = false ∧ t.pwr.released = 0 ∧ t.pwr.boot = (s.pwr.boot + 1) % 2 ^ 24 ∧
        t.cfg.epoch = t.pwr.boot * 2 ^ 40 ∧ t.cfg.nextEpoch = t.cfg.epoch ∧ t.cfg.active = s.cfg.active))) ∧
    (s.pwr.resetB = true → (s.pwr.porAsserted = true → Happens .resetBRelease s [.pwr] (fun t =>
        t.pwr = { s.pwr with resetB := false })) ∧
      (s.pwr.porAsserted = false → Happens .resetBRelease s [.pwr, .hif, .cfg, .tu, .bb, .fly, .ctrs, .books, .blt] (fun t =>
        t.pwr.episode = false ∧ t.pwr.resetB = false ∧ t.pwr.released = 0 ∧ t.pwr.boot = (s.pwr.boot + 1) % 2 ^ 24 ∧
        t.cfg.epoch = t.pwr.boot * 2 ^ 40 ∧ t.cfg.nextEpoch = t.cfg.epoch ∧ t.cfg.active = s.cfg.active))) ∧
    (starting s = true → s.pwr.released < 8 → Happens (.clockDomainRelease false) s [] (fun _ => True) ∧
      ((s.pwr.released = 3 → pickImage s ≠ none) →
        Happens (.clockDomainRelease true) s [.pwr, .clk, .tu, .hif, .mem, .sil] (fun t =>
          t.pwr.released = s.pwr.released + 1 ∧ (s.pwr.released = 2 → t.tu.running = true) ∧
          (s.pwr.released = 3 → t.hif.fwUp = true) ∧ (s.pwr.released ≠ 3 → t.hif = s.hif))) ∧
      (s.pwr.released = 3 → pickImage s = none → Happens (.clockDomainRelease true) s failedStartParts (fun t =>
        t.pwr.startFails = min 15 (s.pwr.startFails + 1) ∧ t.pwr.startFailed = true ∧ t.cond.bivouac = true ∧
        t.cond.mode = .parked ∧ t.rot.state = .freewheel)) ∧
      Happens .domainLockTimeout s failedStartParts (fun t => StartFailed s t ∧ t.pwr.failedDomain = s.pwr.released + 1)) ∧
    (starting s = true → s.cond.coast = false → Happens .startTimeout s failedStartParts (fun t => StartFailed s t ∧
      t.pwr.failedDomain = s.pwr.failedDomain)) ∧
    (starting s = true → 5 ≤ s.pwr.released → s.mem.trained = false →
      Happens (.memInitDone true) s [.mem] (fun t => t.mem = { s.mem with trained := true, resetsHeld := false, point := .p32 }) ∧
      Happens (.memInitDone false) s failedStartParts (fun t => StartFailed s t ∧ t.pwr.failedDomain = 5)) ∧
    (redriveFirst s = true → Nothing Instr.ready s) ∧
    (mayReady s = true → QuietPaths s →
      (s.pwr.cold = true → s.pwr.aborted = [] → s.pwr.autostart ≠ 1 → Happens Instr.ready s [.hif, .pwr, .rot, .light, .mem, .ctrs] (fun t =>
        t.hif.ready = true ∧ Raised 195 t ∧ (s.pwr.startFails ≠ 0 → Raised 6 t) ∧ t.pwr = { s.pwr with startFails := 0, held := none } ∧
        t.hif.fwUp = s.hif.fwUp ∧ (s.mem.changing = none → t.mem.point = .off))) ∧
      (s.pwr.cold = false → s.cond.mode = .parked → s.pwr.warmMode = .parked →
        Happens Instr.ready s [.hif, .pwr, .rot, .light, .mem, .sil, .books, .bb, .ctrs] (fun t => t.hif.ready = true ∧ Raised 195 t ∧
          Raised 5 t ∧ t.pwr.startFails = 0 ∧ t.pwr.aborted = [] ∧ t.sil.running = false ∧
          ∀ f ∈ s.pwr.aborted, f.silent = false →
            ∃ r ∈ t.hif.replies, r.status = BitVec.ofNat 16 St.resetAbort ∧ r.tag = ptag f.p ∧ r.opcode = BitVec.ofNat 16 f.op))) ∧
    (∀ c, live s = true → c < 4 →
      (s.dbg.halted.getLsbD c = false → Happens (.watchdogExpiry c) s faultParts (FaultSet s)) ∧
      (s.dbg.halted.getLsbD c = true → Happens (.watchdogExpiry c) s [] (fun _ => True))) ∧
    (∀ r, (railOn s r = true → Happens (.auxRailTrip r) s [.pwr, .pnl] (fun t =>
        railOn t r = false ∧ t.pwr.railTrip = s.pwr.railTrip.set (railIndex r) true)) ∧
      (s.pwr.railTrip.getD (railIndex r) false = true → Happens (.auxRailRetry r) s [.pwr, .pnl] (fun t =>
        railOn t r = (r != .pnl || s.pnl.state != .off) ∧ t.pwr.railTrip = s.pwr.railTrip.set (railIndex r) false)))

/-- A sample outside what R464 and R466 take counts toward invalidity; a valid one enters the mean of its second, and
after 100 in a row an invalid input is valid again with its history restarted. Three invalid ones make an input
invalid: counted, with source 11, and the throttle at its floor at least. A reading is the rounded mean of the valid
samples, or the held one during CALIBRATE, and enters the history. The throttle steps up while a reading is exceeded,
down after the hold with all below their hold levels, and is never below its floor; a change raises source 8, a rise
is counted. A trip sets THERMAL_SHUTDOWN, counted, with source 10 and a log entry, and nothing is lit; another trip is
logged only. (R465, R466, R467, R468, R469, R470, R471, R473.) -/
def Obligations.ThermalSamplesReadingsAndTrips : Prop :=
  ∀ s : State, LightInv s → live s = true → s.therm.ins.length = 22 →
    (∀ n m, n < 22 → tempEnabled s n = true → n ∉ s.therm.heldRead →
      (sampleValue s n m = none → Happens (.tempSample n m) s [.therm] (fun t => (inOf t n).badRun = (inOf s n).badRun + 1 ∧
        (inOf t n).goodRun = 0 ∧ (inOf t n).valid = (inOf s n).valid ∧ (inOf t n).reading = (inOf s n).reading ∧
        ∀ k, k ≠ n → inOf t k = inOf s k)) ∧
      (∀ v, sampleValue s n m = some v → Happens (.tempSample n m) s [.therm] (fun t => (inOf t n).badRun = 0 ∧
        (inOf t n).goodRun = (inOf s n).goodRun + 1 ∧ (∀ k, k ≠ n → inOf t k = inOf s k) ∧ t.therm.step = s.therm.step ∧
        ((inOf s n).valid = true → (inOf t n).sum = (inOf s n).sum + v ∧ (inOf t n).n = (inOf s n).n + 1 ∧
          (inOf t n).valid = true ∧ (inOf t n).reading = (inOf s n).reading) ∧
        ((inOf s n).valid = false → ((inOf t n).valid = true ↔ 100 ≤ (inOf s n).goodRun + 1) ∧
          ((inOf t n).valid = true → (inOf t n).hasRead = false ∧ (inOf t n).history = []))))) ∧
    (∀ n, n < 22 → tempEnabled s n = true → (inOf s n).valid = true →
      (3 ≤ (inOf s n).badRun → Happens (.tempInputInvalid n) s [.therm, .ctrs, .bb] (fun t => Raised 11 t ∧
        Advanced .tsInvalid 1 s t ∧ (inOf t n).valid = false ∧ (inOf t n).hasRead = false ∧
        (inOf t n).reading = (inOf s n).reading ∧ (∀ k, k ≠ n → inOf t k = inOf s k) ∧
        (s.cond.bivouac = false → thrFloor t ≤ t.therm.step))) ∧
      ((inOf s n).badRun < 3 → Happens (.tempInputInvalid n) s [] (fun _ => True)) ∧
      (n ∉ s.therm.heldRead → (inOf s n).n ≠ 0 → Happens (.tempReading n) s [.therm] (fun t =>
        (inOf t n).reading = roundDiv (inOf s n).sum (4096 * (inOf s n).n) ∧ (inOf t n).hasRead = true ∧ (inOf t n).n = 0 ∧
        (inOf t n).sum = 0 ∧ (inOf t n).history = ((inOf t n).reading :: (inOf s n).history).take 601 ∧
        ((inOf t n).exceeded = true → (inOf s n).exceeded = false → Raised 9 t) ∧ ∀ k, k ≠ n → inOf t k = inOf s k)) ∧
      (n ∈ s.therm.heldRead → (inOf s n).hasRead = true → Happens (.tempReading n) s [.therm] (fun t =>
        (inOf t n).reading = (inOf s n).reading ∧ ∀ k, k ≠ n → inOf t k = inOf s k)) ∧
      (3 ≤ (inOf s n).tripRun → (inOf s n).tripSeen = false → s.cond.bivouac = false →
        (s.cond.shutdown = false → Happens (.thermalTrip n) s faultParts (fun t => Raised 10 t ∧
          Advanced .thermTrip 1 s t ∧ t.cond.shutdown = true ∧ t.cond.fault = s.cond.fault ∧ t.cond.mode = s.cond.mode ∧
          t.bl.lit = List.replicate 8 false ∧ (inOf t n).tripped = true ∧ t.therm.logSeq = (s.therm.logSeq + 1) % 2 ^ 32)) ∧
        (s.cond.shutdown = true → Happens (.thermalTrip n) s [.therm, .freeCtr] (fun t => (inOf t n).tripSeen = true ∧
          t.therm.logSeq = (s.therm.logSeq + 1) % 2 ^ 32)))) ∧
    (s.cond.bivouac = false → Happens .throttleTick s [.therm, .ctrs] (fun t => t.therm.ins = s.therm.ins ∧
      t.therm.step = max (thrFloor s) (if anyExceeded s then min 15 (s.therm.step + 1)
        else if par s 0x7101 * 1000 ≤ s.therm.relax + par s 0x7100 ∧ allBelowHold s = true then s.therm.step - 1
        else s.therm.step) ∧
      (t.therm.step ≠ s.therm.step → Raised 8 t) ∧ (s.therm.step < t.therm.step → Counted .thrStep 1 s t)))

/-- A counting window within the tolerance adds to the run that gives lock from the fourth on; one far out adds to the
run of which the second loses lock; one between ends both. A loss is counted, with source 224, and puts the clock on
bypass; outside a requested change it has its effect: FAULT for the core, memory and lane PLLs and the aligners of the
gate-control links, lanes idle for the lane PLL, HOLDOVER for the PTP PLL, none for the rest. The PCI Express PHY PLL
has no bypass clock: its link goes down as at an endpoint reset. A locked clock leaves
bypass with source 225. A reference that fails while fallback is allowed is replaced by the crystal, counted, with
source 226. An edge of SYNC_IN that re-phases an output is one re-phase, counted, with source 227 (log 18). An aligner
off its phase moves one step later. (R387, R501, R502, R504, R505, R507, R509.) -/
def Obligations.ClockUnitEvents : Prop :=
  ∀ s : State, LightInv s → 
    (∀ n, n < 12 → s.clk.plls.length = 13 →
      (s.pwr.porAsserted = false → ∀ cnt c,
        (pllGood s n cnt c = true → Happens (.pllLockWindow n cnt c) s [.clk] (fun t =>
          pllOf t n = { pllOf s n with goodRun := (pllOf s n).goodRun + 1, badRun := 0
                                       lock := (pllOf s n).lock || decide (3 ≤ (pllOf s n).goodRun) } ∧
          ∀ k, k ≠ n → pllOf t k = pllOf s k)) ∧
        (pllGood s n cnt c = false → pllBad s n cnt c = false → Happens (.pllLockWindow n cnt c) s [.clk] (fun t =>
          pllOf t n = { pllOf s n with goodRun := 0, badRun := 0 } ∧ ∀ k, k ≠ n → pllOf t k = pllOf s k)) ∧
        (pllGood s n cnt c = false → pllBad s n cnt c = true →
          (((pllOf s n).lock = false ∨ (pllOf s n).badRun = 0) → Happens (.pllLockWindow n cnt c) s [.clk] (fun t =>
            pllOf t n = { pllOf s n with goodRun := 0, badRun := (pllOf s n).badRun + 1 } ∧ ∀ k, k ≠ n → pllOf t k = pllOf s k)) ∧
          ((pllOf s n).lock = true → 1 ≤ (pllOf s n).badRun →
            (((pllOf s n).requested = true ∨ 8 ≤ n) → Happens (.pllLockWindow n cnt c) s [.clk, .ctrs] (fun t =>
              Counted .clkLockLoss 1 s t ∧ Raised 224 t ∧ (pllOf t n).lock = false ∧ (pllOf t n).bypass = true ∧
              ∀ k, k ≠ n → pllOf t k = pllOf s k)) ∧
            ((pllOf s n).requested = false → (n < 3 ∨ 4 ≤ n ∧ n < 8) →
              Happens (.pllLockWindow n cnt c) s (.clk :: faultParts) (fun t => FaultSet s t ∧ Raised 224 t ∧
                Advanced .clkLockLoss 1 s t ∧ (pllOf t n).lock = false ∧ (pllOf t n).bypass = true ∧
                (n = 2 → t.plt.state = .l3d) ∧ ∀ k, k ≠ n → pllOf t k = pllOf s k)) ∧
            ((pllOf s n).requested = false → n = 3 → Happens (.pllLockWindow n cnt c) s [.clk, .ctrs, .tu] (fun t =>
              Counted .clkLockLoss 1 s t ∧ Raised 224 t ∧ (pllOf t n).bypass = true ∧ t.tu.state = .holdover ∧
              t.tu.bypassed = true ∧ t.tu.time = s.tu.time))))) ∧
      ((pllOf s n).lock = true → (pllOf s n).bypass = true → Happens (.bypassReturn n) s [.clk, .tu] (fun t => Raised 225 t ∧
        pllOf t n = { pllOf s n with bypass := false } ∧ t.tu = { s.tu with bypassed := s.tu.bypassed && decide (n ≠ 3) }))) ∧
    (s.clk.plls.length = 13 → s.pwr.porAsserted = false → ∀ cnt c, pllGood s 12 cnt c = false → pllBad s 12 cnt c = true →
      (pllOf s 12).lock = true → 1 ≤ (pllOf s 12).badRun →
      Happens (.pllLockWindow 12 cnt c) s [.clk, .ctrs, .books, .hif, .intc] (fun t =>
        Counted .clkLockLoss 1 s t ∧ (pllOf t 12).lock = false ∧ (pllOf t 12).bypass = (pllOf s 12).bypass ∧
        (∀ k, k ≠ 12 → pllOf t k = pllOf s k) ∧
        (live s = true → s.hif.fwUp = true → s.hif.linkUp = true → t.hif.linkUp = false ∧
          ∀ q, (queueOf t q).enable = false ∧ (queueOf t q).ring = (queueOf s q).ring) ∧
        ((live s = false ∨ s.hif.linkUp = false) → t.hif = s.hif))) ∧
    (s.pwr.porAsserted = false → s.clk.refUse ≠ 0 → par s 0x0201 = 1 → Happens .refinFail s [.clk, .ctrs] (fun t =>
      Counted .clkRefSwitch 1 s t ∧ Raised 226 t ∧ t.clk = { s.clk with refUse := 0, refFallback := true })) ∧
    (∀ b, (syncOutputs s b ≠ [] → Happens (.syncInEdge b) s [.ctrs] (fun t => Counted .clkSync 1 s t ∧ Raised 227 t)) ∧
      (syncOutputs s b = [] → Happens (.syncInEdge b) s [] (fun _ => True))) ∧
    (∀ n, n < 8 → s.clk.phase.getD n 0 ≠ par s (0x0223 + 8 * n) →
      Happens (.alignerPhaseStep n) s [.clk] (fun t => t.clk = { s.clk with phase := s.clk.phase.set n ((s.clk.phase.getD n 0 + 1) % 64) }))

/-- With 64 operations in the Blitter's queue, a Blitter command of any of the four opcodes that no other check
refuses is answered at once with ST_BLT_QUEUE_FULL; it takes no tag, and nothing beside its reply, the counter of
refusals and the books of the interfaces differs. (R192; stated.) -/
def Obligations.BlitterQueueFullIsRefused : Prop :=
  ∀ s : State, LightInv s → 64 ≤ s.blt.queue.length → ∀ (p : Pkt) (c : Instr) (op : Nat), (c, op) ∈ [(Instr.blitFill p, 0x0501), (Instr.blitCopy p, 0x0502), (Instr.blitOutline p, 0x0503), (Instr.blitClipSet p, 0x0504)] →
    pathOpen s p.path = true → (p.path = 16 → ethUp s = true) →
    acceptCheck { s with blt := { s.blt with queue := [] } } op p = none →
    RunsTo c s [.books, .events, .ctrs] (fun t => Replied s t op p 0x0116 [] ∧ t.hif.flights = s.hif.flights ∧
      Advanced .refused 1 s t)

/-- With the CORE domain awake: a claim at a vector that is not active returns the lowest-numbered source pending and
routed there, with VALID set, which is then no longer pending, and makes the vector active with it; no other source or
vector is touched. With nothing pending there, or at an active vector, it returns VALID 0 and changes nothing. A
completion that names the source active at its vector ends its active state; one that names another is ignored and
counted in INTC_SPURIOUS_CNT. (R491; stated.) -/
def Obligations.ClaimsAndCompletionsOfTheHost : Prop :=
  ∀ s : State, Calm s → live s = true → s.intc.asleep = false → ∀ v, 16 ≤ v → v ≤ 31 →
    (∀ n, tget? s.intc.active v = none → n < 256 → hostPending s n = true → routeVec s n = v →
      (∀ m, hostPending s m = true → routeVec s m = v → n ≤ m) →
      Happens (.intcClaim v) s [.hif, .intc] (fun t => t.hif = { s.hif with lastRead := BitVec.ofNat 32 (n + 2 ^ 8) } ∧
        hostPending t n = false ∧ tget? t.intc.active v = some n ∧
        (∀ w, w ≠ v → tget? t.intc.active w = tget? s.intc.active w) ∧
        (∀ m, m ≠ n → hostPending t m = hostPending s m))) ∧
    (((tget? s.intc.active v).isSome = true ∨ ∀ m, hostPending s m = true → routeVec s m ≠ v) →
      RunsTo (.intcClaim v) s [.hif] (fun t => t.hif = { s.hif with lastRead := 0 })) ∧
    (∀ x : Word, tget? s.intc.active v = some (x.toNat % 256) → Happens (.intcEoi v x) s [.intc] (fun t =>
      tget? t.intc.active v = none ∧ ∀ w, w ≠ v → tget? t.intc.active w = tget? s.intc.active w)) ∧
    (∀ x : Word, tget? s.intc.active v ≠ some (x.toNat % 256) → Happens (.intcEoi v x) s [.ctrs] (fun t =>
      Counted .spurious 1 s t))

/-- A cold episode leaves no chain. The Recorder that starts without one takes SHA-256 of the serial number and BOOT
as its chain value, and its first record, a seal, is chained from that. Every record, a seal and a frame record alike,
whatever its type, kind, length and body, ends with the CRC-32C of all its bytes before, little-endian, and the chain
value becomes SHA-256 of the value before and all bytes of the record. (R517, R521; stated.) -/
def Obligations.RecordsAreChainedAndChecked : Prop :=
  (∀ (s : State) sagr, s.pwr.porAsserted = false → (sagr = true → hubHeld s = false) → (porAssert sagr s).sil.chain = []) ∧
    (∀ s : State, s.sil.chain = [] → ∃ r, (startRecorder s).sil.records = r :: s.sil.records ∧
      r.chain = sha256 (serialBytes ++ leBytes 4 s.pwr.boot) ∧ (startRecorder s).sil.chain = sha256 (r.chain ++ r.bytes)) ∧
    (∀ (s : State) (ty kind n : Nat) (body : List Byte), 1 ≤ n →
      ∃ r, (writeRecord ty kind n body s).sil.records = r :: s.sil.records ∧ r.chain = s.sil.chain ∧
        r.bytes.length = 64 * n ∧ r.bytes.drop (64 * n - 4) = leBytes 4 (crc32c (r.bytes.take (64 * n - 4))).toNat ∧
        (writeRecord ty kind n body s).sil.chain = sha256 (s.sil.chain ++ r.bytes)) ∧
    (∀ (s : State) (cause : Nat), ∃ r, (writeSeal cause s).sil.records = r :: s.sil.records ∧ r.chain = s.sil.chain ∧
      r.bytes.length = 128 ∧ r.bytes.drop 124 = leBytes 4 (crc32c (r.bytes.take 124)).toNat ∧
      (writeSeal cause s).sil.chain = sha256 (s.sil.chain ++ r.bytes)) ∧
    (∀ (s : State) (ty kind n : Nat) (body : List Byte), 1 ≤ n →
      (chainRecord ty kind n body s).1.drop (64 * n - 4) =
        leBytes 4 (crc32c ((chainRecord ty kind n body s).1.take (64 * n - 4))).toNat ∧
      (chainRecord ty kind n body s).2.sil.chain = sha256 (s.sil.chain ++ (chainRecord ty kind n body s).1))

/-- For a current I of R310 the code of a sink is I × 20 × GAIN / 32,768 rounded with halves upward, with OFFSET
added, held to 0 to 4,095; a zone that pulses with I = 0 has its sink off and its code 0, any other has its sink on
with the code of the sink that carries it. GAIN 33,100 and OFFSET −3 give 1,957 for 97 mA. (R476; stated.) -/
def Obligations.SinkCodesFollowTheCalibration : Prop :=
  (∀ (s : State) (k i : Nat), ∃ q : Int,
      65536 * q ≤ 2 * ((i * 20 * (par s (0xA000 + k) % 65536) : Nat) : Int) + 32768 ∧
      2 * ((i * 20 * (par s (0xA000 + k) % 65536) : Nat) : Int) + 32768 < 65536 * (q + 1) ∧
      (dacCode s k i : Int) = max 0 (min 4095 (q + sext 16 (par s (0xA000 + k) / 65536)))) ∧
    (∀ (s : State) (z : Nat), z < 128 → s.bl.current.length = 128 → s.bl.dac.length = 128 →
      (lightZone s z).bl.current.getD z 0 = zoneCurrent s z ∧
      (lightZone s z).bl.sinkOn.getLsbD z = decide (zoneCurrent s z ≠ 0) ∧
      (lightZone s z).bl.dac.getD z 0 = if zoneCurrent s z = 0 then 0 else dacCode s (zoneSink s z) (zoneCurrent s z)) ∧
    (∀ s : State, par s (0xA000 + 37) = 33100 + 65533 * 65536 → dacCode s 37 97 = 1957)

end Statements
end

