-- ==== Sys2Proof/Laws/State.lean ====
section
/-! SUPPORT. What each named update of the state leaves as it was: one lemma an update, every equation true by
computation, for simp to use in place of unfolding a record update. -/
namespace Sys2Proof.Machine

/-- What `onMem` leaves as it was. -/
@[simp] theorem onMem_frame (f : Mem → Mem) (s : State) :
    (onMem f s).pending = s.pending ∧ (onMem f s).freeCtr = s.freeCtr ∧ (onMem f s).ctrs = s.ctrs ∧
    (onMem f s).clock = s.clock ∧ (onMem f s).hif = s.hif ∧ (onMem f s).cfg = s.cfg ∧ (onMem f s).rmap = s.rmap ∧
    (onMem f s).sdec = s.sdec ∧ (onMem f s).acc = s.acc ∧ (onMem f s).ray = s.ray ∧ (onMem f s).blt = s.blt ∧
    (onMem f s).rot = s.rot ∧ (onMem f s).sco = s.sco ∧ (onMem f s).plt = s.plt ∧ (onMem f s).gcl = s.gcl ∧
    (onMem f s).pnl = s.pnl ∧ (onMem f s).bl = s.bl ∧ (onMem f s).fly = s.fly ∧ (onMem f s).tu = s.tu ∧
    (onMem f s).pwr = s.pwr ∧ (onMem f s).cond = s.cond ∧ (onMem f s).therm = s.therm ∧ (onMem f s).intc = s.intc ∧
    (onMem f s).clk = s.clk ∧ (onMem f s).sil = s.sil ∧ (onMem f s).bb = s.bb ∧ (onMem f s).dbg = s.dbg := by
  repeat' constructor

/-- What `onQueue` leaves as it was. -/
@[simp] theorem onQueue_frame (n : Nat) (f : Queue → Queue) (s : State) :
    (onQueue n f s).pending = s.pending ∧ (onQueue n f s).freeCtr = s.freeCtr ∧ (onQueue n f s).ctrs = s.ctrs ∧
    (onQueue n f s).clock = s.clock ∧ (onQueue n f s).cfg = s.cfg ∧ (onQueue n f s).rmap = s.rmap ∧
    (onQueue n f s).sdec = s.sdec ∧ (onQueue n f s).acc = s.acc ∧ (onQueue n f s).ray = s.ray ∧
    (onQueue n f s).blt = s.blt ∧ (onQueue n f s).rot = s.rot ∧ (onQueue n f s).sco = s.sco ∧
    (onQueue n f s).plt = s.plt ∧ (onQueue n f s).gcl = s.gcl ∧ (onQueue n f s).pnl = s.pnl ∧
    (onQueue n f s).bl = s.bl ∧ (onQueue n f s).fly = s.fly ∧ (onQueue n f s).mem = s.mem ∧
    (onQueue n f s).tu = s.tu ∧ (onQueue n f s).pwr = s.pwr ∧ (onQueue n f s).cond = s.cond ∧
    (onQueue n f s).therm = s.therm ∧ (onQueue n f s).intc = s.intc ∧ (onQueue n f s).clk = s.clk ∧
    (onQueue n f s).sil = s.sil ∧ (onQueue n f s).bb = s.bb ∧ (onQueue n f s).dbg = s.dbg := by
  repeat' constructor

/-- What `onFlight` leaves as it was. -/
@[simp] theorem onFlight_frame (n : Nat) (f : Flight → Flight) (s : State) :
    (onFlight n f s).pending = s.pending ∧ (onFlight n f s).freeCtr = s.freeCtr ∧ (onFlight n f s).ctrs = s.ctrs ∧
    (onFlight n f s).clock = s.clock ∧ (onFlight n f s).cfg = s.cfg ∧ (onFlight n f s).rmap = s.rmap ∧
    (onFlight n f s).sdec = s.sdec ∧ (onFlight n f s).acc = s.acc ∧ (onFlight n f s).ray = s.ray ∧
    (onFlight n f s).blt = s.blt ∧ (onFlight n f s).rot = s.rot ∧ (onFlight n f s).sco = s.sco ∧
    (onFlight n f s).plt = s.plt ∧ (onFlight n f s).gcl = s.gcl ∧ (onFlight n f s).pnl = s.pnl ∧
    (onFlight n f s).bl = s.bl ∧ (onFlight n f s).fly = s.fly ∧ (onFlight n f s).mem = s.mem ∧
    (onFlight n f s).tu = s.tu ∧ (onFlight n f s).pwr = s.pwr ∧ (onFlight n f s).cond = s.cond ∧
    (onFlight n f s).therm = s.therm ∧ (onFlight n f s).intc = s.intc ∧ (onFlight n f s).clk = s.clk ∧
    (onFlight n f s).sil = s.sil ∧ (onFlight n f s).bb = s.bb ∧ (onFlight n f s).dbg = s.dbg := by
  repeat' constructor

/-- What `extend` leaves as it was. -/
@[simp] theorem extend_frame (n : Nat) (s : State) :
    (extend n s).pending = s.pending ∧ (extend n s).freeCtr = s.freeCtr ∧ (extend n s).ctrs = s.ctrs ∧
    (extend n s).clock = s.clock ∧ (extend n s).cfg = s.cfg ∧ (extend n s).rmap = s.rmap ∧
    (extend n s).sdec = s.sdec ∧ (extend n s).acc = s.acc ∧ (extend n s).ray = s.ray ∧ (extend n s).blt = s.blt ∧
    (extend n s).rot = s.rot ∧ (extend n s).sco = s.sco ∧ (extend n s).plt = s.plt ∧ (extend n s).gcl = s.gcl ∧
    (extend n s).pnl = s.pnl ∧ (extend n s).bl = s.bl ∧ (extend n s).fly = s.fly ∧ (extend n s).mem = s.mem ∧
    (extend n s).tu = s.tu ∧ (extend n s).pwr = s.pwr ∧ (extend n s).cond = s.cond ∧ (extend n s).therm = s.therm ∧
    (extend n s).intc = s.intc ∧ (extend n s).clk = s.clk ∧ (extend n s).sil = s.sil ∧ (extend n s).bb = s.bb ∧
    (extend n s).dbg = s.dbg := by
  repeat' constructor

/-- What `onPll` leaves as it was. -/
@[simp] theorem onPll_frame (n : Nat) (f : Plle → Plle) (s : State) :
    (onPll n f s).pending = s.pending ∧ (onPll n f s).freeCtr = s.freeCtr ∧ (onPll n f s).ctrs = s.ctrs ∧
    (onPll n f s).clock = s.clock ∧ (onPll n f s).hif = s.hif ∧ (onPll n f s).cfg = s.cfg ∧
    (onPll n f s).rmap = s.rmap ∧ (onPll n f s).sdec = s.sdec ∧ (onPll n f s).acc = s.acc ∧
    (onPll n f s).ray = s.ray ∧ (onPll n f s).blt = s.blt ∧ (onPll n f s).rot = s.rot ∧ (onPll n f s).sco = s.sco ∧
    (onPll n f s).plt = s.plt ∧ (onPll n f s).gcl = s.gcl ∧ (onPll n f s).pnl = s.pnl ∧ (onPll n f s).bl = s.bl ∧
    (onPll n f s).fly = s.fly ∧ (onPll n f s).mem = s.mem ∧ (onPll n f s).tu = s.tu ∧ (onPll n f s).pwr = s.pwr ∧
    (onPll n f s).cond = s.cond ∧ (onPll n f s).therm = s.therm ∧ (onPll n f s).intc = s.intc ∧
    (onPll n f s).sil = s.sil ∧ (onPll n f s).bb = s.bb ∧ (onPll n f s).dbg = s.dbg := by
  repeat' constructor

/-- What `onPort` leaves as it was. -/
@[simp] theorem onPort_frame (n : Nat) (f : CamPort → CamPort) (s : State) :
    (onPort n f s).pending = s.pending ∧ (onPort n f s).freeCtr = s.freeCtr ∧ (onPort n f s).ctrs = s.ctrs ∧
    (onPort n f s).clock = s.clock ∧ (onPort n f s).hif = s.hif ∧ (onPort n f s).cfg = s.cfg ∧
    (onPort n f s).rmap = s.rmap ∧ (onPort n f s).sdec = s.sdec ∧ (onPort n f s).ray = s.ray ∧
    (onPort n f s).blt = s.blt ∧ (onPort n f s).rot = s.rot ∧ (onPort n f s).sco = s.sco ∧
    (onPort n f s).plt = s.plt ∧ (onPort n f s).gcl = s.gcl ∧ (onPort n f s).pnl = s.pnl ∧ (onPort n f s).bl = s.bl ∧
    (onPort n f s).fly = s.fly ∧ (onPort n f s).mem = s.mem ∧ (onPort n f s).tu = s.tu ∧ (onPort n f s).pwr = s.pwr ∧
    (onPort n f s).cond = s.cond ∧ (onPort n f s).therm = s.therm ∧ (onPort n f s).intc = s.intc ∧
    (onPort n f s).clk = s.clk ∧ (onPort n f s).sil = s.sil ∧ (onPort n f s).bb = s.bb ∧ (onPort n f s).dbg = s.dbg := by
  repeat' constructor

/-- What `onJob` leaves as it was. -/
@[simp] theorem onJob_frame (n : Nat) (f : LoadJob → LoadJob) (s : State) :
    (onJob n f s).pending = s.pending ∧ (onJob n f s).freeCtr = s.freeCtr ∧ (onJob n f s).ctrs = s.ctrs ∧
    (onJob n f s).clock = s.clock ∧ (onJob n f s).hif = s.hif ∧ (onJob n f s).cfg = s.cfg ∧
    (onJob n f s).rmap = s.rmap ∧ (onJob n f s).acc = s.acc ∧ (onJob n f s).ray = s.ray ∧ (onJob n f s).blt = s.blt ∧
    (onJob n f s).rot = s.rot ∧ (onJob n f s).sco = s.sco ∧ (onJob n f s).plt = s.plt ∧ (onJob n f s).gcl = s.gcl ∧
    (onJob n f s).pnl = s.pnl ∧ (onJob n f s).bl = s.bl ∧ (onJob n f s).fly = s.fly ∧ (onJob n f s).mem = s.mem ∧
    (onJob n f s).tu = s.tu ∧ (onJob n f s).pwr = s.pwr ∧ (onJob n f s).cond = s.cond ∧
    (onJob n f s).therm = s.therm ∧ (onJob n f s).intc = s.intc ∧ (onJob n f s).clk = s.clk ∧
    (onJob n f s).sil = s.sil ∧ (onJob n f s).bb = s.bb ∧ (onJob n f s).dbg = s.dbg := by
  repeat' constructor

/-- What `ctrSet` leaves as it was. -/
@[simp] theorem ctrSet_frame (c : Ctr) (v : Nat) (s : State) :
    (ctrSet c v s).pending = s.pending ∧ (ctrSet c v s).freeCtr = s.freeCtr ∧ (ctrSet c v s).clock = s.clock ∧
    (ctrSet c v s).hif = s.hif ∧ (ctrSet c v s).cfg = s.cfg ∧ (ctrSet c v s).rmap = s.rmap ∧
    (ctrSet c v s).sdec = s.sdec ∧ (ctrSet c v s).acc = s.acc ∧ (ctrSet c v s).ray = s.ray ∧
    (ctrSet c v s).blt = s.blt ∧ (ctrSet c v s).rot = s.rot ∧ (ctrSet c v s).sco = s.sco ∧
    (ctrSet c v s).plt = s.plt ∧ (ctrSet c v s).gcl = s.gcl ∧ (ctrSet c v s).pnl = s.pnl ∧ (ctrSet c v s).bl = s.bl ∧
    (ctrSet c v s).fly = s.fly ∧ (ctrSet c v s).mem = s.mem ∧ (ctrSet c v s).tu = s.tu ∧ (ctrSet c v s).pwr = s.pwr ∧
    (ctrSet c v s).cond = s.cond ∧ (ctrSet c v s).therm = s.therm ∧ (ctrSet c v s).intc = s.intc ∧
    (ctrSet c v s).clk = s.clk ∧ (ctrSet c v s).sil = s.sil ∧ (ctrSet c v s).bb = s.bb ∧ (ctrSet c v s).dbg = s.dbg := by
  repeat' constructor

/-- What `blackBox` leaves as it was. -/
@[simp] theorem blackBox_frame (c n : Nat) (d : Word) (s : State) :
    (blackBox c n d s).pending = s.pending ∧ (blackBox c n d s).freeCtr = s.freeCtr ∧
    (blackBox c n d s).ctrs = s.ctrs ∧ (blackBox c n d s).clock = s.clock ∧ (blackBox c n d s).hif = s.hif ∧
    (blackBox c n d s).cfg = s.cfg ∧ (blackBox c n d s).rmap = s.rmap ∧ (blackBox c n d s).sdec = s.sdec ∧
    (blackBox c n d s).acc = s.acc ∧ (blackBox c n d s).ray = s.ray ∧ (blackBox c n d s).blt = s.blt ∧
    (blackBox c n d s).rot = s.rot ∧ (blackBox c n d s).sco = s.sco ∧ (blackBox c n d s).plt = s.plt ∧
    (blackBox c n d s).gcl = s.gcl ∧ (blackBox c n d s).pnl = s.pnl ∧ (blackBox c n d s).bl = s.bl ∧
    (blackBox c n d s).fly = s.fly ∧ (blackBox c n d s).mem = s.mem ∧ (blackBox c n d s).tu = s.tu ∧
    (blackBox c n d s).pwr = s.pwr ∧ (blackBox c n d s).cond = s.cond ∧ (blackBox c n d s).therm = s.therm ∧
    (blackBox c n d s).intc = s.intc ∧ (blackBox c n d s).clk = s.clk ∧ (blackBox c n d s).sil = s.sil ∧
    (blackBox c n d s).dbg = s.dbg := by
  repeat' constructor

/-- What `blackBoxSrc` leaves as it was. -/
@[simp] theorem blackBoxSrc_frame (n : Nat) (d : Word) (s : State) :
    (blackBoxSrc n d s).pending = s.pending ∧ (blackBoxSrc n d s).freeCtr = s.freeCtr ∧
    (blackBoxSrc n d s).ctrs = s.ctrs ∧ (blackBoxSrc n d s).clock = s.clock ∧ (blackBoxSrc n d s).hif = s.hif ∧
    (blackBoxSrc n d s).cfg = s.cfg ∧ (blackBoxSrc n d s).rmap = s.rmap ∧ (blackBoxSrc n d s).sdec = s.sdec ∧
    (blackBoxSrc n d s).acc = s.acc ∧ (blackBoxSrc n d s).ray = s.ray ∧ (blackBoxSrc n d s).blt = s.blt ∧
    (blackBoxSrc n d s).rot = s.rot ∧ (blackBoxSrc n d s).sco = s.sco ∧ (blackBoxSrc n d s).plt = s.plt ∧
    (blackBoxSrc n d s).gcl = s.gcl ∧ (blackBoxSrc n d s).pnl = s.pnl ∧ (blackBoxSrc n d s).bl = s.bl ∧
    (blackBoxSrc n d s).fly = s.fly ∧ (blackBoxSrc n d s).mem = s.mem ∧ (blackBoxSrc n d s).tu = s.tu ∧
    (blackBoxSrc n d s).pwr = s.pwr ∧ (blackBoxSrc n d s).cond = s.cond ∧ (blackBoxSrc n d s).therm = s.therm ∧
    (blackBoxSrc n d s).intc = s.intc ∧ (blackBoxSrc n d s).clk = s.clk ∧ (blackBoxSrc n d s).sil = s.sil ∧
    (blackBoxSrc n d s).dbg = s.dbg := by
  repeat' constructor

/-- What `memUndef` leaves as it was. -/
@[simp] theorem memUndef_frame (a n : Nat) (s : State) :
    (memUndef a n s).pending = s.pending ∧ (memUndef a n s).ctrs = s.ctrs ∧ (memUndef a n s).clock = s.clock ∧
    (memUndef a n s).hif = s.hif ∧ (memUndef a n s).cfg = s.cfg ∧ (memUndef a n s).rmap = s.rmap ∧
    (memUndef a n s).sdec = s.sdec ∧ (memUndef a n s).acc = s.acc ∧ (memUndef a n s).ray = s.ray ∧
    (memUndef a n s).blt = s.blt ∧ (memUndef a n s).rot = s.rot ∧ (memUndef a n s).sco = s.sco ∧
    (memUndef a n s).plt = s.plt ∧ (memUndef a n s).gcl = s.gcl ∧ (memUndef a n s).pnl = s.pnl ∧
    (memUndef a n s).bl = s.bl ∧ (memUndef a n s).fly = s.fly ∧ (memUndef a n s).tu = s.tu ∧
    (memUndef a n s).pwr = s.pwr ∧ (memUndef a n s).cond = s.cond ∧ (memUndef a n s).therm = s.therm ∧
    (memUndef a n s).intc = s.intc ∧ (memUndef a n s).clk = s.clk ∧ (memUndef a n s).sil = s.sil ∧
    (memUndef a n s).bb = s.bb ∧ (memUndef a n s).dbg = s.dbg := by
  repeat' constructor

/-- What `draftParam` leaves as it was. -/
@[simp] theorem draftParam_frame (n : Nat) (v : Word) (s : State) :
    (draftParam n v s).pending = s.pending ∧ (draftParam n v s).freeCtr = s.freeCtr ∧
    (draftParam n v s).ctrs = s.ctrs ∧ (draftParam n v s).clock = s.clock ∧ (draftParam n v s).hif = s.hif ∧
    (draftParam n v s).rmap = s.rmap ∧ (draftParam n v s).sdec = s.sdec ∧ (draftParam n v s).acc = s.acc ∧
    (draftParam n v s).ray = s.ray ∧ (draftParam n v s).blt = s.blt ∧ (draftParam n v s).rot = s.rot ∧
    (draftParam n v s).sco = s.sco ∧ (draftParam n v s).plt = s.plt ∧ (draftParam n v s).gcl = s.gcl ∧
    (draftParam n v s).pnl = s.pnl ∧ (draftParam n v s).bl = s.bl ∧ (draftParam n v s).fly = s.fly ∧
    (draftParam n v s).mem = s.mem ∧ (draftParam n v s).tu = s.tu ∧ (draftParam n v s).pwr = s.pwr ∧
    (draftParam n v s).cond = s.cond ∧ (draftParam n v s).therm = s.therm ∧ (draftParam n v s).intc = s.intc ∧
    (draftParam n v s).clk = s.clk ∧ (draftParam n v s).sil = s.sil ∧ (draftParam n v s).bb = s.bb ∧
    (draftParam n v s).dbg = s.dbg := by
  repeat' constructor

/-- What `onDraft` leaves as it was. -/
@[simp] theorem onDraft_frame (f : ConfigSet → ConfigSet) (s : State) :
    (onDraft f s).pending = s.pending ∧ (onDraft f s).freeCtr = s.freeCtr ∧ (onDraft f s).ctrs = s.ctrs ∧
    (onDraft f s).clock = s.clock ∧ (onDraft f s).hif = s.hif ∧ (onDraft f s).rmap = s.rmap ∧
    (onDraft f s).sdec = s.sdec ∧ (onDraft f s).acc = s.acc ∧ (onDraft f s).ray = s.ray ∧ (onDraft f s).blt = s.blt ∧
    (onDraft f s).rot = s.rot ∧ (onDraft f s).sco = s.sco ∧ (onDraft f s).plt = s.plt ∧ (onDraft f s).gcl = s.gcl ∧
    (onDraft f s).pnl = s.pnl ∧ (onDraft f s).bl = s.bl ∧ (onDraft f s).fly = s.fly ∧ (onDraft f s).mem = s.mem ∧
    (onDraft f s).tu = s.tu ∧ (onDraft f s).pwr = s.pwr ∧ (onDraft f s).cond = s.cond ∧
    (onDraft f s).therm = s.therm ∧ (onDraft f s).intc = s.intc ∧ (onDraft f s).clk = s.clk ∧
    (onDraft f s).sil = s.sil ∧ (onDraft f s).bb = s.bb ∧ (onDraft f s).dbg = s.dbg := by
  repeat' constructor

/-- What `blank` leaves as it was. -/
@[simp] theorem blank_frame (s : State) :
    (blank s).pending = s.pending ∧ (blank s).freeCtr = s.freeCtr ∧ (blank s).ctrs = s.ctrs ∧
    (blank s).clock = s.clock ∧ (blank s).hif = s.hif ∧ (blank s).cfg = s.cfg ∧ (blank s).rmap = s.rmap ∧
    (blank s).sdec = s.sdec ∧ (blank s).acc = s.acc ∧ (blank s).ray = s.ray ∧ (blank s).blt = s.blt ∧
    (blank s).rot = s.rot ∧ (blank s).sco = s.sco ∧ (blank s).plt = s.plt ∧ (blank s).gcl = s.gcl ∧
    (blank s).pnl = s.pnl ∧ (blank s).fly = s.fly ∧ (blank s).mem = s.mem ∧ (blank s).tu = s.tu ∧
    (blank s).pwr = s.pwr ∧ (blank s).cond = s.cond ∧ (blank s).therm = s.therm ∧ (blank s).intc = s.intc ∧
    (blank s).clk = s.clk ∧ (blank s).sil = s.sil ∧ (blank s).bb = s.bb ∧ (blank s).dbg = s.dbg := by
  repeat' constructor

/-- What `damageSet` leaves as it was. -/
@[simp] theorem damageSet_frame (b : Nat) (r : List (Nat × Nat)) (s : State) :
    (damageSet b r s).pending = s.pending ∧ (damageSet b r s).freeCtr = s.freeCtr ∧ (damageSet b r s).ctrs = s.ctrs ∧
    (damageSet b r s).clock = s.clock ∧ (damageSet b r s).hif = s.hif ∧ (damageSet b r s).rmap = s.rmap ∧
    (damageSet b r s).sdec = s.sdec ∧ (damageSet b r s).acc = s.acc ∧ (damageSet b r s).ray = s.ray ∧
    (damageSet b r s).blt = s.blt ∧ (damageSet b r s).rot = s.rot ∧ (damageSet b r s).sco = s.sco ∧
    (damageSet b r s).plt = s.plt ∧ (damageSet b r s).gcl = s.gcl ∧ (damageSet b r s).pnl = s.pnl ∧
    (damageSet b r s).bl = s.bl ∧ (damageSet b r s).fly = s.fly ∧ (damageSet b r s).mem = s.mem ∧
    (damageSet b r s).tu = s.tu ∧ (damageSet b r s).pwr = s.pwr ∧ (damageSet b r s).cond = s.cond ∧
    (damageSet b r s).therm = s.therm ∧ (damageSet b r s).intc = s.intc ∧ (damageSet b r s).clk = s.clk ∧
    (damageSet b r s).sil = s.sil ∧ (damageSet b r s).bb = s.bb ∧ (damageSet b r s).dbg = s.dbg := by
  repeat' constructor

/-- What `jtReply` leaves as it was. -/
@[simp] theorem jtReply_frame (n : Nat) (b : List Byte) (s : State) :
    (jtReply n b s).pending = s.pending ∧ (jtReply n b s).freeCtr = s.freeCtr ∧ (jtReply n b s).ctrs = s.ctrs ∧
    (jtReply n b s).clock = s.clock ∧ (jtReply n b s).cfg = s.cfg ∧ (jtReply n b s).rmap = s.rmap ∧
    (jtReply n b s).sdec = s.sdec ∧ (jtReply n b s).acc = s.acc ∧ (jtReply n b s).ray = s.ray ∧
    (jtReply n b s).blt = s.blt ∧ (jtReply n b s).rot = s.rot ∧ (jtReply n b s).sco = s.sco ∧
    (jtReply n b s).plt = s.plt ∧ (jtReply n b s).gcl = s.gcl ∧ (jtReply n b s).pnl = s.pnl ∧
    (jtReply n b s).bl = s.bl ∧ (jtReply n b s).fly = s.fly ∧ (jtReply n b s).mem = s.mem ∧
    (jtReply n b s).tu = s.tu ∧ (jtReply n b s).pwr = s.pwr ∧ (jtReply n b s).cond = s.cond ∧
    (jtReply n b s).therm = s.therm ∧ (jtReply n b s).intc = s.intc ∧ (jtReply n b s).clk = s.clk ∧
    (jtReply n b s).sil = s.sil ∧ (jtReply n b s).bb = s.bb ∧ (jtReply n b s).dbg = s.dbg := by
  repeat' constructor

/-- What `onTarget` leaves as it was. -/
@[simp] theorem onTarget_frame (n : Nat) (f : Target → Target) (s : State) :
    (onTarget n f s).pending = s.pending ∧ (onTarget n f s).freeCtr = s.freeCtr ∧ (onTarget n f s).ctrs = s.ctrs ∧
    (onTarget n f s).clock = s.clock ∧ (onTarget n f s).hif = s.hif ∧ (onTarget n f s).cfg = s.cfg ∧
    (onTarget n f s).rmap = s.rmap ∧ (onTarget n f s).sdec = s.sdec ∧ (onTarget n f s).ray = s.ray ∧
    (onTarget n f s).blt = s.blt ∧ (onTarget n f s).rot = s.rot ∧ (onTarget n f s).sco = s.sco ∧
    (onTarget n f s).plt = s.plt ∧ (onTarget n f s).gcl = s.gcl ∧ (onTarget n f s).pnl = s.pnl ∧
    (onTarget n f s).bl = s.bl ∧ (onTarget n f s).fly = s.fly ∧ (onTarget n f s).mem = s.mem ∧
    (onTarget n f s).tu = s.tu ∧ (onTarget n f s).pwr = s.pwr ∧ (onTarget n f s).cond = s.cond ∧
    (onTarget n f s).therm = s.therm ∧ (onTarget n f s).intc = s.intc ∧ (onTarget n f s).clk = s.clk ∧
    (onTarget n f s).sil = s.sil ∧ (onTarget n f s).bb = s.bb ∧ (onTarget n f s).dbg = s.dbg := by
  repeat' constructor

end Sys2Proof.Machine
end

