-- ==== Sys2Proof/Laws/Frame.lean ====
section
/-! SUPPORT. What each shared operation leaves as it was: raising and counting, the look of the controller at its
vectors, the interlocks, replies and the end of a command. -/
namespace Sys2Proof.Machine

/-- A field that every step of a fold leaves is left by the fold. -/
theorem foldl_same {α β : Type} (q : State → β) (f : State → α → State) (h : ∀ t x, q (f t x) = q t) (l : List α)
    (s : State) : q (l.foldl f s) = q s := by
  induction l generalizing s with
  | nil => rfl
  | cons x l ih => rw [List.foldl_cons, ih, h]

/-- What `when` does to each part. -/
@[simp] theorem when_frame (c : Bool) (f : State → State) (s : State) :
    (when c f s).pending = (if c then (f s).pending else s.pending) ∧
    (when c f s).freeCtr = (if c then (f s).freeCtr else s.freeCtr) ∧
    (when c f s).ctrs = (if c then (f s).ctrs else s.ctrs) ∧
    (when c f s).clock = (if c then (f s).clock else s.clock) ∧ (when c f s).hif = (if c then (f s).hif else s.hif) ∧
    (when c f s).cfg = (if c then (f s).cfg else s.cfg) ∧ (when c f s).rmap = (if c then (f s).rmap else s.rmap) ∧
    (when c f s).sdec = (if c then (f s).sdec else s.sdec) ∧ (when c f s).acc = (if c then (f s).acc else s.acc) ∧
    (when c f s).ray = (if c then (f s).ray else s.ray) ∧ (when c f s).blt = (if c then (f s).blt else s.blt) ∧
    (when c f s).rot = (if c then (f s).rot else s.rot) ∧ (when c f s).sco = (if c then (f s).sco else s.sco) ∧
    (when c f s).plt = (if c then (f s).plt else s.plt) ∧ (when c f s).gcl = (if c then (f s).gcl else s.gcl) ∧
    (when c f s).pnl = (if c then (f s).pnl else s.pnl) ∧ (when c f s).bl = (if c then (f s).bl else s.bl) ∧
    (when c f s).fly = (if c then (f s).fly else s.fly) ∧ (when c f s).mem = (if c then (f s).mem else s.mem) ∧
    (when c f s).tu = (if c then (f s).tu else s.tu) ∧ (when c f s).pwr = (if c then (f s).pwr else s.pwr) ∧
    (when c f s).cond = (if c then (f s).cond else s.cond) ∧
    (when c f s).therm = (if c then (f s).therm else s.therm) ∧
    (when c f s).intc = (if c then (f s).intc else s.intc) ∧ (when c f s).clk = (if c then (f s).clk else s.clk) ∧
    (when c f s).sil = (if c then (f s).sil else s.sil) ∧ (when c f s).bb = (if c then (f s).bb else s.bb) ∧
    (when c f s).dbg = (if c then (f s).dbg else s.dbg) := by
  cases c <;> simp [when]

/-- What `raise` leaves as it was. -/
@[simp] theorem raise_frame (n : Nat) (s : State) :
    (raise n s).pending = s.pending ∧ (raise n s).freeCtr = s.freeCtr ∧ (raise n s).ctrs = s.ctrs ∧
    (raise n s).clock = s.clock ∧ (raise n s).hif = s.hif ∧ (raise n s).cfg = s.cfg ∧ (raise n s).rmap = s.rmap ∧
    (raise n s).sdec = s.sdec ∧ (raise n s).acc = s.acc ∧ (raise n s).ray = s.ray ∧ (raise n s).blt = s.blt ∧
    (raise n s).rot = s.rot ∧ (raise n s).sco = s.sco ∧ (raise n s).plt = s.plt ∧ (raise n s).gcl = s.gcl ∧
    (raise n s).pnl = s.pnl ∧ (raise n s).bl = s.bl ∧ (raise n s).fly = s.fly ∧ (raise n s).mem = s.mem ∧
    (raise n s).tu = s.tu ∧ (raise n s).pwr = s.pwr ∧ (raise n s).cond = s.cond ∧ (raise n s).therm = s.therm ∧
    (raise n s).clk = s.clk ∧ (raise n s).sil = s.sil ∧ (raise n s).bb = s.bb ∧ (raise n s).dbg = s.dbg := by
  simp only [raise]; repeat' split
  all_goals (repeat' constructor)

/-- What `raiseIf` leaves as it was. -/
@[simp] theorem raiseIf_frame (c : Bool) (n : Nat) (s : State) :
    (raiseIf c n s).pending = s.pending ∧ (raiseIf c n s).freeCtr = s.freeCtr ∧ (raiseIf c n s).ctrs = s.ctrs ∧
    (raiseIf c n s).clock = s.clock ∧ (raiseIf c n s).hif = s.hif ∧ (raiseIf c n s).cfg = s.cfg ∧
    (raiseIf c n s).rmap = s.rmap ∧ (raiseIf c n s).sdec = s.sdec ∧ (raiseIf c n s).acc = s.acc ∧
    (raiseIf c n s).ray = s.ray ∧ (raiseIf c n s).blt = s.blt ∧ (raiseIf c n s).rot = s.rot ∧
    (raiseIf c n s).sco = s.sco ∧ (raiseIf c n s).plt = s.plt ∧ (raiseIf c n s).gcl = s.gcl ∧
    (raiseIf c n s).pnl = s.pnl ∧ (raiseIf c n s).bl = s.bl ∧ (raiseIf c n s).fly = s.fly ∧
    (raiseIf c n s).mem = s.mem ∧ (raiseIf c n s).tu = s.tu ∧ (raiseIf c n s).pwr = s.pwr ∧
    (raiseIf c n s).cond = s.cond ∧ (raiseIf c n s).therm = s.therm ∧ (raiseIf c n s).clk = s.clk ∧
    (raiseIf c n s).sil = s.sil ∧ (raiseIf c n s).bb = s.bb ∧ (raiseIf c n s).dbg = s.dbg := by
  cases c <;> simp [raiseIf]

/-- What `countN` leaves as it was. -/
@[simp] theorem countN_frame (c : Ctr) (n : Nat) (s : State) :
    (countN c n s).pending = s.pending ∧ (countN c n s).freeCtr = s.freeCtr ∧ (countN c n s).clock = s.clock ∧
    (countN c n s).hif = s.hif ∧ (countN c n s).cfg = s.cfg ∧ (countN c n s).rmap = s.rmap ∧
    (countN c n s).sdec = s.sdec ∧ (countN c n s).acc = s.acc ∧ (countN c n s).ray = s.ray ∧
    (countN c n s).blt = s.blt ∧ (countN c n s).rot = s.rot ∧ (countN c n s).sco = s.sco ∧
    (countN c n s).plt = s.plt ∧ (countN c n s).gcl = s.gcl ∧ (countN c n s).pnl = s.pnl ∧ (countN c n s).bl = s.bl ∧
    (countN c n s).fly = s.fly ∧ (countN c n s).mem = s.mem ∧ (countN c n s).tu = s.tu ∧ (countN c n s).pwr = s.pwr ∧
    (countN c n s).cond = s.cond ∧ (countN c n s).therm = s.therm ∧ (countN c n s).clk = s.clk ∧
    (countN c n s).sil = s.sil ∧ (countN c n s).bb = s.bb ∧ (countN c n s).dbg = s.dbg := by
  simp only [countN]; repeat' split
  all_goals simp

/-- What `count` leaves as it was. -/
@[simp] theorem count_frame (c : Ctr) (s : State) :
    (count c s).pending = s.pending ∧ (count c s).freeCtr = s.freeCtr ∧ (count c s).clock = s.clock ∧
    (count c s).hif = s.hif ∧ (count c s).cfg = s.cfg ∧ (count c s).rmap = s.rmap ∧ (count c s).sdec = s.sdec ∧
    (count c s).acc = s.acc ∧ (count c s).ray = s.ray ∧ (count c s).blt = s.blt ∧ (count c s).rot = s.rot ∧
    (count c s).sco = s.sco ∧ (count c s).plt = s.plt ∧ (count c s).gcl = s.gcl ∧ (count c s).pnl = s.pnl ∧
    (count c s).bl = s.bl ∧ (count c s).fly = s.fly ∧ (count c s).mem = s.mem ∧ (count c s).tu = s.tu ∧
    (count c s).pwr = s.pwr ∧ (count c s).cond = s.cond ∧ (count c s).therm = s.therm ∧ (count c s).clk = s.clk ∧
    (count c s).sil = s.sil ∧ (count c s).bb = s.bb ∧ (count c s).dbg = s.dbg := by
  simp [count]

/-- What `sendMsix` leaves as it was. -/
@[simp] theorem sendMsix_frame (v : Nat) (s : State) :
    (sendMsix v s).pending = s.pending ∧ (sendMsix v s).freeCtr = s.freeCtr ∧ (sendMsix v s).ctrs = s.ctrs ∧
    (sendMsix v s).clock = s.clock ∧ (sendMsix v s).hif = s.hif ∧ (sendMsix v s).cfg = s.cfg ∧
    (sendMsix v s).rmap = s.rmap ∧ (sendMsix v s).sdec = s.sdec ∧ (sendMsix v s).acc = s.acc ∧
    (sendMsix v s).ray = s.ray ∧ (sendMsix v s).blt = s.blt ∧ (sendMsix v s).rot = s.rot ∧
    (sendMsix v s).sco = s.sco ∧ (sendMsix v s).plt = s.plt ∧ (sendMsix v s).gcl = s.gcl ∧
    (sendMsix v s).pnl = s.pnl ∧ (sendMsix v s).bl = s.bl ∧ (sendMsix v s).fly = s.fly ∧ (sendMsix v s).mem = s.mem ∧
    (sendMsix v s).tu = s.tu ∧ (sendMsix v s).pwr = s.pwr ∧ (sendMsix v s).cond = s.cond ∧
    (sendMsix v s).therm = s.therm ∧ (sendMsix v s).clk = s.clk ∧ (sendMsix v s).sil = s.sil ∧
    (sendMsix v s).bb = s.bb ∧ (sendMsix v s).dbg = s.dbg := by
  simp only [sendMsix]; split <;> (repeat' constructor)

/-- What several messages leave as it was. -/
@[simp] theorem sendMsix_foldl_frame (l : List Nat) (s : State) :
    (l.foldl (fun t v => sendMsix v t) s).pending = s.pending ∧
    (l.foldl (fun t v => sendMsix v t) s).freeCtr = s.freeCtr ∧ (l.foldl (fun t v => sendMsix v t) s).ctrs = s.ctrs ∧
    (l.foldl (fun t v => sendMsix v t) s).clock = s.clock ∧ (l.foldl (fun t v => sendMsix v t) s).hif = s.hif ∧
    (l.foldl (fun t v => sendMsix v t) s).cfg = s.cfg ∧ (l.foldl (fun t v => sendMsix v t) s).rmap = s.rmap ∧
    (l.foldl (fun t v => sendMsix v t) s).sdec = s.sdec ∧ (l.foldl (fun t v => sendMsix v t) s).acc = s.acc ∧
    (l.foldl (fun t v => sendMsix v t) s).ray = s.ray ∧ (l.foldl (fun t v => sendMsix v t) s).blt = s.blt ∧
    (l.foldl (fun t v => sendMsix v t) s).rot = s.rot ∧ (l.foldl (fun t v => sendMsix v t) s).sco = s.sco ∧
    (l.foldl (fun t v => sendMsix v t) s).plt = s.plt ∧ (l.foldl (fun t v => sendMsix v t) s).gcl = s.gcl ∧
    (l.foldl (fun t v => sendMsix v t) s).pnl = s.pnl ∧ (l.foldl (fun t v => sendMsix v t) s).bl = s.bl ∧
    (l.foldl (fun t v => sendMsix v t) s).fly = s.fly ∧ (l.foldl (fun t v => sendMsix v t) s).mem = s.mem ∧
    (l.foldl (fun t v => sendMsix v t) s).tu = s.tu ∧ (l.foldl (fun t v => sendMsix v t) s).pwr = s.pwr ∧
    (l.foldl (fun t v => sendMsix v t) s).cond = s.cond ∧ (l.foldl (fun t v => sendMsix v t) s).therm = s.therm ∧
    (l.foldl (fun t v => sendMsix v t) s).clk = s.clk ∧ (l.foldl (fun t v => sendMsix v t) s).sil = s.sil ∧
    (l.foldl (fun t v => sendMsix v t) s).bb = s.bb ∧ (l.foldl (fun t v => sendMsix v t) s).dbg = s.dbg :=
  ⟨foldl_same (·.pending) _ (by simp) _ s, foldl_same (·.freeCtr) _ (by simp) _ s, foldl_same (·.ctrs) _ (by
   simp) _ s, foldl_same (·.clock) _ (by simp) _ s, foldl_same (·.hif) _ (by simp) _ s, foldl_same (·.cfg) _
   (by simp) _ s, foldl_same (·.rmap) _ (by simp) _ s, foldl_same (·.sdec) _ (by simp) _ s, foldl_same (·.acc)
   _ (by simp) _ s, foldl_same (·.ray) _ (by simp) _ s, foldl_same (·.blt) _ (by simp) _ s, foldl_same (·.rot)
   _ (by simp) _ s, foldl_same (·.sco) _ (by simp) _ s, foldl_same (·.plt) _ (by simp) _ s, foldl_same (·.gcl)
   _ (by simp) _ s, foldl_same (·.pnl) _ (by simp) _ s, foldl_same (·.bl) _ (by simp) _ s, foldl_same (·.fly)
   _ (by simp) _ s, foldl_same (·.mem) _ (by simp) _ s, foldl_same (·.tu) _ (by simp) _ s, foldl_same (·.pwr)
   _ (by simp) _ s, foldl_same (·.cond) _ (by simp) _ s, foldl_same (·.therm) _ (by simp) _ s, foldl_same
   (·.clk) _ (by simp) _ s, foldl_same (·.sil) _ (by simp) _ s, foldl_same (·.bb) _ (by simp) _ s, foldl_same
   (·.dbg) _ (by simp) _ s⟩

/-- What several sources raised leave as it was. -/
@[simp] theorem raise_foldl_frame (l : List Nat) (s : State) :
    (l.foldl (fun t n => raise n t) s).pending = s.pending ∧ (l.foldl (fun t n => raise n t) s).freeCtr = s.freeCtr ∧
    (l.foldl (fun t n => raise n t) s).ctrs = s.ctrs ∧ (l.foldl (fun t n => raise n t) s).clock = s.clock ∧
    (l.foldl (fun t n => raise n t) s).hif = s.hif ∧ (l.foldl (fun t n => raise n t) s).cfg = s.cfg ∧
    (l.foldl (fun t n => raise n t) s).rmap = s.rmap ∧ (l.foldl (fun t n => raise n t) s).sdec = s.sdec ∧
    (l.foldl (fun t n => raise n t) s).acc = s.acc ∧ (l.foldl (fun t n => raise n t) s).ray = s.ray ∧
    (l.foldl (fun t n => raise n t) s).blt = s.blt ∧ (l.foldl (fun t n => raise n t) s).rot = s.rot ∧
    (l.foldl (fun t n => raise n t) s).sco = s.sco ∧ (l.foldl (fun t n => raise n t) s).plt = s.plt ∧
    (l.foldl (fun t n => raise n t) s).gcl = s.gcl ∧ (l.foldl (fun t n => raise n t) s).pnl = s.pnl ∧
    (l.foldl (fun t n => raise n t) s).bl = s.bl ∧ (l.foldl (fun t n => raise n t) s).fly = s.fly ∧
    (l.foldl (fun t n => raise n t) s).mem = s.mem ∧ (l.foldl (fun t n => raise n t) s).tu = s.tu ∧
    (l.foldl (fun t n => raise n t) s).pwr = s.pwr ∧ (l.foldl (fun t n => raise n t) s).cond = s.cond ∧
    (l.foldl (fun t n => raise n t) s).therm = s.therm ∧ (l.foldl (fun t n => raise n t) s).clk = s.clk ∧
    (l.foldl (fun t n => raise n t) s).sil = s.sil ∧ (l.foldl (fun t n => raise n t) s).bb = s.bb ∧
    (l.foldl (fun t n => raise n t) s).dbg = s.dbg :=
  ⟨foldl_same (·.pending) _ (by simp) _ s, foldl_same (·.freeCtr) _ (by simp) _ s, foldl_same (·.ctrs) _ (by
   simp) _ s, foldl_same (·.clock) _ (by simp) _ s, foldl_same (·.hif) _ (by simp) _ s, foldl_same (·.cfg) _
   (by simp) _ s, foldl_same (·.rmap) _ (by simp) _ s, foldl_same (·.sdec) _ (by simp) _ s, foldl_same (·.acc)
   _ (by simp) _ s, foldl_same (·.ray) _ (by simp) _ s, foldl_same (·.blt) _ (by simp) _ s, foldl_same (·.rot)
   _ (by simp) _ s, foldl_same (·.sco) _ (by simp) _ s, foldl_same (·.plt) _ (by simp) _ s, foldl_same (·.gcl)
   _ (by simp) _ s, foldl_same (·.pnl) _ (by simp) _ s, foldl_same (·.bl) _ (by simp) _ s, foldl_same (·.fly)
   _ (by simp) _ s, foldl_same (·.mem) _ (by simp) _ s, foldl_same (·.tu) _ (by simp) _ s, foldl_same (·.pwr)
   _ (by simp) _ s, foldl_same (·.cond) _ (by simp) _ s, foldl_same (·.therm) _ (by simp) _ s, foldl_same
   (·.clk) _ (by simp) _ s, foldl_same (·.sil) _ (by simp) _ s, foldl_same (·.bb) _ (by simp) _ s, foldl_same
   (·.dbg) _ (by simp) _ s⟩

/-- What `settle` leaves as it was. -/
@[simp] theorem settle_frame (s : State) :
    (settle s).pending = s.pending ∧ (settle s).freeCtr = s.freeCtr ∧ (settle s).ctrs = s.ctrs ∧
    (settle s).clock = s.clock ∧ (settle s).hif = s.hif ∧ (settle s).cfg = s.cfg ∧ (settle s).rmap = s.rmap ∧
    (settle s).sdec = s.sdec ∧ (settle s).acc = s.acc ∧ (settle s).ray = s.ray ∧ (settle s).blt = s.blt ∧
    (settle s).rot = s.rot ∧ (settle s).sco = s.sco ∧ (settle s).plt = s.plt ∧ (settle s).gcl = s.gcl ∧
    (settle s).pnl = s.pnl ∧ (settle s).bl = s.bl ∧ (settle s).fly = s.fly ∧ (settle s).mem = s.mem ∧
    (settle s).tu = s.tu ∧ (settle s).pwr = s.pwr ∧ (settle s).cond = s.cond ∧ (settle s).therm = s.therm ∧
    (settle s).clk = s.clk ∧ (settle s).sil = s.sil ∧ (settle s).bb = s.bb ∧ (settle s).dbg = s.dbg := by
  simp only [settle]; split <;> simp

/-- What `refreshLit` leaves as it was. -/
@[simp] theorem refreshLit_frame (s : State) :
    (refreshLit s).pending = s.pending ∧ (refreshLit s).freeCtr = s.freeCtr ∧ (refreshLit s).ctrs = s.ctrs ∧
    (refreshLit s).clock = s.clock ∧ (refreshLit s).hif = s.hif ∧ (refreshLit s).cfg = s.cfg ∧
    (refreshLit s).rmap = s.rmap ∧ (refreshLit s).sdec = s.sdec ∧ (refreshLit s).acc = s.acc ∧
    (refreshLit s).ray = s.ray ∧ (refreshLit s).blt = s.blt ∧ (refreshLit s).sco = s.sco ∧
    (refreshLit s).plt = s.plt ∧ (refreshLit s).gcl = s.gcl ∧ (refreshLit s).pnl = s.pnl ∧
    (refreshLit s).fly = s.fly ∧ (refreshLit s).mem = s.mem ∧ (refreshLit s).tu = s.tu ∧ (refreshLit s).pwr = s.pwr ∧
    (refreshLit s).cond = s.cond ∧ (refreshLit s).therm = s.therm ∧ (refreshLit s).clk = s.clk ∧
    (refreshLit s).sil = s.sil ∧ (refreshLit s).bb = s.bb ∧ (refreshLit s).dbg = s.dbg := by
  simp only [refreshLit]; repeat' split
  all_goals simp

/-- What `interlock` leaves as it was. -/
@[simp] theorem interlock_frame (s : State) :
    (interlock s).pending = s.pending ∧ (interlock s).freeCtr = s.freeCtr ∧ (interlock s).ctrs = s.ctrs ∧
    (interlock s).clock = s.clock ∧ (interlock s).hif = s.hif ∧ (interlock s).cfg = s.cfg ∧
    (interlock s).rmap = s.rmap ∧ (interlock s).sdec = s.sdec ∧ (interlock s).acc = s.acc ∧
    (interlock s).ray = s.ray ∧ (interlock s).blt = s.blt ∧ (interlock s).sco = s.sco ∧ (interlock s).plt = s.plt ∧
    (interlock s).gcl = s.gcl ∧ (interlock s).pnl = s.pnl ∧ (interlock s).fly = s.fly ∧ (interlock s).mem = s.mem ∧
    (interlock s).tu = s.tu ∧ (interlock s).pwr = s.pwr ∧ (interlock s).cond = s.cond ∧
    (interlock s).therm = s.therm ∧ (interlock s).clk = s.clk ∧ (interlock s).sil = s.sil ∧ (interlock s).bb = s.bb ∧
    (interlock s).dbg = s.dbg := by
  simp only [interlock]; repeat' split
  all_goals simp

/-- What `wakeDomain` leaves as it was. -/
@[simp] theorem wakeDomain_frame (s : State) :
    (wakeDomain s).pending = s.pending ∧ (wakeDomain s).freeCtr = s.freeCtr ∧ (wakeDomain s).ctrs = s.ctrs ∧
    (wakeDomain s).clock = s.clock ∧ (wakeDomain s).hif = s.hif ∧ (wakeDomain s).cfg = s.cfg ∧
    (wakeDomain s).rmap = s.rmap ∧ (wakeDomain s).sdec = s.sdec ∧ (wakeDomain s).acc = s.acc ∧
    (wakeDomain s).ray = s.ray ∧ (wakeDomain s).blt = s.blt ∧ (wakeDomain s).rot = s.rot ∧
    (wakeDomain s).sco = s.sco ∧ (wakeDomain s).plt = s.plt ∧ (wakeDomain s).gcl = s.gcl ∧
    (wakeDomain s).pnl = s.pnl ∧ (wakeDomain s).bl = s.bl ∧ (wakeDomain s).fly = s.fly ∧ (wakeDomain s).mem = s.mem ∧
    (wakeDomain s).tu = s.tu ∧ (wakeDomain s).pwr = s.pwr ∧ (wakeDomain s).cond = s.cond ∧
    (wakeDomain s).therm = s.therm ∧ (wakeDomain s).clk = s.clk ∧ (wakeDomain s).sil = s.sil ∧
    (wakeDomain s).bb = s.bb ∧ (wakeDomain s).dbg = s.dbg := by
  simp only [wakeDomain]; split <;> simp

/-- What `angleTo` leaves as it was. -/
@[simp] theorem angleTo_frame (x : Nat) (s : State) :
    (angleTo x s).pending = s.pending ∧ (angleTo x s).freeCtr = s.freeCtr ∧ (angleTo x s).ctrs = s.ctrs ∧
    (angleTo x s).clock = s.clock ∧ (angleTo x s).hif = s.hif ∧ (angleTo x s).cfg = s.cfg ∧
    (angleTo x s).rmap = s.rmap ∧ (angleTo x s).sdec = s.sdec ∧ (angleTo x s).acc = s.acc ∧
    (angleTo x s).ray = s.ray ∧ (angleTo x s).blt = s.blt ∧ (angleTo x s).sco = s.sco ∧ (angleTo x s).plt = s.plt ∧
    (angleTo x s).gcl = s.gcl ∧ (angleTo x s).pnl = s.pnl ∧ (angleTo x s).bl = s.bl ∧ (angleTo x s).fly = s.fly ∧
    (angleTo x s).mem = s.mem ∧ (angleTo x s).tu = s.tu ∧ (angleTo x s).pwr = s.pwr ∧ (angleTo x s).cond = s.cond ∧
    (angleTo x s).therm = s.therm ∧ (angleTo x s).intc = s.intc ∧ (angleTo x s).clk = s.clk ∧
    (angleTo x s).sil = s.sil ∧ (angleTo x s).bb = s.bb ∧ (angleTo x s).dbg = s.dbg := by
  simp only [angleTo]; split <;> (repeat' constructor)

/-- What `addErr` leaves as it was. -/
@[simp] theorem addErr_frame (e : ErrEntry) (s : State) :
    (addErr e s).pending = s.pending ∧ (addErr e s).freeCtr = s.freeCtr ∧ (addErr e s).ctrs = s.ctrs ∧
    (addErr e s).clock = s.clock ∧ (addErr e s).hif = s.hif ∧ (addErr e s).cfg = s.cfg ∧ (addErr e s).rmap = s.rmap ∧
    (addErr e s).acc = s.acc ∧ (addErr e s).ray = s.ray ∧ (addErr e s).blt = s.blt ∧ (addErr e s).rot = s.rot ∧
    (addErr e s).sco = s.sco ∧ (addErr e s).plt = s.plt ∧ (addErr e s).gcl = s.gcl ∧ (addErr e s).pnl = s.pnl ∧
    (addErr e s).bl = s.bl ∧ (addErr e s).fly = s.fly ∧ (addErr e s).mem = s.mem ∧ (addErr e s).tu = s.tu ∧
    (addErr e s).pwr = s.pwr ∧ (addErr e s).cond = s.cond ∧ (addErr e s).therm = s.therm ∧ (addErr e s).clk = s.clk ∧
    (addErr e s).sil = s.sil ∧ (addErr e s).bb = s.bb ∧ (addErr e s).dbg = s.dbg := by
  simp only [addErr]; repeat' split
  all_goals simp

/-- What `writeImage` leaves as it was. -/
@[simp] theorem writeImage_frame (p : Pkt) (b : List Byte) (s : State) :
    (writeImage p b s).pending = s.pending ∧ (writeImage p b s).freeCtr = s.freeCtr ∧
    (writeImage p b s).ctrs = s.ctrs ∧ (writeImage p b s).clock = s.clock ∧ (writeImage p b s).cfg = s.cfg ∧
    (writeImage p b s).rmap = s.rmap ∧ (writeImage p b s).sdec = s.sdec ∧ (writeImage p b s).acc = s.acc ∧
    (writeImage p b s).ray = s.ray ∧ (writeImage p b s).blt = s.blt ∧ (writeImage p b s).rot = s.rot ∧
    (writeImage p b s).sco = s.sco ∧ (writeImage p b s).plt = s.plt ∧ (writeImage p b s).gcl = s.gcl ∧
    (writeImage p b s).pnl = s.pnl ∧ (writeImage p b s).bl = s.bl ∧ (writeImage p b s).fly = s.fly ∧
    (writeImage p b s).tu = s.tu ∧ (writeImage p b s).pwr = s.pwr ∧ (writeImage p b s).cond = s.cond ∧
    (writeImage p b s).therm = s.therm ∧ (writeImage p b s).intc = s.intc ∧ (writeImage p b s).clk = s.clk ∧
    (writeImage p b s).sil = s.sil ∧ (writeImage p b s).bb = s.bb ∧ (writeImage p b s).dbg = s.dbg := by
  simp only [writeImage]; repeat' split
  all_goals simp

/-- What `deliver` leaves as it was. -/
@[simp] theorem deliver_frame (p : Pkt) (r : Reply) (s : State) :
    (deliver p r s).pending = s.pending ∧ (deliver p r s).freeCtr = s.freeCtr ∧ (deliver p r s).ctrs = s.ctrs ∧
    (deliver p r s).clock = s.clock ∧ (deliver p r s).cfg = s.cfg ∧ (deliver p r s).rmap = s.rmap ∧
    (deliver p r s).sdec = s.sdec ∧ (deliver p r s).acc = s.acc ∧ (deliver p r s).ray = s.ray ∧
    (deliver p r s).blt = s.blt ∧ (deliver p r s).rot = s.rot ∧ (deliver p r s).sco = s.sco ∧
    (deliver p r s).plt = s.plt ∧ (deliver p r s).gcl = s.gcl ∧ (deliver p r s).pnl = s.pnl ∧
    (deliver p r s).bl = s.bl ∧ (deliver p r s).fly = s.fly ∧ (deliver p r s).mem = s.mem ∧
    (deliver p r s).tu = s.tu ∧ (deliver p r s).pwr = s.pwr ∧ (deliver p r s).cond = s.cond ∧
    (deliver p r s).therm = s.therm ∧ (deliver p r s).clk = s.clk ∧ (deliver p r s).sil = s.sil ∧
    (deliver p r s).bb = s.bb ∧ (deliver p r s).dbg = s.dbg := by
  simp only [deliver]; repeat' split
  all_goals simp

/-- What `writeReply` leaves as it was. -/
@[simp] theorem writeReply_frame (op : Nat) (p : Pkt) (e : Ending) (s : State) :
    (writeReply op p e s).pending = s.pending ∧ (writeReply op p e s).freeCtr = s.freeCtr ∧
    (writeReply op p e s).ctrs = s.ctrs ∧ (writeReply op p e s).clock = s.clock ∧ (writeReply op p e s).cfg = s.cfg ∧
    (writeReply op p e s).rmap = s.rmap ∧ (writeReply op p e s).sdec = s.sdec ∧ (writeReply op p e s).acc = s.acc ∧
    (writeReply op p e s).ray = s.ray ∧ (writeReply op p e s).blt = s.blt ∧ (writeReply op p e s).rot = s.rot ∧
    (writeReply op p e s).sco = s.sco ∧ (writeReply op p e s).plt = s.plt ∧ (writeReply op p e s).gcl = s.gcl ∧
    (writeReply op p e s).pnl = s.pnl ∧ (writeReply op p e s).bl = s.bl ∧ (writeReply op p e s).fly = s.fly ∧
    (writeReply op p e s).tu = s.tu ∧ (writeReply op p e s).pwr = s.pwr ∧ (writeReply op p e s).cond = s.cond ∧
    (writeReply op p e s).therm = s.therm ∧ (writeReply op p e s).clk = s.clk ∧ (writeReply op p e s).sil = s.sil ∧
    (writeReply op p e s).bb = s.bb ∧ (writeReply op p e s).dbg = s.dbg := by
  simp [writeReply]

/-- What `finish` leaves as it was. -/
@[simp] theorem finish_frame (n : Nat) (e : Ending) (s : State) :
    (finish n e s).pending = s.pending ∧ (finish n e s).freeCtr = s.freeCtr ∧ (finish n e s).ctrs = s.ctrs ∧
    (finish n e s).clock = s.clock ∧ (finish n e s).cfg = s.cfg ∧ (finish n e s).rmap = s.rmap ∧
    (finish n e s).sdec = s.sdec ∧ (finish n e s).acc = s.acc ∧ (finish n e s).ray = s.ray ∧
    (finish n e s).rot = s.rot ∧ (finish n e s).sco = s.sco ∧ (finish n e s).plt = s.plt ∧
    (finish n e s).gcl = s.gcl ∧ (finish n e s).pnl = s.pnl ∧ (finish n e s).bl = s.bl ∧ (finish n e s).fly = s.fly ∧
    (finish n e s).tu = s.tu ∧ (finish n e s).pwr = s.pwr ∧ (finish n e s).cond = s.cond ∧
    (finish n e s).therm = s.therm ∧ (finish n e s).clk = s.clk ∧ (finish n e s).sil = s.sil ∧
    (finish n e s).dbg = s.dbg := by
  simp only [finish]; repeat' split
  all_goals simp

/-- What `finishSt` leaves as it was. -/
@[simp] theorem finishSt_frame (n st : Nat) (s : State) :
    (finishSt n st s).pending = s.pending ∧ (finishSt n st s).freeCtr = s.freeCtr ∧ (finishSt n st s).ctrs = s.ctrs ∧
    (finishSt n st s).clock = s.clock ∧ (finishSt n st s).cfg = s.cfg ∧ (finishSt n st s).rmap = s.rmap ∧
    (finishSt n st s).sdec = s.sdec ∧ (finishSt n st s).acc = s.acc ∧ (finishSt n st s).ray = s.ray ∧
    (finishSt n st s).rot = s.rot ∧ (finishSt n st s).sco = s.sco ∧ (finishSt n st s).plt = s.plt ∧
    (finishSt n st s).gcl = s.gcl ∧ (finishSt n st s).pnl = s.pnl ∧ (finishSt n st s).bl = s.bl ∧
    (finishSt n st s).fly = s.fly ∧ (finishSt n st s).tu = s.tu ∧ (finishSt n st s).pwr = s.pwr ∧
    (finishSt n st s).cond = s.cond ∧ (finishSt n st s).therm = s.therm ∧ (finishSt n st s).clk = s.clk ∧
    (finishSt n st s).sil = s.sil ∧ (finishSt n st s).dbg = s.dbg := by
  simp [finishSt]

/-- What `finishAll` leaves as it was. -/
@[simp] theorem finishAll_frame (l : List Nat) (e : Ending) (s : State) :
    (finishAll l e s).pending = s.pending ∧ (finishAll l e s).freeCtr = s.freeCtr ∧ (finishAll l e s).ctrs = s.ctrs ∧
    (finishAll l e s).clock = s.clock ∧ (finishAll l e s).cfg = s.cfg ∧ (finishAll l e s).rmap = s.rmap ∧
    (finishAll l e s).sdec = s.sdec ∧ (finishAll l e s).acc = s.acc ∧ (finishAll l e s).ray = s.ray ∧
    (finishAll l e s).rot = s.rot ∧ (finishAll l e s).sco = s.sco ∧ (finishAll l e s).plt = s.plt ∧
    (finishAll l e s).gcl = s.gcl ∧ (finishAll l e s).pnl = s.pnl ∧ (finishAll l e s).bl = s.bl ∧
    (finishAll l e s).fly = s.fly ∧ (finishAll l e s).tu = s.tu ∧ (finishAll l e s).pwr = s.pwr ∧
    (finishAll l e s).cond = s.cond ∧ (finishAll l e s).therm = s.therm ∧ (finishAll l e s).clk = s.clk ∧
    (finishAll l e s).sil = s.sil ∧ (finishAll l e s).dbg = s.dbg :=
  ⟨foldl_same (·.pending) _ (by simp) _ s, foldl_same (·.freeCtr) _ (by simp) _ s, foldl_same (·.ctrs) _ (by
   simp) _ s, foldl_same (·.clock) _ (by simp) _ s, foldl_same (·.cfg) _ (by simp) _ s, foldl_same (·.rmap) _
   (by simp) _ s, foldl_same (·.sdec) _ (by simp) _ s, foldl_same (·.acc) _ (by simp) _ s, foldl_same (·.ray)
   _ (by simp) _ s, foldl_same (·.rot) _ (by simp) _ s, foldl_same (·.sco) _ (by simp) _ s, foldl_same (·.plt)
   _ (by simp) _ s, foldl_same (·.gcl) _ (by simp) _ s, foldl_same (·.pnl) _ (by simp) _ s, foldl_same (·.bl)
   _ (by simp) _ s, foldl_same (·.fly) _ (by simp) _ s, foldl_same (·.tu) _ (by simp) _ s, foldl_same (·.pwr)
   _ (by simp) _ s, foldl_same (·.cond) _ (by simp) _ s, foldl_same (·.therm) _ (by simp) _ s, foldl_same
   (·.clk) _ (by simp) _ s, foldl_same (·.sil) _ (by simp) _ s, foldl_same (·.dbg) _ (by simp) _ s⟩

end Sys2Proof.Machine
end

