-- ==== Sys2Proof/Laws/Light.lean ====
section
/-! SUPPORT. The interlocks and the messages after every command: where they hold already they change nothing; and how
"nothing but these parts differs" composes. -/
namespace Sys2Proof.Machine

/-! ### Frames -/

theorem Part.Same.refl (q : Part) (s : State) : q.Same s s := by
  cases q <;> simp [Part.Same]

theorem OnlyIn.refl (ps : List Part) (s : State) : OnlyIn ps s s := fun q _ => Part.Same.refl q s

theorem OnlyIn.mono {ps qs : List Part} {s t : State} (h : ∀ q ∈ ps, q ∈ qs) (hp : OnlyIn ps s t) : OnlyIn qs s t :=
  fun q hq => hp q (fun hm => hq (h q hm))

theorem Part.Same.trans {q : Part} {s t u : State} (h : q.Same s t) (k : q.Same t u) : q.Same s u := by
  cases q
  case hif | rot | bl | intc => simp only [Part.Same] at h k ⊢; rw [h] at k; exact k
  all_goals simp_all [Part.Same]

theorem OnlyIn.trans {ps : List Part} {s t u : State} (h : OnlyIn ps s t) (k : OnlyIn ps t u) : OnlyIn ps s u :=
  fun q hq => (h q hq).trans (k q hq)

/-- States that agree in every part are the same state. -/
theorem OnlyIn.eq {s t : State} (h : OnlyIn [] s t) : t = s := by
  have g := fun q => h q (by simp)
  have hb := g .books; have hh := g .hif; have hl := g .light; have hr := g .rot; have hz := g .bl
  have he := g .events; have hi := g .intc
  simp only [Part.Same] at hb hh hl hr hz he hi
  have h1 : t.hif = s.hif := by rw [hh]; simp [hb]
  have h2 : t.rot = s.rot := by rw [hr]; simp [hl]
  have h3 : t.bl = s.bl := by rw [hz]; simp [hl]
  have h4 : t.intc = s.intc := by rw [hi]; simp [he]
  cases s; cases t
  simp only [State.mk.injEq]
  exact ⟨g .pending, g .freeCtr, g .ctrs, g .clock, h1, g .cfg, g .rmap, g .sdec, g .acc, g .ray, g .blt, h2,
    g .sco, g .plt, g .gcl, g .pnl, h3, g .fly, g .mem, g .tu, g .pwr, g .cond, g .therm, h4, g .clk, g .sil,
    g .bb, g .dbg⟩

theorem raise_rest (n : Nat) (s : State) : Part.Same .intc s (raise n s) := by
  simp only [raise, Part.Same]; repeat' split
  all_goals rfl

theorem raise_onlyIn (n : Nat) (s : State) : OnlyIn [.events] s (raise n s) := by
  intro q hq
  cases q
  case intc => exact raise_rest n s
  all_goals simp_all [Part.Same]

theorem sendMsix_onlyIn (v : Nat) (s : State) : OnlyIn [.events] s (sendMsix v s) := by
  intro q hq
  cases q
  case intc => simp only [sendMsix, Part.Same]; split <;> rfl
  all_goals simp_all [Part.Same]

/-- A fold of operations that touch only some parts touches only those. -/
theorem foldl_onlyIn {α : Type} {ps : List Part} (f : State → α → State) (h : ∀ t x, OnlyIn ps t (f t x))
    (l : List α) (s : State) : OnlyIn ps s (l.foldl f s) := by
  induction l generalizing s with
  | nil => exact OnlyIn.refl ps s
  | cons x l ih => exact (h s x).trans (ih (f s x))

theorem settle_onlyIn (s : State) : OnlyIn [.events] s (settle s) := by
  simp only [settle]
  split
  · exact OnlyIn.refl _ s
  · have h := foldl_onlyIn (fun t v => sendMsix v t) (fun t v => sendMsix_onlyIn v t)
      ((readyVectors s).filter (fun v => !s.intc.ready.contains v)) s
    refine h.trans ?_
    generalize List.foldl (fun t v => sendMsix v t) s _ = u
    intro q hq
    cases q <;> simp_all [Part.Same]

theorem wakeDomain_onlyIn (s : State) : OnlyIn [.events] s (wakeDomain s) := by
  simp only [wakeDomain]
  split
  · refine OnlyIn.trans (t := { s with intc := { s.intc with asleep := false, woke := true, wakeLatch := [] } }) ?_
      (foldl_onlyIn (fun t n => raise n t) (fun t n => raise_onlyIn n t) _ _)
    intro q hq
    cases q <;> simp_all [Part.Same]
  · exact OnlyIn.refl _ s

theorem blank_onlyIn (s : State) : OnlyIn [.light] s (blank s) := by
  intro q hq
  cases q <;> simp_all [Part.Same, blank]

theorem litRows_onlyIn (l : List Bool) (s : State) : OnlyIn [.light] s { s with bl := { s.bl with lit := l } } := by
  intro q hq
  cases q <;> simp_all [Part.Same]

theorem refreshLit_onlyIn (s : State) : OnlyIn [.light, .events] s (refreshLit s) := by
  have h0 : ∀ a b c, OnlyIn [.light, .events] s
      { s with rot := { s.rot with litOk := a, litRev := b, motorLimitMw := c } } := by
    intro a b c q hq
    cases q <;> simp_all [Part.Same]
  have h1 : ∀ a b c, OnlyIn [.light, .events] s
      (raise 23 { s with rot := { s.rot with litOk := a, litRev := b, motorLimitMw := c } }) :=
    fun a b c => (h0 a b c).trans ((raise_onlyIn 23 _).mono (by simp))
  simp only [refreshLit]
  split
  · exact OnlyIn.refl _ s
  · split
    · exact h1 _ _ _
    · exact (h1 _ _ _).trans ((blank_onlyIn _).mono (by simp))

theorem interlock_onlyIn (s : State) : OnlyIn [.light, .events] s (interlock s) := by
  simp only [interlock]
  split
  · exact refreshLit_onlyIn s
  · refine (refreshLit_onlyIn s).trans ?_
    split
    · exact (blank_onlyIn _).mono (by simp)
    · exact (litRows_onlyIn _ _).mono (by simp)

/-! ### The interlocks -/

/-- What a command answers. -/
theorem done_eq (s : State) : done s = .next (settle (interlock s)) := rfl

theorem refreshLit_eq {s : State} (h : s.rot.litOk = litCond s) : refreshLit s = s := by simp [refreshLit, h]

/-- Where the interlocks hold, they change nothing. -/
theorem interlock_eq {s : State} (h : LightInv s) : interlock s = s := by
  obtain ⟨h1, h2⟩ := h
  simp only [interlock, refreshLit_eq h1]
  split
  · rfl
  · rename_i hm
    obtain ⟨hl, hr⟩ := h2 (by simpa using hm)
    split
    · rename_i hrd
      obtain ⟨a, b, c⟩ := hr hrd
      have hb : ({ s.bl with lit := List.replicate 8 false, sinkOn := 0, current := List.replicate 128 0
                             dac := List.replicate 128 0 } : Bl) = s.bl := by cases hx : s.bl; simp_all
      rw [blank, hb]
    · simp only [← hl]

/-- Where the controller has looked at its vectors, another look changes nothing. -/
theorem settle_eq {s : State} (h : MsgInv s) : settle s = s := by
  unfold settle
  split
  · rfl
  · rename_i ha
    have h' := h (by simpa using ha)
    have hf : (readyVectors s).filter (fun v => !s.intc.ready.contains v) = [] := by
      rw [List.filter_eq_nil_iff, h']; intro v hv; simpa using hv
    dsimp only
    rw [hf, ← h']
    rfl

/-- The interlocks read only these parts. -/
theorem LightInv.of_same {s t : State} (h : LightInv s) (hr : t.rot = s.rot) (hb : t.bl = s.bl)
    (hc : t.cond = s.cond) (hp : t.pnl.state = s.pnl.state) (hh : t.hif.ready = s.hif.ready) : LightInv t := by
  simpa only [LightInv, litCond, mayLight, anyStop, hr, hb, hc, hp, hh] using h

/-- A command that leaves what the interlocks read answers its own effect, and no more than a look of the controller at
its vectors. -/
theorem done_same {s u : State} (h : LightInv s) (hr : u.rot = s.rot) (hb : u.bl = s.bl)
    (hc : u.cond = s.cond) (hp : u.pnl.state = s.pnl.state) (hh : u.hif.ready = s.hif.ready) :
    done u = .next (settle u) := by
  rw [done_eq, interlock_eq (h.of_same hr hb hc hp hh)]

end Sys2Proof.Machine
end

