-- ==== Sys2Proof/Laws/Command.lean ====
section
/-! SUPPORT. Host commands: what acceptance, refusal and an end at once do, said once for all of them. -/
namespace Sys2Proof.Machine

/-! ### Waking changes nothing that acceptance reads -/

@[simp] theorem wakeDomain_flightOf (s : State) (n : Nat) : flightOf (wakeDomain s) n = flightOf s n := by
  simp [flightOf]

@[simp] theorem wakeDomain_pathOpen (s : State) (n : Nat) : pathOpen (wakeDomain s) n = pathOpen s n := by
  simp [pathOpen]

@[simp] theorem wakeDomain_ethUp (s : State) : ethUp (wakeDomain s) = ethUp s := by simp [ethUp]

/-- Acceptance reads no more of the state than this. -/
theorem acceptCheck_congr {s t : State} (hh : t.hif = s.hif) (hc : t.cond = s.cond) (hf : t.cfg = s.cfg)
    (hp : t.pnl = s.pnl) (hg : t.gcl = s.gcl) (hb : t.blt = s.blt) (op : Nat) (p : Pkt) :
    acceptCheck t op p = acceptCheck s op p := by
  cases s; cases t
  simp only at hh hc hf hp hg hb
  subst hh hc hf hp hg hb
  rfl

@[simp] theorem wakeDomain_acceptCheck (s : State) (op : Nat) (p : Pkt) :
    acceptCheck (wakeDomain s) op p = acceptCheck s op p :=
  acceptCheck_congr (by simp) (by simp) (by simp) (by simp) (by simp) (by simp) op p

/-! ### Acceptance -/

/-- The record of a command that has just started. -/
def startedFlight (s : State) (op : Nat) (p : Pkt) : Flight :=
  { op := op, p := p, dep := .met, depTag := p.dep.toNat % 512, seq := s.hif.nextSeq, started := true }

/-- The state in which an accepted command without a hook of its own starts. -/
def begun (s : State) (op : Nat) (p : Pkt) : State :=
  onFlight (ptag p) (fun f => { f with started := true })
    (acceptHook op p .met { wakeDomain s with hif := { s.hif with
      flights := s.hif.flights ++ [{ op := op, p := p, depTag := p.dep.toNat % 512, seq := s.hif.nextSeq }]
      nextSeq := s.hif.nextSeq + 1 } })

/-- An accepted command starts. -/
theorem submit_accepts {s : State} {op : Nat} {p : Pkt} (h : Accepts s op p) (start : Nat → Pkt → State → State) :
    submit op p start s = start (ptag p) p (begun s op p) := by
  obtain ⟨h1, h2, h3, h4⟩ := h
  have hw : (p.dep.getLsbD 9 && (flightOf s (p.dep.toNat % 512)).isSome) = false := by
    cases hb : p.dep.getLsbD 9 with
    | false => rfl
    | true => simpa using h4 hb
  have he : ¬ (p.path = 16 ∧ ¬ ethUp (wakeDomain s) = true) := by
    rintro ⟨ha, hb⟩; exact hb (by simpa using h2 ha)
  simp only [submit, if_neg he, wakeDomain_pathOpen, h1, if_true, wakeDomain_acceptCheck, h3, accept,
    wakeDomain_flightOf, hw, Bool.false_eq_true, if_false, begin, begun, wakeDomain_frame]

/-- A refused packet is answered at once. -/
theorem submit_refuses {s : State} {op : Nat} {p : Pkt} {st : Nat} (h : Refuses s op p st)
    (start : Nat → Pkt → State → State) : submit op p start s = refuse op p st (wakeDomain s) := by
  obtain ⟨h1, h2, h3⟩ := h
  have he : ¬ (p.path = 16 ∧ ¬ ethUp (wakeDomain s) = true) := by
    rintro ⟨ha, hb⟩; exact hb (by simpa using h2 ha)
  simp only [submit, if_neg he, wakeDomain_pathOpen, h1, if_true, wakeDomain_acceptCheck, h3]

/-- The tag of an accepted command was free. -/
theorem Accepts.tag_free {s : State} {op : Nat} {p : Pkt} (h : Accepts s op p) : flightOf s (ptag p) = none := by
  have h3 := h.2.2.1
  cases hf : flightOf s (ptag p) with
  | none => rfl
  | some f => simp [acceptCheck, hf] at h3

/-- The hook of acceptance touches the books of the commands in flight not at all. -/
theorem acceptHook_hif (op : Nat) (p : Pkt) (d : DepState) (s : State) : (acceptHook op p d s).hif = s.hif := by
  simp only [acceptHook]; repeat' split
  all_goals rfl

/-- The opcodes with a hook: the Blitter's, the exchanges and RAYMAP_LOAD. -/
def hooked (op : Nat) : Bool :=
  [0x0501, 0x0502, 0x0503, 0x0504, 0x0412, 0x0413, 0x0210].contains op

theorem acceptHook_none {op : Nat} (h : hooked op = false) (p : Pkt) (d : DepState) (s : State) :
    acceptHook op p d s = s := by
  simp only [hooked, List.contains_eq_mem, List.mem_cons, List.not_mem_nil, or_false, decide_eq_false_iff_not,
    not_or] at h
  simp only [acceptHook]
  rw [if_neg (by omega), if_neg (by omega), if_neg (by omega)]

/-- Tags apart from those in flight. -/
theorem free_ne {s : State} {n : Nat} (h : flightOf s n = none) : ∀ f ∈ s.hif.flights, (ptag f.p == n) = false := by
  intro f hf
  have := List.find?_eq_none.mp h f hf
  simpa using this

theorem begun_hif {s : State} {op : Nat} {p : Pkt} (h : Accepts s op p) :
    (begun s op p).hif = { s.hif with flights := s.hif.flights ++ [startedFlight s op p]
                                      nextSeq := s.hif.nextSeq + 1 } := by
  have hne := free_ne h.tag_free
  have hmap : s.hif.flights.map (fun x => if ptag x.p == ptag p then { x with started := true } else x) =
      s.hif.flights := by
    have : ∀ l : List Flight, (∀ f ∈ l, (ptag f.p == ptag p) = false) →
        l.map (fun x => if ptag x.p == ptag p then { x with started := true } else x) = l := by
      intro l hl
      induction l with
      | nil => rfl
      | cons a l ih =>
        rw [List.map_cons, ih (fun f hf => hl f (by simp [hf])), hl a (by simp)]; rfl
    exact this _ hne
  simp only [begun, onFlight, acceptHook_hif, List.map_append, hmap, startedFlight, List.map_cons, List.map_nil,
    beq_self_eq_true, if_true]

/-! ### Replies -/

theorem onQueue_onlyIn (n : Nat) (f : Queue → Queue) (s : State) : OnlyIn [.books] s (onQueue n f s) := by
  intro q hq
  cases q <;> simp_all [Part.Same, onQueue]

/-- An image goes to the host, or to the ingest area. -/
theorem writeImage_onlyIn (p : Pkt) (b : List Byte) (s : State) :
    OnlyIn [.books, .mem] s (writeImage p b s) := by
  simp only [writeImage]
  split
  · exact OnlyIn.refl _ s
  · split
    · intro q hq
      cases q <;> simp_all [Part.Same, onMem]
    · intro q hq
      cases q <;> simp_all [Part.Same]

theorem writeImage_replies (p : Pkt) (b : List Byte) (s : State) :
    (writeImage p b s).hif.replies = s.hif.replies ∧ (writeImage p b s).hif.flights = s.hif.flights := by
  simp only [writeImage]; repeat' split
  all_goals exact ⟨rfl, rfl⟩

theorem deliver_onlyIn (p : Pkt) (r : Reply) (s : State) : OnlyIn [.books, .events] s (deliver p r s) := by
  simp only [deliver]
  split
  · generalize hg : onQueue p.path _ s = u
    have hu : OnlyIn [.books] s u := by rw [← hg]; exact onQueue_onlyIn _ _ _
    refine OnlyIn.trans (hu.mono (qs := [.books, .events]) (by simp)) ?_
    by_cases hf : p.flags.getLsbD 0 = true
    · rw [if_pos hf]
      by_cases hp : par u 0x0101 = 0
      · rw [if_pos hp]; exact (sendMsix_onlyIn _ u).mono (by simp)
      · rw [if_neg hp]; exact (onQueue_onlyIn _ _ u).mono (by simp)
    · rw [if_neg hf]; exact OnlyIn.refl _ u
  · split
    · intro q hq
      cases q <;> simp_all [Part.Same]
    · split
      · refine OnlyIn.trans ?_ ((raise_onlyIn 194 _).mono (by simp))
        intro q hq
        cases q <;> simp_all [Part.Same]
      · exact OnlyIn.refl _ s

theorem deliver_replies (p : Pkt) (r : Reply) (s : State) :
    (deliver p r s).hif.replies = s.hif.replies ∧ (deliver p r s).hif.flights = s.hif.flights := by
  simp only [deliver]; repeat' split
  all_goals simp [onQueue]

/-- A reply written: it is the newest, and the commands in flight are as before. -/
theorem writeReply_replied (op : Nat) (p : Pkt) (e : Ending) (s : State) :
    Replied s (writeReply op p e s) op p e.status e.result ∧
      (writeReply op p e s).hif.flights = s.hif.flights := by
  simp only [writeReply]
  generalize hr : ({ status := BitVec.ofNat 16 e.status, tag := ptag p, phase := _, opcode := BitVec.ofNat 16 op
                     rflags := _, epoch := _, sqHead := _, queue := _, result := padTo 12 e.result, image := _
                     addr := _ } : Reply) = r
  obtain ⟨i2, i3⟩ := writeImage_replies p e.image s
  obtain ⟨d2, d3⟩ := deliver_replies p r { writeImage p e.image s with
    hif := { (writeImage p e.image s).hif with replies := r :: (writeImage p e.image s).hif.replies } }
  refine ⟨⟨r, ?_, ?_⟩, ?_⟩
  · rw [d2]; simp [i2]
  · subst hr; exact ⟨rfl, rfl, rfl, rfl⟩
  · rw [d3]; exact i3

/-- Without an image a reply leaves stacked memory. -/
theorem writeReply_mem {op : Nat} {p : Pkt} {e : Ending} {s : State} (h : e.image = []) :
    (writeReply op p e s).mem = s.mem := by
  simp [writeReply, writeImage, h]

theorem writeReply_onlyIn (op : Nat) (p : Pkt) (e : Ending) (s : State) :
    OnlyIn [.books, .events, .mem] s (writeReply op p e s) := by
  simp only [writeReply]
  refine ((writeImage_onlyIn p e.image s).mono (by simp)).trans (OnlyIn.trans ?_ ((deliver_onlyIn p _ _).mono (by simp)))
  intro q hq
  cases q <;> simp_all [Part.Same]

/-! ### A command that ends at once -/

/-- The end of a command that is the newest in flight. -/
theorem finish_newest {u : State} {fs : List Flight} {f : Flight} {tag : Nat} (e : Ending)
    (hf : u.hif.flights = fs ++ [f]) (ht : ptag f.p = tag) (hn : ∀ g ∈ fs, (ptag g.p == tag) = false)
    (hx : f.ext = false) (hs : f.silent = false) :
    finish tag e u = writeReply f.op f.p e { u with
      hif := { u.hif with flights := depDone tag (decide (e.status < 0x100)) fs }
      blt := { u.blt with queue := bltDepDone (depDone tag (decide (e.status < 0x100)) fs) u.blt.queue } } := by
  have h1 : flightOf u tag = some f := by
    rw [flightOf, hf, List.find?_append]
    have : fs.find? (fun f => ptag f.p == tag) = none := by
      rw [List.find?_eq_none]; intro g hg; simp [hn g hg]
    rw [this]; simp [ht]
  have h2 : (fs ++ [f]).filter (fun g => ptag g.p != tag) = fs := by
    rw [List.filter_append]
    have ha : fs.filter (fun g => ptag g.p != tag) = fs := by
      rw [List.filter_eq_self]; intro g hg; simp [bne, hn g hg]
    rw [ha]; simp [ht]
  simp [finish, h1, hf, h2, hx, hs]

/-- The interlocks read no more than this of what differs. -/
theorem LightInv.of_onlyIn {ps : List Part} {s t : State} (h : LightInv s) (ho : OnlyIn ps s t) (h1 : Part.light ∉ ps)
    (h2 : Part.rot ∉ ps) (h3 : Part.bl ∉ ps) (h4 : Part.cond ∉ ps) (h5 : Part.hif ∉ ps)
    (h6 : t.pnl.state = s.pnl.state) : LightInv t := by
  have hl := ho _ h1; have hr := ho _ h2; have hb := ho _ h3; have hc := ho _ h4; have hh := ho _ h5
  simp only [Part.Same] at hl hr hb hc hh
  have e1 : t.rot = s.rot := by rw [hr]; simp [hl]
  have e2 : t.bl = s.bl := by rw [hb]; simp [hl]
  have e3 : t.hif.ready = s.hif.ready := by rw [hh]
  exact h.of_same e1 e2 hc h6 e3

/-- What a meaning `done u` does where the interlocks hold of `u` already. -/
theorem runs_of_done {c : Instr} {s u : State} {ps : List Part} {P : State → Prop} (he : exec c s = done u)
    (hu : OnlyIn ps s u) (hm : Part.events ∈ ps) (hl : LightInv u) (hP : P (settle u)) : RunsTo c s ps P := by
  refine ⟨settle u, by rw [he, done_eq, interlock_eq hl], hu.trans ((settle_onlyIn u).mono ?_), hP⟩
  intro q hq; simp at hq; subst hq; exact hm

/-- What a meaning `done u` does where the interlocks may act. -/
theorem runs_of_done_light {c : Instr} {s u : State} {ps : List Part} {P : State → Prop} (he : exec c s = done u)
    (hu : OnlyIn ps s u) (hm : Part.events ∈ ps) (hl : Part.light ∈ ps) (hP : P (settle (interlock u))) :
    RunsTo c s ps P := by
  refine ⟨settle (interlock u), by rw [he, done_eq], ?_, hP⟩
  refine hu.trans (OnlyIn.trans ((interlock_onlyIn u).mono ?_) ((settle_onlyIn _).mono ?_))
  · intro q hq; simp at hq; rcases hq with rfl | rfl <;> assumption
  · intro q hq; simp at hq; subst hq; exact hm

/-- The books of a command that has just started. -/
theorem begun_onlyIn {s : State} {op : Nat} {p : Pkt} (hk : hooked op = false) :
    OnlyIn [.books, .events] s (begun s op p) := by
  rw [begun, acceptHook_none hk]
  refine ((wakeDomain_onlyIn s).mono (by simp)).trans ?_
  intro q hq
  cases q <;> simp_all [Part.Same, onFlight]

/-- A command that ends at once, whatever it has changed before: it is answered, and beside its own change `ps` no more
differs than the books of the Host Interface, the dependencies of Blitter operations, and the controller's events. `v`
is the state in which its reply is written. -/
theorem ends_at_once {s v : State} {op : Nat} {p : Pkt} {e : Ending} {start : Nat → Pkt → State → State}
    {c : Instr} {ps : List Part} {P : State → Prop} (hc : exec c s = done (submit op p start s))
    (hl : LightInv s) (ha : Accepts s op p) (hst : start (ptag p) p (begun s op p) = finish (ptag p) e v)
    (hh : v.hif = (begun s op p).hif) (hb : v.blt = s.blt) (hi : e.image = [] ∨ Part.mem ∈ ps)
    (hv : OnlyIn (.books :: .blt :: .events :: ps) s v)
    (h1 : Part.light ∉ ps) (h2 : Part.rot ∉ ps) (h3 : Part.bl ∉ ps) (h4 : Part.cond ∉ ps) (h5 : Part.hif ∉ ps)
    (h6 : v.pnl.state = s.pnl.state) (hP : P (settle (finish (ptag p) e v))) :
    EndsWith c s op p e.status e.result ps P := by
  have hfl : v.hif.flights = s.hif.flights ++ [startedFlight s op p] := by rw [hh, begun_hif ha]
  have hfin := finish_newest (u := v) (tag := ptag p) e hfl rfl (free_ne ha.tag_free) rfl rfl
  generalize hw : ({ v with
      hif := { v.hif with flights := depDone (ptag p) (decide (e.status < 0x100)) s.hif.flights }
      blt := { v.blt with queue := bltDepDone (depDone (ptag p) (decide (e.status < 0x100)) s.hif.flights) v.blt.queue } } : State) = w
    at hfin
  have hvw : OnlyIn [.books, .blt] v w := by
    subst hw; intro q hq
    cases q <;> simp_all [Part.Same]
  have how : OnlyIn (.books :: .blt :: .events :: ps) w (writeReply op p e w) := by
    intro q hq
    by_cases hm : q = .mem
    · subst hm
      simp only [Part.Same]
      exact writeReply_mem (hi.resolve_right (by simp at hq; exact hq))
    · exact writeReply_onlyIn op p e w q (by simp at hq ⊢; exact ⟨hq.1, hq.2.2.1, hm⟩)
  have hsu : OnlyIn (.books :: .blt :: .events :: ps) s (finish (ptag p) e v) := by
    rw [hfin]
    exact hv.trans ((hvw.mono (by simp)).trans how)
  refine runs_of_done (u := finish (ptag p) e v) ?_ hsu (by simp) ?_ ⟨?_, hP⟩
  · rw [hc, submit_accepts ha, hst]
  · exact hl.of_onlyIn hsu (by simp [h1]) (by simp [h2]) (by simp [h3]) (by simp [h4]) (by simp [h5]) (by simp [h6])
  · rw [hfin]
    obtain ⟨⟨r, r2, r3⟩, r4⟩ := writeReply_replied op p e w
    have hrep : w.hif.replies = s.hif.replies := by subst hw; simp only [hh, begun_hif ha]
    have hflw : w.hif.flights = depDone (ptag p) (decide (e.status < 0x100)) s.hif.flights := by subst hw; rfl
    show Answered s (settle (writeReply op p e w)) op p e.status e.result
    refine ⟨⟨r, ?_, r3⟩, ?_, ?_⟩
    · simp [r2, hrep]
    · simp [r4, hflw]
    · have hbw : w.blt = { s.blt with queue := bltDepDone w.hif.flights s.blt.queue } := by
        subst hw; simp [hb]
      simp [r4, hbw]

end Sys2Proof.Machine
end

