-- ==== Sys2Proof/Laws/Memory.lean ====
section
/-! SUPPORT. Stacked memory: every operation keeps its canonical form, a byte reads back as written, and the others as
before. -/
namespace Sys2Proof.Machine

/-- Every address of a list of cells is above a bound. -/
def cellsAbove (a : Nat) (l : List Host.Cell) : Prop := ∀ c ∈ l, a < c.1

theorem cellsWf_cons {c : Host.Cell} {l : List Host.Cell} :
    cellsWf (c :: l) = true ↔ c.2 ≠ memDefault ∧ cellsAbove c.1 l ∧ cellsWf l = true := by
  induction l generalizing c with
  | nil => simp [cellsWf, cellsAbove]
  | cons d l ih =>
    simp only [cellsWf, Bool.and_eq_true, bne_iff_ne, decide_eq_true_eq]
    constructor
    · rintro ⟨⟨h1, h2⟩, h3⟩
      refine ⟨h1, ?_, h3⟩
      intro e he
      rcases List.mem_cons.mp he with rfl | he
      · exact h2
      · exact Nat.lt_trans h2 ((ih.mp h3).2.1 e he)
    · rintro ⟨h1, h2, h3⟩
      exact ⟨⟨h1, h2 d (by simp)⟩, h3⟩

/-- A cell set keeps a bound below its address. -/
theorem cellSet_above {l : List Host.Cell} {a x : Nat} {b : Byte} (h : cellsAbove x l) (hx : x < a) :
    cellsAbove x (cellSet l a b) := by
  induction l with
  | nil =>
    simp only [cellSet]; split
    · exact h
    · intro e he; simp only [List.mem_singleton] at he; subst he; exact hx
  | cons d l ih =>
    have hd := h d (by simp)
    have hl : cellsAbove x l := fun e he => h e (by simp [he])
    simp only [cellSet]
    split
    · split
      · exact h
      · intro e he
        rcases List.mem_cons.mp he with rfl | he
        · exact hx
        · exact h e he
    · split
      · split
        · exact hl
        · intro e he
          rcases List.mem_cons.mp he with rfl | he
          · exact hx
          · exact hl e he
      · intro e he
        rcases List.mem_cons.mp he with rfl | he
        · exact hd
        · exact ih hl e he

/-- A cell set keeps the canonical form. -/
theorem cellSet_wf {l : List Host.Cell} (h : cellsWf l = true) (a : Nat) (b : Byte) :
    cellsWf (cellSet l a b) = true := by
  induction l with
  | nil =>
    simp only [cellSet]; split
    · rfl
    · simpa [cellsWf] using ‹¬ b = memDefault›
  | cons d l ih =>
    obtain ⟨h1, h2, h3⟩ := cellsWf_cons.mp h
    simp only [cellSet]
    split
    · rename_i ha
      split
      · exact h
      · refine cellsWf_cons.mpr ⟨‹_›, ?_, h⟩
        intro e he
        rcases List.mem_cons.mp he with rfl | he
        · exact ha
        · exact Nat.lt_trans ha (h2 e he)
    · split
      · rename_i ha
        split
        · exact h3
        · exact cellsWf_cons.mpr ⟨‹_›, by simpa [ha] using h2, h3⟩
      · exact cellsWf_cons.mpr ⟨h1, cellSet_above h2 (by omega), ih h3⟩

theorem lookup_above {l : List Host.Cell} {a : Nat} (h : cellsAbove a l) : l.lookup a = none := by
  induction l with
  | nil => rfl
  | cons d l ih =>
    have hd := h d (by simp)
    have hne : (a == d.1) = false := by simp only [beq_eq_false_iff_ne]; omega
    rw [List.lookup_cons, hne]
    exact ih (fun e he => h e (by simp [he]))

/-- A lookup at the head of a list of cells. -/
theorem lookup_cell (d : Host.Cell) (l : List Host.Cell) (x : Nat) :
    (d :: l).lookup x = if x = d.1 then some d.2 else l.lookup x := by
  obtain ⟨k, v⟩ := d
  by_cases hx : x = k
  · simp [hx]
  · have : (x == k) = false := by simpa using hx
    simp [List.lookup_cons, this, hx]

/-- What a cell list answers after a cell is set. -/
theorem cellSet_lookup {l : List Host.Cell} (h : cellsWf l = true) (a x : Nat) (b : Byte) :
    ((cellSet l a b).lookup x).getD memDefault = if x = a then b else (l.lookup x).getD memDefault := by
  induction l with
  | nil =>
    simp only [cellSet]; split <;> rename_i hb
    · by_cases hx : x = a <;> simp [hx, hb]
    · rw [lookup_cell]; by_cases hx : x = a <;> simp [hx]
  | cons d l ih =>
    obtain ⟨h1, h2, h3⟩ := cellsWf_cons.mp h
    simp only [cellSet]
    split
    · rename_i ha
      split
      · rename_i hb
        by_cases hx : x = a
        · have habove : cellsAbove x (d :: l) := by
            intro e he
            rcases List.mem_cons.mp he with rfl | he
            · omega
            · have := h2 e he; omega
          rw [lookup_above habove, if_pos hx, hb]; rfl
        · rw [if_neg hx]
      · rw [lookup_cell]; by_cases hx : x = a <;> simp [hx]
    · split
      · rename_i ha
        split
        · rename_i hb
          by_cases hx : x = a
          · have habove : cellsAbove x l := by intro e he; have := h2 e he; omega
            rw [lookup_above habove, if_pos hx, hb]; rfl
          · rw [if_neg hx, lookup_cell, if_neg (by omega)]
        · rw [lookup_cell]
          by_cases hx : x = a
          · simp [hx]
          · have hd : ¬ x = d.1 := by omega
            simp [lookup_cell, hx, hd]
      · rw [lookup_cell, lookup_cell]
        by_cases hd : x = d.1
        · rw [if_pos hd, if_pos hd, if_neg (by omega)]
        · rw [if_neg hd, if_neg hd]
          exact ih h3

/-- The stamp of an undefined range is left by what is written outside it. -/
theorem undefSub_find (u : List (Nat × Nat × Nat)) (a n x : Nat) (hx : x < a ∨ a + n ≤ x) :
    ((undefSub u a n).find? (fun r => r.1 ≤ x && x < r.1 + r.2.1)).map (·.2.2) =
      (u.find? (fun r => r.1 ≤ x && x < r.1 + r.2.1)).map (·.2.2) := by
  induction u with
  | nil => rfl
  | cons r u ih =>
    simp only [undefSub, List.flatMap_cons, List.find?_append] at ih ⊢
    obtain ⟨b, m, k⟩ := r
    simp only [rangeSub, List.flatMap_cons, List.flatMap_nil, List.append_nil, rangeTidy, List.find?_cons]
    by_cases hin : b ≤ x ∧ x < b + m
    · have hb : (decide (b ≤ x) && decide (x < b + m)) = true := by simpa using hin
      rw [hb]
      rcases hx with hx | hx
      · have h1 : b < a := by omega
        have h2 : min m (a - b) ≠ 0 := by omega
        have h3 : x < b + min m (a - b) := by omega
        simp [h1, h2, hin.1, h3]
      · have h1 : a + n < b + m := by omega
        have h2 : b + m - max b (a + n) ≠ 0 := by omega
        have h3 : max b (a + n) ≤ x := by omega
        have h4 : x < max b (a + n) + (b + m - max b (a + n)) := by omega
        by_cases hc : b < a
        · by_cases hz : min m (a - b) = 0
          · simp [h1, h2, h3, h4, hc, hz]
          · have h5 : ¬ x < b + min m (a - b) := by omega
            simp [h1, h2, h3, h4, hc, hz, h5]
        · simp [h1, h2, h3, h4, hc]
    · have hb : (decide (b ≤ x) && decide (x < b + m)) = false := by
        simp only [Bool.and_eq_false_iff, decide_eq_false_iff_not]; omega
      rw [hb]
      have hnone : List.find? (fun r => decide (r.1 ≤ x) && decide (x < r.1 + r.2.1))
          (List.map (fun x => (x.1, x.2, k)) (List.filter (fun r => r.2 != 0)
            ((if b < a then [(b, min m (a - b))] else []) ++
              if a + n < b + m then [(max b (a + n), b + m - max b (a + n))] else []))) = none := by
        rw [List.find?_eq_none]
        intro r hr
        simp only [List.mem_map, List.mem_filter, List.mem_append] at hr
        obtain ⟨y, ⟨hy, _⟩, rfl⟩ := hr
        simp only [Bool.and_eq_true, decide_eq_true_eq]
        rcases hy with hy | hy
        · split at hy
          · simp only [List.mem_singleton] at hy; subst hy; simp only; omega
          · simp at hy
        · split at hy
          · simp only [List.mem_singleton] at hy; subst hy; simp only; omega
          · simp at hy
      rw [hnone]
      simpa only [rangeSub, rangeTidy, Option.none_or, List.flatMap_cons, List.flatMap_nil, List.append_nil] using ih

/-- No undefined range holds a byte just written. -/
theorem undefSub_hit (u : List (Nat × Nat × Nat)) (x : Nat) :
    (undefSub u x 1).find? (fun r => r.1 ≤ x && x < r.1 + r.2.1) = none := by
  rw [List.find?_eq_none]
  intro r hr
  simp only [undefSub, List.mem_flatMap, List.mem_map, rangeTidy, List.mem_filter, rangeSub, List.mem_append] at hr
  obtain ⟨q, _, y, ⟨⟨z, _, hy⟩, _⟩, rfl⟩ := hr
  simp only [Bool.and_eq_true, decide_eq_true_eq]
  rcases hy with hy | hy
  · split at hy
    · simp only [List.mem_singleton] at hy; subst hy; simp only; omega
    · simp at hy
  · split at hy
    · simp only [List.mem_singleton] at hy; subst hy; simp only; omega
    · simp at hy

/-- A byte written reads back, unless its channel has failed (R348). -/
theorem memRead_memWrite_same {m : Mem} (h : m.wf) (a : Nat) (b : Byte) (hc : chanFailed m a = false) :
    memRead (memWrite a b m) a = b := by
  simp only [memWrite, hc, Bool.false_eq_true, if_false, memRead, undefStamp, undefSub_hit, Option.map_none]
  rw [cellSet_lookup h]; simp

/-- A write leaves every other byte. -/
theorem memRead_memWrite_other {m : Mem} (h : m.wf) (a x : Nat) (b : Byte) (hx : x ≠ a) :
    memRead (memWrite a b m) x = memRead m x := by
  simp only [memWrite]
  split
  · rfl
  · simp only [memRead, undefStamp]
    rw [undefSub_find m.undef a 1 x (by omega), cellSet_lookup h, if_neg hx]

/-- Bytes written leave every byte outside them. -/
theorem memRead_memWriteList_other {m : Mem} (h : m.wf) (a x : Nat) (bs : List Byte)
    (hx : x < a ∨ a + bs.length ≤ x) : memRead (memWriteList a bs m) x = memRead m x := by
  induction bs generalizing a m with
  | nil => rfl
  | cons b bs ih =>
    simp only [List.length_cons] at hx
    rw [memWriteList, ih (by simp only [memWrite]; split; exact h; exact cellSet_wf h a b) (a + 1) (by omega),
      memRead_memWrite_other h a x b (by omega)]

/-- A store leaves every byte outside it. -/
theorem memRead_memStore_other {m : Mem} (h : m.wf) (a x : Nat) (bs : List Byte)
    (hx : x < a ∨ a + bs.length ≤ x) : memRead (memStore a bs m) x = memRead m x :=
  memRead_memWriteList_other h a x bs hx

theorem memWrite_wf {m : Mem} (h : m.wf) (a : Nat) (b : Byte) : (memWrite a b m).wf := by
  simp only [memWrite]; split
  · exact h
  · exact cellSet_wf h a b

theorem memWriteList_wf {m : Mem} (h : m.wf) (a : Nat) (bs : List Byte) : (memWriteList a bs m).wf := by
  induction bs generalizing a m with
  | nil => exact h
  | cons b bs ih => exact ih (memWrite_wf h a b) (a + 1)

theorem memStore_wf {m : Mem} (h : m.wf) (a : Nat) (bs : List Byte) : (memStore a bs m).wf :=
  memWriteList_wf h a bs

theorem memFill_wf {m : Mem} (h : m.wf) (a n : Nat) (f : Nat → Byte) : (memFill a n f m).wf := by
  induction n with
  | zero => exact h
  | succ n ih => exact memWrite_wf ih (a + n) (f n)

theorem memFillWhole_wf {m : Mem} (h : m.wf) (a n : Nat) (f : Nat → Byte) : (memFillWhole a n f m).wf := memFill_wf h a n f

/-- After reset memory lists nothing, and has the form. -/
theorem reset_wf : State.reset.mem.wf := rfl

end Sys2Proof.Machine
end

