-- ==== Sys2Proof/Laws/Requests.lean ====
section
/-! SUPPORT. What the requests of stacked memory can do: they move rows, counts, pools and retry buffers, and no byte. -/
namespace Sys2Proof.Machine

/-- Nothing but stacked memory differs, and of it no byte, no undefined range and no poison. -/
def Traffic (s t : State) : Prop :=
  OnlyIn [.mem] s t ∧ t.mem.cells = s.mem.cells ∧ t.mem.undef = s.mem.undef ∧ t.mem.poison = s.mem.poison

theorem Traffic.refl (s : State) : Traffic s s := ⟨OnlyIn.refl _ s, rfl, rfl, rfl⟩

theorem Traffic.trans {s t u : State} (h : Traffic s t) (k : Traffic t u) : Traffic s u :=
  ⟨h.1.trans k.1, k.2.1.trans h.2.1, k.2.2.1.trans h.2.2.1, k.2.2.2.trans h.2.2.2⟩

/-- An update of memory's records that keeps bytes, ranges and poison is traffic. -/
theorem onMem_traffic (f : Mem → Mem) (s : State) (h : (f s.mem).cells = s.mem.cells)
    (hu : (f s.mem).undef = s.mem.undef) (hp : (f s.mem).poison = s.mem.poison) : Traffic s (onMem f s) := by
  refine ⟨fun q hq => ?_, h, hu, hp⟩
  cases q <;> simp_all [Part.Same, onMem]

theorem foldl_traffic {α : Type} (f : State → α → State) (h : ∀ t x, Traffic t (f t x)) (l : List α) (s : State) :
    Traffic s (l.foldl f s) := by
  induction l generalizing s with
  | nil => exact .refl s
  | cons a l ih => exact (h s a).trans (ih _)

theorem issueCmd_traffic (k : Nat) (c : MemCmd) (s : State) : Traffic s (issueCmd k c s) := by
  unfold issueCmd; exact onMem_traffic _ s rfl rfl rfl

theorem countActivate_traffic (k row : Nat) (s : State) : Traffic s (countActivate k row s) := by
  unfold countActivate; split <;> exact onMem_traffic _ s rfl rfl rfl

theorem activate_traffic (k row : Nat) (s : State) : Traffic s (activate k row s) :=
  (onMem_traffic _ s rfl rfl rfl).trans ((issueCmd_traffic _ _ _).trans (countActivate_traffic _ _ _))

theorem precharge_traffic (k : Nat) (s : State) : Traffic s (precharge k s) :=
  (onMem_traffic _ s rfl rfl rfl).trans (issueCmd_traffic _ _ _)

theorem refreshBank_traffic (k : Nat) (s : State) : Traffic s (refreshBank k s) :=
  (onMem_traffic _ s rfl rfl rfl).trans (issueCmd_traffic _ _ _)

theorem issueRfm_traffic (k : Nat) (s : State) : Traffic s (issueRfm k s) := by
  unfold issueRfm; split
  · exact (precharge_traffic k s).trans (issueCmd_traffic _ _ _)
  · exact issueCmd_traffic _ _ _

theorem rowAfter_traffic (hint k : Nat) (s : State) : Traffic s (rowAfter hint k s) := by
  unfold rowAfter
  dsimp only
  repeat' split
  all_goals first | exact .refl s | exact precharge_traffic k s | exact onMem_traffic _ s rfl rfl rfl

theorem serveReq_traffic (r : MemReq) (s : State) : Traffic s (serveReq r s) :=
  (onMem_traffic _ s rfl rfl rfl).trans ((issueCmd_traffic _ _ _).trans (rowAfter_traffic _ _ _))

theorem nextCommand_traffic (r : MemReq) (s : State) : Traffic s (nextCommand r s).2 := by
  unfold nextCommand
  dsimp only
  split
  · exact activate_traffic _ _ s
  · split
    · exact serveReq_traffic r s
    · exact precharge_traffic _ s

theorem rotAfter_traffic (pc b : Nat) (s : State) : Traffic s (rotAfter pc b s) := onMem_traffic _ s rfl rfl rfl

/-- A command slot moves no byte (R335). -/
theorem memSlot_traffic (pc : Nat) (ready : List Nat) (s : State) : Traffic s (memSlot pc ready s).2 := by
  unfold memSlot
  split
  · exact .refl s
  · split
    · exact refreshBank_traffic _ s
    · split
      · exact .refl s
      · dsimp only
        split
        · exact (refreshBank_traffic _ s).trans (rotAfter_traffic _ _ _)
        · split
          · exact (nextCommand_traffic _ s).trans (rotAfter_traffic _ _ _)
          · exact .refl s

theorem memSlots_traffic (pc : Nat) (l : List (List Nat)) (x : Option MemReq) (s : State) :
    Traffic s (memSlots pc l x s).2 := by
  induction l generalizing x s with
  | nil => exact .refl s
  | cons a l ih => exact (memSlot_traffic pc a s).trans (ih _ _)

theorem placeReq_keeps (r : MemReq) (m : Mem) :
    (placeReq r m).cells = m.cells ∧ (placeReq r m).undef = m.undef ∧ (placeReq r m).poison = m.poison := by
  unfold placeReq; split <;> exact ⟨rfl, rfl, rfl⟩

theorem placeAll_keeps (rs : List MemReq) (m : Mem) :
    (placeAll rs m).cells = m.cells ∧ (placeAll rs m).undef = m.undef ∧ (placeAll rs m).poison = m.poison := by
  induction rs generalizing m with
  | nil => exact ⟨rfl, rfl, rfl⟩
  | cons r rs ih =>
    have h := placeReq_keeps r m
    have k := ih (placeReq r m)
    exact ⟨k.1.trans h.1, k.2.1.trans h.2.1, k.2.2.trans h.2.2⟩

/-- Requests that are made, placed or held move no byte (R333). -/
theorem takeAsks_traffic (asks : List MemAsk) (s : State) : Traffic s (takeAsks asks s) := by
  unfold takeAsks
  dsimp only
  split
  · exact onMem_traffic _ s rfl rfl rfl
  · have h := placeAll_keeps (s.mem.held ++ asks.flatMap (splitAsk s)) { s.mem with held := [] }
    exact onMem_traffic _ s h.1 h.2.1 h.2.2

theorem replayCmd_traffic (e : Nat × MemCmd) (s : State) : Traffic s (replayCmd e s) := by
  unfold replayCmd
  split
  · exact (onMem_traffic _ s rfl rfl rfl).trans (countActivate_traffic _ _ _)
  · split
    · exact .refl s
    · exact (onMem_traffic _ s rfl rfl rfl).trans (countActivate_traffic _ _ _)
  all_goals exact onMem_traffic _ s rfl rfl rfl

/-- A replay moves no byte (R347). -/
theorem replay_traffic (chan n : Nat) (s : State) : Traffic s (replay chan n s) :=
  (onMem_traffic _ s rfl rfl rfl).trans (foldl_traffic (fun t e => replayCmd e t) (fun t e => replayCmd_traffic e t) _ _)

end Sys2Proof.Machine
end

