-- ==== Sys2Proof/Laws/Tables.lean ====
section
/-! SUPPORT. Sparse tables: what they answer after a key is set or removed. -/
namespace Sys2Proof.Machine

theorem tget?_cons {α : Type} (e : Nat × α) (t : Table α) (k : Nat) :
    tget? (e :: t) k = if k = e.1 then some e.2 else tget? t k := by
  obtain ⟨j, v⟩ := e
  by_cases h : k = j
  · simp [tget?, h]
  · have : (k == j) = false := by simpa using h
    simp [tget?, List.lookup_cons, this, h]

@[simp] theorem tget?_tset {α : Type} (t : Table α) (k j : Nat) (a : α) :
    tget? (tset t k a) j = if j = k then some a else tget? t j := by
  induction t with
  | nil => simp only [tset, tget?_cons]
  | cons e t ih =>
    simp only [tset]
    split
    · simp only [tget?_cons]
    · split
      · rename_i h; subst h
        simp only [tget?_cons]; split <;> rfl
      · rename_i h
        simp only [tget?_cons, ih]
        by_cases h1 : j = e.1
        · have : j ≠ k := by omega
          rw [if_pos h1, if_pos h1, if_neg this]
        · rw [if_neg h1, if_neg h1]

@[simp] theorem tget_tset {α : Type} (t : Table α) (k j : Nat) (a d : α) :
    tget (tset t k a) j d = if j = k then a else tget t j d := by
  simp only [tget, tget?_tset]; split <;> rfl

@[simp] theorem tget?_tdel {α : Type} (t : Table α) (k j : Nat) :
    tget? (tdel t k) j = if j = k then none else tget? t j := by
  induction t with
  | nil => simp [tdel, tget?]
  | cons e t ih =>
    simp only [tdel] at ih ⊢
    by_cases h : e.1 = k
    · have hb : (e.1 != k) = false := by simpa using h
      rw [List.filter_cons, hb]
      simp only [Bool.false_eq_true, if_false, ih, tget?_cons]
      by_cases hj : j = k
      · simp [hj]
      · rw [if_neg hj, if_neg hj, if_neg (by omega)]
    · have hb : (e.1 != k) = true := by simpa using h
      rw [List.filter_cons, hb]
      simp only [if_true, tget?_cons, ih]
      by_cases hj : j = e.1
      · rw [if_pos hj, if_pos hj, if_neg (by omega)]
      · rw [if_neg hj, if_neg hj]

@[simp] theorem tget_tdel {α : Type} (t : Table α) (k j : Nat) (d : α) :
    tget (tdel t k) j d = if j = k then d else tget t j d := by
  simp only [tget, tget?_tdel]; split <;> rfl

end Sys2Proof.Machine
end

