-- ==== Sys2Proof/Machine/Pins.lean ====
section
/-! DEFINITION. The balls: the trigger outputs and lane swing as the state gives them, and where each ball lies (R542 to
R547, R551, R375 to R382). The status balls are in Flags.lean. -/
namespace Sys2Proof.Machine

/-- The level of trigger output `n`: its pulse, or its inactive level; low while the descriptor is clear (R375, R381,
Table 17-3). -/
def trigHigh (s : State) (n : Nat) : Bool :=
  let t := trigOf s n
  if t.active then !t.keepLow else trigFlag t 0

/-- The differential swing of every lane in mV, by the PLT_SWING in force (R551). -/
def laneSwing (s : State) : Nat := 400 + 100 * s.plt.swing

/-! ### Ball names (R542 to R547) -/

/-- A site: row index 1 to 42, column 1 to 42. -/
abbrev Site := Nat × Nat

/-- The row names of Table 21-2, from index 1. -/
def rowNames : List String :=
  ["A", "B", "C", "D", "E", "F", "G", "H", "J", "K", "L", "M", "N", "P", "T", "U", "V", "W", "Y"] ++
  ["AA", "AB", "AC", "AD", "AE", "AF", "AG", "AH", "AJ", "AK", "AL", "AM", "AN", "AP", "AT", "AU", "AV", "AW", "AY"] ++
  ["BA", "BB", "BC", "BD"]

/-- A ball's name: the row's name and the column's number. -/
def ballName (b : Site) : String := rowNames.getD (b.1 - 1) "" ++ toString b.2

/-- The depopulated sites of the creepage moat (R543). -/
def inMoat (b : Site) : Bool :=
  ((b.1 == 13 || b.1 == 30) && decide (1 ≤ b.2) && decide (b.2 ≤ 16)) ||
  ((b.2 == 15 || b.2 == 16) && decide (14 ≤ b.1) && decide (b.1 ≤ 29))

/-- The _P ball of triplet `t` of the top or the bottom edge (R544). -/
def tripletSite (top : Bool) (t : Nat) : Site := (if top then t / 14 + 1 else 42 - t / 14, 3 * (t % 14) + 1)

/-- The _P or _N ball of lane PLn (R544). -/
def laneSite (n : Nat) (neg : Bool) : Site :=
  let p := tripletSite (decide (n < 128)) (9 * (n % 128 / 8) + n % 8)
  (p.1, p.2 + if neg then 1 else 0)

/-- The _P or _N ball of gate-control link GCn (R544). -/
def linkSite (n : Nat) (neg : Bool) : Site :=
  let p := tripletSite (decide (n < 16)) (9 * (n % 16) + 8)
  (p.1, p.2 + if neg then 1 else 0)

/-- Zone sink BZn, and ball `i` of supply BLSk (R546). -/
def zoneSite (n : Nat) : Site := (14 + n % 16, 6 + n / 16)
def supplySite (k i : Nat) : Site := (14 + 2 * k + i, 5)

/-- Ball `i` of the rotor phases ROT_U, ROT_V and ROT_W, and FLY_VDRV (R546). -/
def rotorSite (phase i : Nat) : Site := (14 + 4 * phase + i, 14)
def flyDriveSite : Site := (26, 14)

/-- The signal rows of the low-voltage block, by index: N, T, V, Y, AB, AD, AF, AH, AK (R547). -/
def signalRows : List Nat := [13, 15, 17, 19, 21, 23, 25, 27, 29]

/-- Position `p` of the low-voltage sequence of Table 21-4 (R547). -/
def sequenceSite (p : Nat) : Site := (signalRows.getD (p / 26) 0, 17 + p % 26)

/-- First position of groups of Table 21-4: trigger outputs, capture inputs, and the reset and status balls. -/
def trigSite (n : Nat) : Site := sequenceSite (152 + n)
def captureSite (n : Nat) : Site := sequenceSite (176 + n)
def resetBSite : Site := sequenceSite 219
def sagwBSite : Site := sequenceSite 220
def intBSite : Site := sequenceSite 221
def faultBSite : Site := sequenceSite 222
def statReadySite : Site := sequenceSite 223

end Sys2Proof.Machine
end

