-- ==== Sys2Proof/Tests/Witnesses.lean ====
section
/-! SUPPORT. For every statement with hypotheses, states and operands that meet them: one theorem a statement, one clause of it a
clause of the statement, at the ends of its ranges. -/
open Sys2Proof Sys2Proof.Machine
namespace Sys2Proof.Tests

/-- The module in PARKED after READY: the Host Interface and READY are up, the time runs, memory is trained. -/
def up : State :=
  { State.reset with
    hif := { State.reset.hif with fwUp := true, ready := true }
    pwr := { State.reset.pwr with episode := false, porAsserted := false, released := 8 }
    tu := { State.reset.tu with running := true }
    mem := { State.reset.mem with point := .p32, trained := true, resetsHeld := false } }

/-- The same in another mode, the sets with it. -/
def inMode (m : Mode) : State :=
  { up with
    cond := { up.cond with mode := m }
    cfg := { up.cfg with draft := { up.cfg.draft with mode := m }, active := { up.cfg.active with mode := m } } }

/-- A packet on queue 0 with its PARAMS from 0x14 and its data at a host address. -/
def pk (params : List Byte) (data : List Byte := []) : Pkt :=
  { path := 0, tag := 1, dep := 0, flags := 0, rsvd := 0, addr := if data.isEmpty then 0 else 0x1000
    len := BitVec.ofNat 32 data.length, params := padTo 44 params, host := data }

/-- A packet under another tag. -/
def pkt (tag : Half) (params : List Byte) (data : List Byte := []) : Pkt := { pk params data with tag := tag }

/-- A started command in flight. -/
def fl (op : Nat) (p : Pkt) : Flight := { op := op, p := p, started := true }

/-- Commands in flight. -/
def flying (s : State) (fs : List Flight) : State := { s with hif := { s.hif with flights := fs } }

/-- The state a command leaves. -/
def after (c : Instr) (s : State) : State := match exec c s with
  | .next t => t
  | _ => s

theorem witness_IdleStepIsOneTick :
    up.pending = [] ∧ up.tu.running = true ∧ up.tu.slewing = false ∧ up.tu.freqPpb = 0 ∧
      State.reset.pending = [] ∧ State.reset.tu.running = false := by and_intros <;> decide

theorem witness_EveryStepKeepsCalm : Calm up ∧ Calm (inMode .service) := by and_intros <;> decide

/-- The last byte of a store of two at the top of memory. -/
theorem witness_StoresKeepMemoryCanonical :
    (memStore 5 [7] up.mem).wf ∧ chanFailed (memStore 5 [7] up.mem) 0x1FFFFFFFFF = false := by and_intros <;> decide

theorem witness_RefusedCommandHasNoEffect :
    hostPacket (.modeSet (pk [5])) = some (0x0106, pk [5]) ∧ LightInv up ∧ Refuses up 0x0106 (pk [5]) 0x0205 := by and_intros <;> decide

/-- A tag in flight; an undefined opcode; TAG 512; before READY; and a packet that reaches check 5. -/
theorem witness_AcceptanceChecksInOrder :
    (flightOf (flying up [fl 0x0803 (pk [])]) (ptag (pk []))).isSome = true ∧
    (flightOf up (ptag (pk [])) = none ∧ opModes 0x0100 = none) ∧
    (flightOf up (ptag (pkt 512 [])) = none ∧ (opModes 0x0102).isSome = true ∧ 512 ≤ (pkt 512 []).tag.toNat) ∧
    (flightOf State.reset (ptag (pk [])) = none ∧ (opModes 0x0106).isSome = true ∧ State.reset.hif.ready = false ∧
      State.reset.cond.bivouac = false) ∧
    (flightOf up (ptag (pk [])) = none ∧ opModes 0x0106 = some 31 ∧ (pk []).tag.toNat < 512 ∧ (pk []).dep.toNat < 2048 ∧
      (pk []).flags.toNat < 2 ∧ (pk []).rsvd = 0 ∧ up.hif.ready = true) := by and_intros <;> decide

/-- A command held by its dependency; one on a queue before FW_UP; one by Ethernet before RUNNING. -/
theorem witness_PathsAndDependenciesHoldCommands :
    (LightInv (flying up [fl 0x0803 (pkt 2 [])]) ∧ pathOpen (flying up [fl 0x0803 (pkt 2 [])]) 0 = true ∧
      acceptCheck (flying up [fl 0x0803 (pkt 2 [])]) 0x0903 { pk [] with dep := 0x202 } = none ∧
      (flightOf (flying up [fl 0x0803 (pkt 2 [])]) ((0x202 : Half).toNat % 512)).isSome = true) ∧
    (LightInv State.reset ∧ pathOpen State.reset 0 = false) ∧ ethUp State.reset = false ∧
    hostPacket (.sillageMark { pk [] with path := 16 }) = some (0x0903, { pk [] with path := 16 }) := by and_intros <;> decide

theorem witness_StagingGoesToTheDraft :
    LightInv (inMode .flat) ∧ Accepts (inMode .flat) 0x0203 (pk [1] (List.replicate 8 0)) ∧
      Accepts (inMode .flat) 0x0301 (pk [31] (List.replicate 48 0)) ∧ Accepts (inMode .flat) 0x0302 (pk [15, 0, 0, 0]) ∧
      Accepts (inMode .flat) 0x0902 (pk [7, 0, 10, 0, 0, 0, 0, 0, 0, 4, 0, 4]) ∧ LightInv up ∧
      Accepts up 0x0211 (pk [3]) ∧ Accepts up 0x0211 (pk [0xFF]) := by and_intros <;> decide

theorem leNat_zeros (n : Nat) : leNat (List.replicate n 0#8) = 0 := by
  induction n with
  | zero => rfl
  | succ n ih => simp [List.replicate_succ, leNat, ih]

theorem field_zeros (n a k : Nat) : field (List.replicate n 0) a k = 0 := by
  simp [field, List.drop_replicate, List.take_replicate, leNat_zeros]

theorem pdata_zeros (s : State) (ps : List Byte) (n : Nat) (h : n ≠ 0) (hn : n < 2 ^ 32) :
    pdata s (pk ps (List.replicate n 0)) = List.replicate n 0 := by
  cases n with
  | zero => exact absurd rfl h
  | succ n =>
    have h2 : (n + 1) % 4294967296 = n + 1 := Nat.mod_eq_of_lt hn
    simp [pdata, pk, isLocal, padTo, plen, h2]

/-- Each table once with a length that is wrong, once well formed, and once with a first entry just beyond its range. -/
theorem witness_TableLoadsAreChecked :
    (LightInv (inMode .flat) ∧ Accepts (inMode .flat) 0x0303 (pk [7] [0, 0]) ∧
      Accepts (inMode .flat) 0x0303 (pk [7] (List.replicate 1024 0)) ∧
      Accepts (inMode .flat) 0x0303 (pk [7] (0x00 :: 0x08 :: List.replicate 1022 0)) ∧
      (pdata (inMode .flat) (pk [7] (0x00 :: 0x08 :: List.replicate 1022 0))).length = 1024 ∧
      2047 < sext 16 (field (pdata (inMode .flat) (pk [7] (0x00 :: 0x08 :: List.replicate 1022 0))) (2 * 0) 2) ∧
      (∀ i, i < 512 → -2048 ≤ sext 16 (field (pdata (inMode .flat) (pk [7] (List.replicate 1024 0))) (2 * i) 2) ∧
        sext 16 (field (pdata (inMode .flat) (pk [7] (List.replicate 1024 0))) (2 * i) 2) ≤ 2047)) ∧
    (Accepts (inMode .flat) 0x0401 (pk [5] [0, 0]) ∧ Accepts (inMode .flat) 0x0401 (pk [0] (List.replicate 512 0)) ∧
      (∀ i, i < 256 → field (pdata (inMode .flat) (pk [0] (List.replicate 512 0))) (2 * i) 2 ≤ 4095) ∧
      Accepts (inMode .flat) 0x0401 (pk [4] (0x00 :: 0x04 :: List.replicate 2046 0)) ∧
      (pdata (inMode .flat) (pk [4] (0x00 :: 0x04 :: List.replicate 2046 0))).length = 2048 ∧
      1023 < field (pdata (inMode .flat) (pk [4] (0x00 :: 0x04 :: List.replicate 2046 0))) (2 * 0) 2) ∧
    (Accepts (inMode .flat) 0x0402 (pk [] (0x00 :: 0x08 :: List.replicate 2176 0)) ∧
      (pdata (inMode .flat) (pk [] (0x00 :: 0x08 :: List.replicate 2176 0))).length = 2178 ∧
      2047 < field (pdata (inMode .flat) (pk [] (0x00 :: 0x08 :: List.replicate 2176 0))) (2 * 0) 2) ∧
    Accepts (inMode .flat) 0x0402 (pk [] [0, 0]) ∧ Accepts (inMode .flat) 0x0402 (pk [] (List.replicate 2178 0)) ∧
      (∀ i, i < 1089 → field (pdata (inMode .flat) (pk [] (List.replicate 2178 0))) (2 * i) 2 ≤ 2047) := by
  simp only [pdata_zeros _ _ 1024 (by decide) (by decide), pdata_zeros _ _ 512 (by decide) (by decide),
    pdata_zeros _ _ 2178 (by decide) (by decide), field_zeros]
  and_intros <;> decide +kernel

/-- A SCENE_LOAD block bound to plane 0, and none bound to plane 1. -/
theorem witness_PlaneDefineStagesOrWaits :
    (∀ s ∈ [{ inMode .flat with sdec := { up.sdec with blocks := [{ plane := 0 }] } }],
      LightInv s ∧ Accepts s 0x0202 (pk [1]) ∧ boundBlocks s 1 = [] ∧ Accepts s 0x0202 (pk [0]) ∧ boundBlocks s 0 ≠ []) := by
  decide

/-- A state whose plane 0 is damaged, with one cache entry. -/
def cached : State :=
  { inMode .flat with cfg := { (inMode .flat).cfg with
      damage := [(0, [(0, 256)])], cache := [(31, {})]
      draft := { (inMode .flat).cfg.draft with params := [(0x2000, 1)], planes := [(0, List.replicate 32 0)] } } }

theorem witness_SceneCacheEntries :
    (LightInv (inMode .flat) ∧ Accepts (inMode .flat) 0x0204 (pk [31]) ∧
      ∀ e ∈ cachePlanes (inMode .flat), damageOf (inMode .flat) (dBase e.2) = []) ∧
    (LightInv cached ∧ Accepts cached 0x0204 (pk [31]) ∧ cachePlanes cached = [] ++ (0, List.replicate 32 0) :: [] ∧
      damageOf cached (dBase (List.replicate 32 0)) ≠ []) ∧
    (Accepts cached 0x0205 (pk [30]) ∧ tget? cached.cfg.cache 30 = none ∧ Accepts cached 0x0205 (pk [31]) ∧
      tget? cached.cfg.cache 31 = some {} ∧ Accepts cached 0x0206 (pk [31])) := by and_intros <;> decide

/-- A pair that fails (PN 0) and one that passes (0x4400, the backlight level, of Commit). -/
theorem witness_ParamSetAllOrNothing :
    LightInv up ∧ Accepts up 0x0104 (pk [1, 0, 0, 0, 0, 0, 0, 0, 0, 0, 0, 0]) ∧
      (firstFailing up (paramPairs (pk [1, 0, 0, 0, 0, 0, 0, 0, 0, 0, 0, 0]))).isSome = true ∧
      Accepts up 0x0104 (pk [1, 0, 0, 0, 0x00, 0x44, 0, 0, 1, 0, 0, 0]) ∧
      firstFailing up (paramPairs (pk [1, 0, 0, 0, 0x00, 0x44, 0, 0, 1, 0, 0, 0])) = none := by and_intros <;> decide

/-- Slot 3 of the ray maps READY; the last granule of a range poisoned. -/
def readSt : State :=
  { inMode .flat with
    rmap := { up.rmap with state := [.empty, .empty, .empty, .ready] }
    mem := { up.mem with poison := [(ingestBase + 64) / 64] } }

/-- MEM_READ parameters: an address of the ingest area and 64 bytes. -/
def memPk (a : Nat) (data : List Byte := []) : Pkt := pk ([0, 0, 0, 0] ++ leBytes 8 a ++ leBytes 4 64) data

theorem witness_ReadOutsChangeNothing :
    (LightInv readSt ∧ readSt.mem.wf ∧ readSt.mem.changing = none) ∧ Accepts readSt 0x0101 (pk []) ∧ Accepts readSt 0x0102 (pk []) ∧
      (Accepts readSt 0x0105 (pk [0, 0, 0]) ∧ paramSpec 0 = none) ∧
      (Accepts readSt 0x0105 (pk [0x00, 0x44, 1]) ∧ (paramSpec 0x4400).isSome = true) ∧
      (Accepts readSt 0x0212 (pk [0]) ∧ Accepts readSt 0x0212 (pk [3, 0, 0xFF, 0x3B, 0xBF, 0x21, 2]) ∧
        readSt.rmap.state.getD (pf (pk [0]) 0x14 1) .empty ≠ .ready ∧ readSt.rmap.state.getD 3 .empty = .ready) ∧
      Accepts readSt 0x0703 (pk []) ∧
      (Accepts readSt 0x0801 (memPk (ingestBase + 64)) ∧ memPoisoned readSt.mem (ingestBase + 64) 64 = true) ∧
      (Accepts readSt 0x0801 (memPk ingestBase) ∧ memPoisoned readSt.mem ingestBase 64 = false) ∧
      Accepts readSt 0x0901 (pk ([0, 0, 0, 0] ++ leBytes 8 0x80000000)) ∧
      Accepts readSt 0x0901 (pk ([0, 0, 0, 0] ++ leBytes 8 0x80000000 ++ leBytes 4 64)) := by and_intros <;> decide

/-- A cached scene whose plane is the first 256 bytes of the heap. -/
def heapLocked : State :=
  { inMode .flat with cfg := { (inMode .flat).cfg with
      cache := [(31, { planes := [(0, leBytes 4 (heapBase / 256) ++ [1, 0, 1, 0, 1, 0])] })] } }

/-- While the memory point changes. -/
def pointChanging : State := { inMode .flat with mem := { up.mem with changing := some (.p32, .p48) } }

theorem witness_MemWriteStoresItsData :
    (LightInv pointChanging ∧ Accepts pointChanging 0x0802 (memPk ingestBase (List.replicate 64 1)) ∧
      Accepts pointChanging 0x0801 (memPk ingestBase) ∧ pointChanging.mem.changing.isSome = true) ∧
    (LightInv heapLocked ∧ Accepts heapLocked 0x0802 (memPk heapBase (List.replicate 64 1)) ∧ heapLocked.mem.changing = none ∧
      isLocked heapLocked (heapBase + 255) 64 = true ∧ isLocked heapLocked (heapBase + 256) 64 = false) ∧
    (LightInv (inMode .flat) ∧ Accepts (inMode .flat) 0x0802 (memPk ingestBase (List.replicate 64 1)) ∧
      isLocked (inMode .flat) ingestBase 64 = false ∧ (inMode .flat).mem.wf) := by and_intros <;> decide

/-- A draft in LIGHTFIELD without a slot fails its check; one in FLAT passes. -/
theorem witness_CommitTakesItsSnapshot :
    (LightInv (inMode .lightfield) ∧ Accepts (inMode .lightfield) 0x0103 (pk []) ∧
      (commitChecks (inMode .lightfield) (snapshotOf (inMode .lightfield))).isSome = true) ∧
    (LightInv (inMode .flat) ∧ Accepts (inMode .flat) 0x0103 (pk []) ∧
      commitChecks (inMode .flat) (snapshotOf (inMode .flat)) = none) := by and_intros <;> decide

theorem witness_QueuedCommandsTakeTheirPlace :
    LightInv (inMode .flat) ∧ LightInv (inMode .test) ∧
      Accepts (inMode .flat) 0x0201 (pk [0xFF, 0x03] (List.replicate 32 0)) ∧ Accepts (inMode .flat) 0x0210 (pk [3] [0]) ∧
      Accepts (inMode .flat) 0x0412 (pk [31, 15, 4]) ∧ Accepts (inMode .flat) 0x0413 (pk [31, 15, 0xFF]) ∧
      Accepts (inMode .flat) 0x0501 (pk []) ∧ Accepts (inMode .flat) 0x0502 (pk []) ∧
      Accepts (inMode .flat) 0x0503 (pk []) ∧ Accepts (inMode .flat) 0x0504 (pk [15]) ∧
      Accepts (inMode .test) 0x0803 (pk [2]) := by and_intros <;> decide

/-- The other slot holds an image that verifies; a staging runs in `staged`. -/
def slotted : State :=
  { up with pwr := { up.pwr with slots := [([], true), ([], false)], svcSlots := [[], [], [], [1]] } }

def staged : State := { up with pwr := { up.pwr with fwTag := some (2, 1, []) } }

theorem witness_FirmwareAndServiceSlots :
    (LightInv staged ∧ Accepts staged 0x0B01 (pk [1]) ∧ staged.pwr.fwTag.isSome = true) ∧
    (LightInv slotted ∧ Accepts slotted 0x0B01 (pk [0]) ∧ slotted.pwr.fwTag = none ∧ slotted.pwr.runningSlot = 0 ∧
      Accepts slotted 0x0B01 (pk [1])) ∧
    (Accepts slotted 0x0B02 (pk [0]) ∧ slotGood slotted 0 = true ∧ Accepts slotted 0x0B02 (pk [1]) ∧
      slotGood slotted 1 = false) ∧
    (Accepts slotted 0x0F01 (pk [0] (List.replicate 32 0)) ∧
      svcStorable (pdata slotted (pk [0] (List.replicate 32 0))) = false) ∧
    (Accepts slotted 0x0F02 (pk [3]) ∧ slotted.pwr.svcSlots.getD 3 [] ≠ [] ∧ Accepts slotted 0x0F02 (pk [0]) ∧
      slotted.pwr.svcSlots.getD 0 [] = []) := by and_intros <;> decide

theorem leNat_leBytes4 (v : Nat) : leNat (leBytes 4 v) = v % 2 ^ 32 := by
  simp only [leBytes, leNat, BitVec.toNat_ofNat]; omega

theorem leBytes4_length (v : Nat) : (leBytes 4 v).length = 4 := rfl

/-- The data of a packet that carries it to a host address. -/
theorem pdata_pk (s : State) (ps d : List Byte) (h : d ≠ []) (hn : d.length < 2 ^ 32) : pdata s (pk ps d) = d := by
  cases d with
  | nil => exact absurd rfl h
  | cons b d =>
    have h2 : (d.length + 1) % 4294967296 = d.length + 1 := Nat.mod_eq_of_lt hn
    simp [pdata, pk, isLocal, padTo, plen, h2]

/-- A calibration file of zeros: its magic before them and its check behind. -/
def calBody : List Byte := [0x43, 0x4C] ++ List.replicate 622 0

def calFile : List Byte := calBody ++ leBytes 4 (crc32c calBody).toNat

theorem calBody_length : calBody.length = 0x270 := by rw [calBody, List.length_append, List.length_replicate]; rfl

theorem calFile_length : calFile.length = 628 := by rw [calFile, List.length_append, calBody_length]; rfl

theorem calFile_check : field calFile 0x270 4 = (crc32c (calFile.take 0x270)).toNat := by
  rw [calFile, List.take_left' calBody_length, field, List.drop_left' calBody_length, List.take_of_length_le (by simp [leBytes4_length]),
    leNat_leBytes4]
  exact Nat.mod_eq_of_lt (BitVec.isLt _)

def calRuns : State := { inMode .flat with therm := { up.therm with calRun := some {} } }

theorem witness_CalibrationCommands :
    (LightInv calRuns ∧ Accepts calRuns 0x0A01 (pk [] [0]) ∧ calRuns.therm.calRun.isSome = true ∧
      Accepts calRuns 0x0A03 (pk [0] (List.replicate 16 0))) ∧
    (LightInv (inMode .flat) ∧ (inMode .flat).mem.wf ∧ Accepts (inMode .flat) 0x0A01 (pk [] [0]) ∧
      (inMode .flat).therm.calRun = none ∧ (pdata (inMode .flat) (pk [] [0])).length ≠ 628 ∧
      Accepts (inMode .flat) 0x0A02 (pk []) ∧ Accepts (inMode .flat) 0x0A03 (pk [1])) ∧
    (Accepts (inMode .flat) 0x0A01 (pk [] calFile) ∧ (pdata (inMode .flat) (pk [] calFile)).length = 628 ∧
      field (pdata (inMode .flat) (pk [] calFile)) 0 2 = 0x4C43 ∧ field (pdata (inMode .flat) (pk [] calFile)) 0x270 4 =
        (crc32c ((pdata (inMode .flat) (pk [] calFile)).take 0x270)).toNat) := by
  rw [pdata_pk _ _ calFile (fun h => absurd (congrArg List.length h) (by rw [calFile_length]; decide)) (by rw [calFile_length]; decide), calFile_check, calFile_length]
  and_intros <;> first | rfl | decide +kernel

def recording : State := { inMode .flat with sil := { up.sil with running := true, frameOpen := true } }

theorem witness_SillageMarksAndFlushes :
    (LightInv up ∧ Accepts up 0x0903 (pk []) ∧ Accepts up 0x0904 (pk []) ∧ up.cond.mode = .parked) ∧
    (∀ s ∈ [{ inMode .flat with sil := { up.sil with flush := some {} } }], LightInv s ∧ Accepts s 0x0904 (pk []) ∧
      s.cond.mode ≠ .parked ∧ s.sil.stopped = false ∧ s.sil.flush.isSome = true) ∧
    (LightInv recording ∧ Accepts recording 0x0904 (pk []) ∧ recording.cond.mode ≠ .parked ∧ recording.sil.stopped = false ∧
      recording.sil.flush = none ∧ recording.sil.running = true ∧ recording.mem.wf ∧ recording.sil.recHead < recUnits) ∧
    (LightInv (inMode .flat) ∧ Accepts (inMode .flat) 0x0904 (pk []) ∧ (inMode .flat).sil.running = false) := by
  and_intros <;> decide

def stepPending : State := { up with tu := { up.tu with pendStep := true, pendOff := 2000000 } }

theorem witness_TimeCommands :
    (LightInv up ∧ Accepts up 0x0601 (pk [0]) ∧ up.tu.pendStep = false ∧ Accepts up 0x0602 (pk [])) ∧
    (LightInv stepPending ∧ Accepts stepPending 0x0601 (pk [0]) ∧ Accepts stepPending 0x0601 (pk [1]) ∧
      Accepts stepPending 0x0602 (pk []) ∧ stepPending.tu.pendStep = true) ∧
    (∀ s ∈ [{ up with tu := { up.tu with master := some {} } }], LightInv s ∧
      Accepts s 0x0603 (pk ([0, 0, 0, 0] ++ leBytes 6 0 ++ leBytes 4 999999999)) ∧ s.tu.master.isSome = true) ∧
    (Accepts up 0x0603 (pk ([0, 0, 0, 0] ++ leBytes 6 0 ++ leBytes 4 999999999)) ∧ up.tu.master = none) := by
  and_intros <;> decide

/-- TRIGGER_ARM parameters: an output and a descriptor. -/
def trigPk (n : Byte) (d : List Byte) : Pkt := pk ([n, 0, 0, 0] ++ d)

theorem witness_TriggerCommands :
    LightInv up ∧ (Accepts up 0x0610 (trigPk 23 [5]) ∧ trigBad (pbytes (trigPk 23 [5]) 0x18 40) = true) ∧
      (Accepts up 0x0610 (trigPk 23 []) ∧ trigBad (pbytes (trigPk 23 []) 0x18 40) = false ∧
        byteAt (pbytes (trigPk 23 []) 0x18 40) 0 ≠ 1) ∧
      Accepts up 0x0611 (pk [23]) ∧ Accepts up 0x0612 (pk [15, 1, 2, 255]) := by and_intros <;> decide

theorem witness_DebugLockCommands :
    (∀ s ∈ [{ up with dbg := { up.dbg with holdoff := true } }], LightInv s ∧ Accepts s 0x0B10 (pk []) ∧ s.dbg.holdoff = true) ∧
    LightInv up ∧ Accepts up 0x0B10 (pk []) ∧ up.dbg.holdoff = false ∧ Accepts up 0x0B11 (pk []) ∧ up.dbg.nonce = none ∧
    Accepts up 0x0B12 (pk []) ∧ up.dbg.unlocked = false := by and_intros <;> decide
/-- A service descriptor with one packet, GET_STATUS, and its check (R427). -/
def svcHead : List Byte := [0x53, 0x56, 1, 0, 1, 0, 0, 0] ++ List.replicate 20 0

def svcTail : List Byte := [0x02, 0x01] ++ List.replicate 62 0

def svcDesc : List Byte := svcHead ++ (leBytes 4 (crc32c (svcHead ++ svcTail)).toNat ++ svcTail)

theorem svcDesc_check : field svcDesc 0x1C 4 = (crc32c (svcDesc.take 0x1C ++ svcDesc.drop 0x20)).toNat := by
  have h1 : svcDesc.take 0x1C = svcHead := List.take_left' rfl
  have h2 : svcDesc.drop 0x20 = svcTail := by
    rw [svcDesc, ← List.append_assoc]
    exact List.drop_left' rfl
  rw [h1, h2, svcDesc, field, List.drop_left' (by rfl),
    List.take_left' (leBytes4_length _), leNat_leBytes4]
  exact Nat.mod_eq_of_lt (BitVec.isLt _)

theorem witness_ServiceStore :
    LightInv up ∧ Accepts up 0x0F01 (pk [3] svcDesc) ∧ svcStorable (pdata up (pk [3] svcDesc)) = true := by
  have hl : svcDesc.length = 96 := rfl
  refine ⟨by decide, by decide +kernel, ?_⟩
  rw [pdata_pk _ _ svcDesc (fun h => absurd (congrArg List.length h) (by rw [hl]; decide)) (by rw [hl]; decide),
    svcStorable, svcGood, svcDesc_check, beq_self_eq_true]
  decide +kernel

/-- A one-shot descriptor of a 10 ns pulse at 1 s. -/
def oneShot : List Byte := [1, 0, 0, 0, 1] ++ List.replicate 19 0 ++ [10]

theorem witness_TriggerArmOneShot :
    Accepts up 0x0610 (trigPk 0 oneShot) ∧ trigBad (pbytes (trigPk 0 oneShot) 0x18 40) = false ∧
      byteAt (pbytes (trigPk 0 oneShot) 0x18 40) 0 = 1 ∧
      up.tu.time + 10000 * nsUnit ≤ edgeTime { desc := pbytes (trigPk 0 oneShot) 0x18 40 } 0 ∧
      edgeTime { desc := pbytes (trigPk 0 oneShot) 0x18 40 } 0 <
        ({ up with tu := { up.tu with time := 10 ^ 9 * nsUnit } } : State).tu.time + 10000 * nsUnit ∧
      Accepts { up with tu := { up.tu with time := 10 ^ 9 * nsUnit } } 0x0610 (trigPk 0 oneShot) ∧
      LightInv { up with tu := { up.tu with time := 10 ^ 9 * nsUnit } } := by
  and_intros <;> decide +kernel

/-- Lengths of the SHA-256 pieces. -/
theorem shaTurn_length (v : List Word × List Word) (kw : Word) :
    (shaTurn v kw).1.length = v.1.length ∧ (shaTurn v kw).2.length = v.2.length := by
  unfold shaTurn
  split <;> simp

theorem shaTurns_length (l : List Word) (v : List Word × List Word) :
    (l.foldl shaTurn v).1.length = v.1.length ∧ (l.foldl shaTurn v).2.length = v.2.length := by
  induction l generalizing v with
  | nil => exact ⟨rfl, rfl⟩
  | cons a l ih =>
    obtain ⟨h1, h2⟩ := ih (shaTurn v a)
    obtain ⟨h3, h4⟩ := shaTurn_length v a
    exact ⟨h1.trans h3, h2.trans h4⟩

theorem shaFold_length (n : Nat) (bs : List Byte) (h : List Word) (hh : h.length = 8) : (shaFold n bs h).length = 8 := by
  induction n generalizing bs h with
  | zero => exact hh
  | succ n ih =>
    refine ih _ _ ?_
    simp only [shaBlock, List.length_zipWith, List.length_append]
    rw [(shaTurns_length _ _).1, (shaTurns_length _ _).2]
    simp [hh]

theorem flatMap4_length (l : List Word) : (l.flatMap (fun w => (leBytes 4 w.toNat).reverse)).length = 4 * l.length := by
  induction l with
  | nil => rfl
  | cons a l ih => simp [ih, leBytes4_length]; omega

theorem sha256_length (bs : List Byte) : (sha256 bs).length = 32 := by
  rw [sha256, flatMap4_length, shaFold_length _ _ _ rfl]

theorem padTo_self (n : Nat) (l : List Byte) (h : l.length = n) : padTo n l = l := by
  simp [padTo, h, List.take_of_length_le]

theorem dbgAnswer_length (n : Nat) : (dbgAnswer n).length = 32 := by
  rw [dbgAnswer, hmacSha256, sha256_length]

/-- A nonce awaits its attempt. -/
def challenged : State := { up with dbg := { up.dbg with nonce := some 0, nonces := 1 } }

/-- DEBUG_UNLOCK with the right response is accepted. -/
theorem unlock_accepted (a : List Byte) (hl : a.length = 32) : LightInv challenged ∧ challenged.dbg.nonce = some 0 ∧
    Accepts challenged 0x0B11 (pk ([0, 0, 0, 0] ++ a)) ∧
      pbytes (pk ([0, 0, 0, 0] ++ a)) 0x18 32 = a := by
  have hr : rsvdParams 0x0B11 (pk ([0, 0, 0, 0] ++ a)) = false := by
    rw [rsvdParams, List.any_eq_false]
    intro i hi
    have h44 : i < 44 := List.mem_range.1 hi
    match i, h44 with
    | 0, _ | 1, _ | 2, _ | 3, _ => simp [byteAt, pk, padTo]
    | k + 4, h =>
      by_cases h2 : k < 32
      · simp [opFields]; intro _; omega
      · have : k + 4 - 4 = k := by omega
        have h3 : (List.take 40 (a ++ List.replicate 8 0#8))[k]?.getD 0#8 = 0#8 := by
          rw [List.getElem?_take_of_lt (by omega), List.getElem?_append_right (by omega)]
          simp only [List.getElem?_replicate]
          split <;> rfl
        simp [byteAt, pk, padTo, hl, h3] at h3 ⊢
  refine ⟨by decide, rfl, ⟨rfl, fun _ => rfl, ?_, fun h => absurd h (by simp [pk])⟩, ?_⟩
  · have hm : pathMode challenged (pk ([0, 0, 0, 0] ++ a)) = .parked := rfl
    have h5 : check5 challenged 0x0B11 (pk ([0, 0, 0, 0] ++ a)) 63 = none := by
      simp only [check5, hm, show challenged.cond.bivouac = false from rfl, show challenged.cond.fault = false from rfl,
        show challenged.cond.shutdown = false from rfl]
      simp [modeCode]
      decide
    have h6 : check6 challenged 0x0B11 (pk ([0, 0, 0, 0] ++ a)) = none := by
      simp only [check6, hr]
      simp [addrBad, fieldsBad, opRanges, lengthBad, opImage, memRangeBad, pk, isLocal]
    have hf : flightOf challenged (ptag (pk ([0, 0, 0, 0] ++ a))) = none := rfl
    simp only [acceptCheck, hf, show opModes 0x0B11 = some 63 from rfl, h5, h6]
    simp [pk, show challenged.hif.ready = true from rfl]
  · simp [pbytes, pk, padTo, hl, List.take_take, List.take_left' hl]

theorem witness_DebugUnlock : LightInv challenged ∧ challenged.dbg.nonce = some 0 ∧
    Accepts challenged 0x0B11 (pk ([0, 0, 0, 0] ++ dbgAnswer 0)) ∧
      pbytes (pk ([0, 0, 0, 0] ++ dbgAnswer 0)) 0x18 32 = dbgAnswer 0 := unlock_accepted _ (dbgAnswer_length 0)

/-- The mode in force; a staged change; one that waits; LIGHTFIELD without a slot; and the start of a sequence. -/
theorem witness_ModeSetAnswersOrStarts :
    (LightInv up ∧ up.cond.seq = none ∧ Accepts up 0x0106 (pk [2]) ∧ modeOf 2 = up.cond.mode) ∧
    (LightInv (inMode .lightfield) ∧ Accepts (inMode .lightfield) 0x0106 (pk [1]) ∧ modeOf 1 = .flat ∧
      (inMode .lightfield).cond.mode = .lightfield) ∧
    (∀ s ∈ [{ inMode .flat with cfg := { (inMode .flat).cfg with commits := [{}] } }], LightInv s ∧
      Accepts s 0x0106 (pk [2]) ∧ stagedChange s.cond.mode .parked = false ∧ mustWait s = true) ∧
    (Accepts up 0x0106 (pk [0]) ∧ stagedChange up.cond.mode .lightfield = false ∧ mustWait up = false ∧
      (raymapCheck up { up.cfg.draft with mode := .lightfield }).isSome = true) ∧
    (∀ s ∈ [{ up with mem := { up.mem with point := .off } }], LightInv s ∧ Accepts s 0x0106 (pk [1]) ∧
      modeOf 1 ≠ s.cond.mode ∧ entrySteps s.cond.mode .flat = [7, 8] ∧ stepIdle 7 .flat s = false) := by and_intros <;> decide

def faulted : State := { up with cond := { up.cond with fault := true } }

def cool : State :=
  { up with cond := { up.cond with shutdown := true }, therm := { up.therm with ins := List.replicate 22 { hasRead := true } } }

theorem witness_ClearsFollowTheirConditions :
    (LightInv up ∧ Accepts up 0x0107 (pk []) ∧ up.cond.fault = false) ∧
    (∀ s ∈ [{ faulted with rot := { up.rot with state := .spinUp } }, { faulted with mem := { up.mem with chanFail := 1 } }],
      LightInv s ∧ Accepts s 0x0107 (pk []) ∧ s.cond.fault = true ∧
      (¬ (s.rot.state = .stopped ∨ s.rot.state = .freewheel) ∨ crackBad s = true ∨ s.mem.chanFail ≠ 0)) ∧
    (LightInv faulted ∧ Accepts faulted 0x0107 (pk []) ∧ faulted.cond.fault = true ∧ (faulted.rot.state = .stopped ∨ faulted.rot.state = .freewheel) ∧
      crackBad faulted = false ∧ faulted.mem.chanFail = 0 ∧ clockStillLost faulted = false ∧ faulted.blt.queue = []) ∧
    (Accepts up 0x0701 (pk []) ∧ up.cond.shutdown = false) ∧
    (∀ s ∈ [{ up with cond := { up.cond with shutdown := true } }], LightInv s ∧ Accepts s 0x0701 (pk []) ∧
      inMask (inHot s) ≠ 0) ∧
    (LightInv cool ∧ Accepts cool 0x0701 (pk []) ∧ cool.cond.shutdown = true ∧ inMask (inHot cool) = 0 ∧ cool.blt.queue = []) := by
  and_intros <;> decide

/-- The panel in a state, in TEST. -/
def panel (st : PnlState) : State := { inMode .test with pnl := { up.pnl with state := st } }

/-- The rotor in a state at a speed in 1/16 rpm, in TEST. -/
def rotor (st : RotState) (v : Nat) : State := { inMode .test with rot := { up.rot with state := st, speed16 := v } }

theorem witness_LinkPanelAndRotorCommands :
    (∀ s ∈ [{ inMode .flat with pnl := (panel .on).pnl, rot := { up.rot with angleValid := true } }],
      LightInv s ∧ Accepts s 0x0410 (pk []) ∧ s.cond.mode = .flat ∧ s.rot.angleValid = true) ∧
    (∀ s ∈ [{ inMode .service with pnl := (panel .on).pnl }], LightInv s ∧ Accepts s 0x0410 (pk []) ∧
      s.cond.mode = .service ∧ s.plt.state ≠ .training ∧ trainWaiting s = []) ∧
    (LightInv (panel .off) ∧ Accepts (panel .off) 0x0411 (pk [2, 0, 0, 0, 1] (List.replicate 32 0)) ∧
      (panel .off).plt.loopTag = none) ∧
    (∀ s ∈ [{ panel .off with plt := { up.plt with loopTag := some 2 } }], LightInv s ∧
      Accepts s 0x0411 (pk [2, 0, 0, 0, 1] (List.replicate 32 0))) ∧
    (∀ st ∈ [PnlState.on, .off, .discharging, .powering], LightInv (panel st) ∧ Accepts (panel st) 0x0414 (pk [1]) ∧
      Accepts (panel st) 0x0414 (pk [0]) ∧ (panel st).pnl.cmds = [] ∧ crackBad (panel st) = false ∧
      (panel st).plt.loopRes = none ∧ startedOf (panel st) 0x0410 = []) ∧
    (∀ s ∈ [{ panel .off with pnl := { up.pnl with crk := [.shorted, .ok] } }], LightInv s ∧ Accepts s 0x0414 (pk [1]) ∧
      s.pnl.state = .off ∧ crackBad s = true) ∧
    (∀ s ∈ [rotor .run 0, rotor .stopped 0, rotor .align 0, rotor .freewheel 959, rotor .freewheel 960, rotor .brake 4800],
      LightInv s ∧ Accepts s 0x0420 (pk []) ∧ Accepts s 0x0421 (pk []) ∧ startedOf s 0x0420 = [] ∧ startedOf s 0x0421 = []) := by
  and_intros <;> decide
/-- A JT-40 request with its check. -/
def jt (cmd : Nat) (payload : List Byte) : JtFrame :=
  let n := BitVec.ofNat 8 payload.length
  { sync := 0xA5, len := n, payload := payload, crc := crc8 (BitVec.ofNat 8 cmd :: n :: payload) }

def svc : State := inMode .service

theorem witness_Jt40FramesAreJudged :
    (jtRow (.jtNop (jt 1 [])) = some (1, 0, jt 1 []) ∧ LightInv svc ∧ JtHears svc (jt 1 []) ∧ jtCrcGood 1 (jt 1 []) = true ∧
      svc.cond.seq = none) ∧ up.cond.mode ≠ .service ∧
    (JtHears svc { jt 1 [] with crc := ~~~(jt 1 []).crc } ∧ jtCrcGood 1 { jt 1 [] with crc := ~~~(jt 1 []).crc } = false) ∧
    (∀ s ∈ [{ svc with cond := { svc.cond with seq := some {} } }], LightInv s ∧ JtHears s (jt 1 []) ∧ s.cond.seq.isSome = true) ∧
    (JtHears svc (jt 1 [0]) ∧ jtCrcGood 1 (jt 1 [0]) = true ∧ (jt 1 [0]).len.toNat ≠ 0) := by and_intros <;> decide +kernel

theorem witness_Jt40CommandsAct :
    LightInv svc ∧ JtHolds svc 0x01 0 (jt 0x01 []) ∧ JtHolds svc 0x02 0 (jt 0x02 []) ∧ JtHolds svc 0x40 0 (jt 0x40 []) ∧
      ((0x7F : Byte).toNat ∉ jtKnown ∧ JtHolds svc 0x7F 0 (jt 0x7F [])) ∧ JtHolds svc 0x20 1 (jt 0x20 [255]) ∧
      JtHolds svc 0x21 1 (jt 0x21 [2]) ∧ JtHolds svc 0x21 1 (jt 0x21 [1]) ∧ JtHolds svc 0x21 1 (jt 0x21 [0]) ∧
      JtHolds svc 0x30 1 (jt 0x30 [30]) ∧ JtHolds svc 0x30 1 (jt 0x30 [31]) ∧ JtHolds svc 0x31 1 (jt 0x31 [30]) ∧
      JtHolds svc 0x31 1 (jt 0x31 [31]) ∧ JtHolds svc 0x11 0 (jt 0x11 []) ∧ JtHolds svc 0x10 2 (jt 0x10 [4, 0]) ∧
      (JtHolds svc 0x50 4 (jt 0x50 [0, 0, 0, 0]) ∧ dispExtended (leNat (jt 0x50 [0, 0, 0, 0]).payload) = true) ∧
      (JtHolds svc 0x50 4 (jt 0x50 [0, 0, 0, 0x40]) ∧ dispExtended (leNat (jt 0x50 [0, 0, 0, 0x40]).payload) = false) := by
  and_intros <;> decide +kernel

/-- The commits of JT-40: with one pending, with a draft that is refused, and with one that passes. -/
theorem witness_JtCommits :
    (svc.cfg.commits = [] ∧ svc.cond.coast = false ∧
      commitChecks (onDraft (putParam 0x4400 160) svc) (snapshotOf (onDraft (putParam 0x4400 160) svc)) = none ∧
      commitChecks (onDraft (enableLayer 31 true) svc) (snapshotOf (onDraft (enableLayer 31 true) svc)) ≠ none) ∧
    (∀ s ∈ [{ svc with cfg := { svc.cfg with commits := [{}] } }], LightInv s ∧ JtHolds s 0x20 1 (jt 0x20 [0]) ∧ s.cfg.commits ≠ []) ∧
    (JtHolds svc 0x10 2 (jt 0x10 [0, 0]) ∧ scaler7Used svc.cfg.draft = false ∧ mirrorTarget svc = some (64, 4096, 2304) ∧
      (mirrorRect (camParam svc.cfg.draft 0 4) (camParam svc.cfg.draft 0 5) 4096 2304).isSome = true) := by
  and_intros <;> decide +kernel

/-- Queue 15 enabled with a ring of 16. -/
def queued : State :=
  { up with hif := { up.hif with queues := [(15, { log2 := 4, enable := true, phase := true })] } }

/-- A packet of an opcode that is not defined. -/
def raw (op : Half) (dep : Half) : RawPkt := { opcode := op, pkt := { pk [] with dep := dep } }

theorem witness_QueueRegistersFetchPackets :
    (LightInv queued ∧ live queued = true ∧ QuietPaths queued) ∧ (queueOf queued 0).enable = false ∧
    ((queueOf queued 15).enable = true ∧ (queueOf queued 15).log2 = 4 ∧ 2 ^ 4 ≤ (16 : Word).toNat % 2048 ∧
      (15 : Word).toNat % 2048 < 2 ^ 4) ∧
    (∀ s ∈ [{ queued with
        hif := { queued.hif with queues := [(15, { log2 := 4, enable := true, unsignalled := true })] }
        intc := { up.intc with msixMask := 0 } }],
      LightInv s ∧ (queueOf s 15).unsignalled = true ∧ s.intc.fnMask = false ∧ s.intc.msixMask.getLsbD 15 = false) ∧
    (starting queued = false ∧ pathOpen queued 15 = true ∧ hasRoom queued 15 = true ∧
      (1 : Word).toNat % 2048 = ((queueOf queued 15).sqTail + 1) % 2 ^ 4 ∧
      (acceptCheck queued 0xFFFF { (raw 0xFFFF 0).pkt with path := 15 }).isSome = true) ∧
    (∀ s ∈ [flying queued [fl 0x0803 (pkt 2 [])]], LightInv s ∧ QuietPaths s ∧ hasRoom s 15 = true ∧
      acceptCheck s 0x0903 { (raw 0x0903 0x202).pkt with path := 15 } = none ∧ (raw 0x0903 0x202).pkt.dep.getLsbD 9 = true ∧
      (flightOf s ((raw 0x0903 0x202).pkt.dep.toNat % 512)).isSome = true) := by and_intros <;> decide

/-- A message of the first port, and the state that takes it. -/
def msg (ty : Byte) (count : Half) (n : Nat) : EthMsg :=
  { port := 0, srcMac := 1, version := 1, type := ty, count := count, seq := 7, offset := 0, ack := 0, payloadLen := n }

def ethSt : State := { up with cfg := { up.cfg with params := [(0x0100, 1)] } }

theorem witness_EthernetAndMailboxCarryPackets :
    (LightInv State.reset ∧ State.reset.tu.running = false) ∧
    (∀ s ∈ [{ up with cond := { up.cond with bivouac := true } }], LightInv s ∧ s.tu.running = true ∧ ethUp s = false) ∧
    (LightInv up ∧ ethUp up = true ∧ ethFrom up { msg 2 0 20 with port := 3 } = false) ∧
    (LightInv ethSt ∧ ethUp ethSt = true ∧ EthGood ethSt (msg 2 0 20) ∧ 256 * (msg 2 0 20).offset.toNat + 4 ≤ ingestSize) ∧
    (EthGood ethSt (msg 1 1 80) ∧ (acceptCheck ethSt 0xFFFF { (raw 0xFFFF 0).pkt with path := 16 }).isSome = true) ∧
    (∀ s ∈ [{ up with hif := { up.hif with mbxBusy := true } }], LightInv s ∧ live s = true ∧ s.hif.mbxBusy = true) ∧
    (live up = true ∧ up.hif.mbxBusy = false ∧ pathOpen up 17 = true ∧
      (acceptCheck up (bytesPacket 17 (up.hif.mbxCmd.flatMap (fun w => leBytes 4 w.toNat))).1
        (bytesPacket 17 (up.hif.mbxCmd.flatMap (fun w => leBytes 4 w.toNat))).2).isSome = true) := by and_intros <;> decide

/-- MEM_TESTs in flight: one whose dependency has failed, one whose dependency is met. -/
def depSt : State :=
  { flying up [{ op := 0x0803, p := pkt 3 [], dep := .failed }, { op := 0x0803, p := pkt 4 [], dep := .met },
      { op := 0x0501, p := pkt 5 [], dep := .failed }, { op := 0x0210, p := pkt 6 [], dep := .failed }] with
    blt := { up.blt with queue := [{ tag := 5, op := 0x0501, dep := .failed }] } }

theorem witness_DependenciesAndEndpointResets :
    (LightInv depSt ∧ live depSt = true ∧ flightOf depSt 0 = none) ∧
    ((flightOf depSt 3).map (fun f => (f.started, f.dep, f.silent, f.ext, f.op)) = some (false, .failed, false, false, 0x0803)) ∧
    (∀ b ∈ depSt.blt.queue, b.tag ≠ 3) ∧ (∃ b ∈ depSt.blt.queue, b.tag = 5) ∧
    ((flightOf depSt 5).map (fun f => (f.started, f.dep, f.silent, f.ext)) = some (false, .failed, false, false)) ∧
    ((flightOf depSt 6).map (fun f => (f.started, f.dep, f.silent, f.ext, f.op)) = some (false, .failed, false, false, 0x0210)) ∧
    ((flightOf depSt 4).map (fun f => (f.started, f.dep, f.op)) = some (false, .met, 0x0803)) ∧
    depSt.hif.fwUp = true ∧ depSt.hif.linkUp = false := by and_intros <;> decide

/-- Interrupts: source 24 pending at vector 16, source 25 active at vector 17, source 26 active in core 3. -/
def intcSt : State :=
  { up with intc := { up.intc with
      hroute := [(24, 0x40), (25, 0x41), (26, 0x40)], hpend := [24], active := [(17, 25)], croute := [(24, 0), (26, 3)], cpend := [24]
      cactive := [(3, 26)], pba := 1, wakeLatch := [24] } }

theorem witness_RegisterAccesses :
    LightInv up ∧ live up = true ∧ windowCtrs ≠ [] ∧ up.intc.extCfg.length = 2 := by and_intros <;> decide

theorem witness_InterruptControllerEvents :
    (LightInv intcSt ∧ live intcSt = true) ∧
    (tget? intcSt.intc.active 16 = none ∧ lowestAt (wakeDomain intcSt) 16 = some 24) ∧
    ((tget? intcSt.intc.active 17).isSome = true ∧ lowestAt (wakeDomain intcSt) 31 = none) ∧
    (tget? intcSt.intc.active 17 = some ((25 : Word).toNat % 256) ∧ tget? intcSt.intc.active 31 ≠ some ((25 : Word).toNat % 256)) ∧
    (intcSt.intc.asleep = false ∧ tget? intcSt.intc.cactive 0 = none ∧ lowestAtCore intcSt 0 = some 24 ∧
      tget? intcSt.intc.cactive 3 = some 26) ∧
    (intcSt.intc.pba.getLsbD 0 = true ∧ intcSt.intc.fnMask = false) ∧ intcSt.intc.gpio.length = 2 ∧
    (intcSt.hif.ready = true ∧ intcSt.cond.mode = .parked ∧ intcSt.cond.bivouac = false ∧ intcSt.cond.coast = false ∧
      intcSt.cond.seq = none) ∧
    (∀ s ∈ [{ intcSt with intc := { intcSt.intc with asleep := true } }], LightInv s ∧ live s = true ∧ s.intc.asleep = true ∧
      s.intc.wakeLatch ≠ []) := by and_intros <;> decide

/-- The debug port open, core 3 halted, a breakpoint of core 0 set. -/
def dbgSt : State :=
  { inMode .test with dbg := { up.dbg with unlocked := true, halted := 8, brk := [(breakAddr 0 5, 1)] } }

theorem witness_TapAndDebugAccesses :
    (LightInv up ∧ up.dbg.holdoff = false ∧ up.dbg.unlocked = false ∧ up.dbg.nonce = none) ∧
    (∀ s ∈ [{ up with dbg := { up.dbg with holdoff := true } }], LightInv s ∧ s.dbg.holdoff = true ∧ startedOf s 0x0B10 = []) ∧
    (LightInv dbgSt ∧ dbgSt.dbg.unlocked = true ∧ dbgSt.cond.mode = .test ∧ memServed dbgSt = true ∧ 0 < silBase ∧
      isHalted dbgSt 3 = true ∧ isHalted dbgSt 0 = false ∧ live dbgSt = true ∧ tget dbgSt.dbg.brk (breakAddr 0 5) 0 ≠ 0) ∧
    (LightInv challenged ∧ challenged.dbg.nonce = some 0 ∧ padTo 32 (dbgAnswer 0) = dbgAnswer 0) := by
  refine ⟨?_, ?_, ?_, ?_, ?_, padTo_self 32 _ (dbgAnswer_length 0)⟩
  all_goals decide
/-- FLAT with the angle valid. -/
def turning : State := { inMode .flat with rot := { up.rot with angleValid := true } }

/-- A commit of command 1 that changes the set. -/
def aCommit : PendingCommit := { tag := 1, snap := { set := (inMode .flat).cfg.active } }

/-- The same pending. -/
def committing (s : State) : State :=
  { flying s [fl 0x0103 (pk [])] with cfg := { s.cfg with commits := [aCommit] } }

theorem witness_FramesBeginAndCommitsTakeEffect :
    (∀ s ∈ [{ turning with rot := { turning.rot with fired := [eventKey 0 32768] } },
        { turning with rot := { turning.rot with angle := 32832 } }], LightInv s ∧ live s = true ∧ NoModeSets s ∧
      angleDue 0 32768 s = false) ∧
    (angleDue 0 32768 turning = true ∧
      ∀ s ∈ [{ turning with rot := { turning.rot with angle := 32831 } }], angleDue 0 32768 s = true) ∧
    (∀ s ∈ [{ up with rot := { up.rot with angleValid := true } }], LightInv s ∧ live s = true ∧ NoModeSets s ∧
      s.rot.angleValid = true ∧ s.cfg.commits = [] ∧ s.cond.mode = .parked ∧ angleDue 0 32768 s = true) ∧
    (∀ s ∈ [{ turning with cond := { turning.cond with bivouac := true } }, { turning with mem := State.reset.mem }],
      LightInv s ∧ live s = true ∧ NoModeSets s ∧ (s.cond.bivouac = true ∨ memServed s = false) ∧
      angleDue 0 32768 s = true) ∧
    (LightInv turning ∧ live turning = true ∧ NoModeSets turning ∧ turning.cfg.commits = [] ∧ turning.cond.mode ≠ .parked ∧
      turning.cond.bivouac = false ∧ memServed turning = true ∧ turning.cond.coast = false ∧ turning.acc.comp = none) ∧
    (∀ s ∈ [{ turning with acc := { up.acc with comp := some {} } }], LightInv s ∧ s.acc.comp ≠ none) ∧
    (LightInv (committing turning) ∧ NoModeSets (committing turning) ∧
      OneCommit (committing turning) aCommit (fl 0x0103 (pk [])) ∧
      (rev (angleTo 32768 (committing turning)) + 65536 - aCommit.snap.minRev) % 65536 < 32768) ∧
    (LightInv (inMode .flat) ∧ (inMode .flat).rot.angleValid = false ∧ Settled (inMode .flat) ∧
      (inMode .flat).sil.running = false ∧ (inMode .flat).pnl.state ≠ .on) ∧
    (LightInv (committing (inMode .flat)) ∧ Settled (committing (inMode .flat)) ∧
      OneCommit (committing (inMode .flat)) aCommit (fl 0x0103 (pk [])) ∧ aCommit.snap.set.mode = .flat) ∧
    (∀ s ∈ [turning, { turning with sil := { up.sil with running := true } }], LightInv s ∧ Settled s ∧ s.mem.wf ∧
      s.sil.recHead < recUnits ∧ s.sil.skipFrame = false) := by and_intros <;> decide

/-- LIGHTFIELD with the panel on, facet 0 rendered into buffer 0 and shown, facet 3 shown from before. -/
def showing : State :=
  { inMode .lightfield with
    rot := { up.rot with angleValid := true }
    pnl := { up.pnl with state := .on }
    ray := { up.ray with running := true, shown := [some 0, none, none, some 1], done := [true, false, false, false] } }

/-- The same with a render of facet 1. -/
def rendering : State := { showing with ray := { showing.ray with render := some { facet := 1, buf := 2 } } }

/-- A descriptor with ENABLE set. -/
def onPlane : List Byte := padTo 32 (List.replicate 11 0 ++ [4])

/-- A set with two notes that may merge, and the flat of the first. -/
def twoNotes : ConfigSet :=
  { showing.cfg.active with
    params := [(0x2000, 4)], planes := (List.range 4).map (fun k => (k, onPlane))
    notes := [{ first := 0, last := 1, cls := 2 }, { first := 2, last := 3, cls := 2 }] }

def mergeable : State :=
  { showing with ray := { showing.ray with
      render := some { facet := 1, set := twoNotes }, flats := (mergeList twoNotes).map (flatRec twoNotes) } }

theorem witness_FacetsStartRepeatOrGoDark :
    (LightInv showing ∧ hasFacet showing 0 = true ∧ hasFacet showing 3 = true ∧ canShow showing = true ∧
      renderDone showing 0 = true ∧ renderDone showing 3 = false ∧ showing.ray.render = none ∧
      showing.sco.awaiting ≠ some 0) ∧
    (∀ j ∈ [0, 3], angleDue 1 (16384 * j) showing = true ∧ angleDue 2 (16384 * j + 2048) showing = true ∧
      ∀ s ∈ [{ showing with rot := { showing.rot with fired := [eventKey 1 (16384 * j), eventKey 2 (16384 * j + 2048)] } }],
        LightInv s ∧ angleDue 1 (16384 * j) s = false ∧ angleDue 2 (16384 * j + 2048) s = false) ∧
    (∀ s ∈ [{ showing with cond := { showing.cond with coast := true } }], LightInv s ∧ canShow s = false ∧
      angleDue 1 0 s = true) ∧
    (∀ s ∈ [{ showing with sco := { up.sco with awaiting := some 3 } }], LightInv s ∧ s.sco.awaiting = some 3 ∧
      canShow s = true ∧ s.sco.barred = false ∧ (shownOf s 3).isSome = true) ∧
    (∀ s ∈ [{ showing with sco := { up.sco with awaiting := some 2 } }], LightInv s ∧ hasFacet s 2 = true ∧
      s.sco.awaiting = some 2 ∧ (shownOf s 2).isSome = false ∧ angleDue 2 (16384 * 2 + 2048) s = true) ∧
    (∀ s ∈ [{ showing with sco := { up.sco with awaiting := some 3, barred := true } }], LightInv s ∧ s.sco.barred = true) ∧
    (LightInv rendering ∧ hasFacet rendering 1 = true ∧ angleDue 2 (16384 * 1 + 2048) rendering = true ∧
      rendering.ray.render = some { facet := 1, buf := 2 }) ∧
    (∀ s ∈ [{ showing with sco := { up.sco with flat := true } }], LightInv s ∧ ∀ j ∈ [1, 3], flatFacet s j = true ∧
      angleDue 1 (16384 * j) s = true) ∧
    (∀ s ∈ [{ inMode .flat with rot := showing.rot, pnl := showing.pnl }], LightInv s ∧
      rayTurn s (facetAhead (65535 % 65536)) = true ∧ renderFlat s = true ∧ facetAhead (65535 % 65536) = 0) ∧
    (rendering.ray.shown.length = 4 ∧ rendering.mem.wf ∧ renderPos 1 16383 < 18432) ∧
    (∀ b ∈ [false, true], ∀ s ∈ [{ rendering with sco := { up.sco with awaiting := some 1, barred := b } }], LightInv s ∧
      canShow s = true ∧ s.sco.barred = b) ∧
    (∀ j ∈ [0, 1, 2, 3], angleDue 3 (pickAtk j) showing = true ∧ angleDue 4 (deadlineAtk j) showing = true ∧
      ∀ s ∈ [{ showing with rot := { showing.rot with fired := [eventKey 3 (pickAtk j), eventKey 4 (deadlineAtk j)] } }],
        LightInv s ∧ angleDue 3 (pickAtk j) s = false ∧ angleDue 4 (deadlineAtk j) s = false) ∧
    (showing.rot.angleValid = true ∧ showing.cond.coast = false ∧ showing.acc.comp = none) ∧
    (∀ j ∈ [0, 3], ∀ s ∈ [{ showing with acc := { up.acc with comp := some { facet := j } } }], LightInv s ∧
      s.acc.comp = some { facet := j } ∧ s.acc.queuedFrame = false) := by and_intros <;> decide

/-- An escalation that is late and one that is not. -/
theorem witness_GovEscalation :
    LightInv mergeable ∧ (mergeList twoNotes)[0]? = some 1 ∧ flatValid mergeable twoNotes 1 = true ∧
      mergeable.ray.render = some { facet := 1, set := twoNotes } ∧ setParam twoNotes 0x4001 = 0 ∧
      0 < (levelLimits twoNotes).2 ∧ checkDue { facet := 1, set := twoNotes } 16200 = true ∧
      checkDue { facet := 1, set := twoNotes } 16199 = false ∧ checkDue { checked := 113400 } 129600 = false ∧
      projectsLate { facet := 1, set := twoNotes } (16383 % 65536) 16200 = true ∧
      projectsLate { facet := 1, set := twoNotes } (0 % 65536) 16200 = false := by and_intros <;> decide
/-- The rotor in RUN at 3,500 rpm, and lit rows allowed. -/
def lighting : State :=
  { showing with
    rot := { up.rot with state := .run, angleValid := true, speed16 := 56000, litOk := true }
    sco := { up.sco with row := 4320 } }

/-- Zone row 7 in a pulse, zone 127 with three equal verdicts. -/
def lit : State :=
  { lighting with bl := { up.bl with
      lit := [false, false, false, false, false, false, false, true], sinkOn := 2 ^ 127, verdict := [(127, (.opened, 3))] } }

/-- The last slot of a facet that shows no buffer. -/
def inSlotSt : State := { showing with sco := { up.sco with scanning := true, inSlot := true, row := 4319 } }

theorem lateQuadrants_none {l : List (LinkFrame × Bool × Nat)}
    (h : ∀ e ∈ l, e.2.1 = false) : lateQuadrants l = 0 := by
  have hq (q : Nat) : l.any (fun e => e.2.1 && laneQuadrant e.1.link == q) = false := by
    rw [List.any_eq_false]
    intro e he
    simp [h e he]
  simp [lateQuadrants, hq, List.range, List.range.loop, bit]

theorem lateQuadrants_first {l : List (LinkFrame × Bool × Nat)} {e : LinkFrame × Bool × Nat} (he : e ∈ l)
    (h : e.2.1 = true) (hl : laneQuadrant e.1.link = 0) : lateQuadrants l ≠ 0 := by
  have h0 : l.any (fun e => e.2.1 && laneQuadrant e.1.link == 0) = true := List.any_eq_true.2 ⟨e, he, by simp [h, hl]⟩
  simp only [lateQuadrants, List.range, List.range.loop, List.map, h0]
  generalize l.any (fun e => e.2.1 && laneQuadrant e.1.link == 1) = b1
  generalize l.any (fun e => e.2.1 && laneQuadrant e.1.link == 2) = b2
  generalize l.any (fun e => e.2.1 && laneQuadrant e.1.link == 3) = b3
  cases b1 <;> cases b2 <;> cases b3 <;> decide

theorem laneSent_whole (s : State) (lane row : Nat) (h : s.sco.buf = none) : (laneSent s [] lane row).2 = false := by
  simp [laneSent, laneValues, scanValue, h, List.any_eq_false]

theorem laneLatched_whole (s : State) (lane row : Nat) (h : s.sco.buf = none) (hv : s.rot.speed16 = 0) :
    (laneLatched s [] row lane).2.1 = false := by
  simp [laneLatched, laneSent_whole s lane row h, cutPacket, hv]

theorem laneLatched_late (s : State) (row : Nat) : (laneLatched s [(0, 0, 1)] row 0).2.1 = true := by
  have h : (laneSent s [(0, 0, 1)] 0 row).2 = true := by
    simp only [laneSent, laneValues]
    rw [List.any_eq_true]
    refine ⟨_, List.mem_of_getElem (i := 0) (h := by simp) rfl, ?_⟩
    simp
  simp [laneLatched, h]

theorem laneLatched_link (s : State) (row l : Nat) (m) : (laneLatched s m row l).1.link = l := by
  simp only [laneLatched, cutPacket]
  split <;> rfl

theorem witness_RowsAndZonesFollowTheScan :
    (∀ s ∈ [{ showing with sco := { up.sco with scanning := true, row := 4319 }, plt := { up.plt with state := .l0 } }], LightInv s ∧ live s = true ∧
      canShow s = true ∧ s.sco.scanning = true ∧ s.sco.inSlot = false ∧ s.sco.row < 4320 ∧ s.plt.state = .l0) ∧
    (∀ s ∈ [{ up with sco := { up.sco with scanning := true }, plt := { up.plt with state := .l0 } }], LightInv s ∧
      live s = true ∧ canShow s = false ∧ s.sco.inSlot = false ∧ s.sco.row < 4320 ∧ s.plt.state = .l0) ∧
    (LightInv inSlotSt ∧ inSlotSt.sco.scanning = true ∧ inSlotSt.sco.inSlot = true ∧ live inSlotSt = true ∧
      inSlotSt.sco.underrunSeen = false) ∧
    lateQuadrants ((List.range 256).map (laneLatched inSlotSt [] inSlotSt.sco.row)) = 0 ∧
    lateQuadrants ((List.range 256).map (laneLatched inSlotSt [(0, 0, 1)] inSlotSt.sco.row)) ≠ 0 ∧
    (LightInv up ∧ l1sDue up = false ∧ up.plt.state ≠ .l1s) ∧
    (∀ s ∈ [{ showing with
        plt := { up.plt with state := .l0, blankL1s := true }, sco := { up.sco with row := 4320, startOfs := 2048 } }],
      LightInv s ∧ s.rot.angleValid = true ∧ l1sDue s = true ∧ angleDue 6 (l1sEntryAtk s) s = true) ∧
    (∀ s ∈ [{ showing with plt := { up.plt with state := .l1s } }], LightInv s ∧ s.rot.angleValid = true ∧
      s.plt.state = .l1s ∧ angleDue 7 (l1sExitAtk s) s = true) ∧
    (LightInv lighting ∧ (pulseStart lighting 7).isSome = true ∧ live lighting = true ∧ lighting.rot.angleValid = true ∧
      lighting.bl.pulsed.getD 7 0 ≠ quarter lighting ∧ mayLight lighting = true ∧ lighting.sco.isDark = false ∧
      lighting.bl.lit.length = 8 ∧ lighting.bl.current.length = 128 ∧ lighting.bl.dac.length = 128) ∧
    (∀ s ∈ [{ lighting with sco := { lighting.sco with isDark := true } }], LightInv s ∧ (pulseStart s 7).isSome = true ∧
      s.bl.pulsed.getD 7 0 ≠ quarter s ∧ s.sco.isDark = true) ∧
    (LightInv lit ∧ lit.bl.lit.getD 7 false = true ∧ 3 ≤ (tget lit.bl.verdict 127 (SinkFault.okay, 0)).2 ∧
      lit.bl.fault.getLsbD 127 = false ∧ lit.bl.sinkOn.getLsbD 127 = true) := by
  refine ⟨?_, ?_, ?_, lateQuadrants_none ?_, lateQuadrants_first (List.mem_map.2 ⟨0, by decide, rfl⟩) (laneLatched_late _ _)
    (by rw [laneLatched_link]; rfl), ?_⟩
  rotate_left 3
  · intro e he
    obtain ⟨l, -, rfl⟩ := List.mem_map.1 he
    exact laneLatched_whole _ _ _ rfl rfl
  all_goals first | decide +kernel | (and_intros <;> decide +kernel)

/-- Port 3 receives frames of two by one pixels in YUV 4:2:2, with or without a frame in arrival. -/
def cam (rx : Option CamRx) : CamPort :=
  { receiving := true, params := [4, 1500, 1, 0x1E, 2, 1, 0], rx := rx }

def camSt (rx : Option CamRx) : State := { up with acc := { up.acc with ports := [{}, {}, {}, cam rx] } }

theorem witness_CameraPortsReceiveFrames :
    (∀ rx ∈ [none, some {}, some { ended := true }, some { lines := 1 }, some { damaged := true }], LightInv (camSt rx) ∧
      (camSt rx).acc.ports.length = 4 ∧ (camSt rx).acc.ports.getD 3 {} = cam rx ∧ (cam rx).receiving = true) ∧
    (pVc (cam none) = 1 ∧ pDt (cam none) = 0x1E ∧ lineBytes 0x1E (pW (cam none)) = 4 ∧ pH (cam none) = 1 ∧
      up.mem.changing = none) := by and_intros <;> decide

/-- A SCENE_LOAD of 32 bytes waits. -/
def loading : State :=
  { flying (inMode .flat) [fl 0x0201 (pk [1] (List.replicate 32 0))] with sdec := { up.sdec with waiting := [1] } }

/-- A raw block of four bytes for plane 0 of scene 7, its header check written out (R77, R78). -/
def nzHead : List Byte :=
  [0x5A, 0x4E, 1, 1] ++ leBytes 4 4 ++ leBytes 4 4 ++ leBytes 4 0 ++ leBytes 4 7 ++ [0, 0, 0, 0] ++ leBytes 4 0

/-- The draft's plane 0 is of scene 7. -/
def plane7 : ConfigSet :=
  { (inMode .flat).cfg.draft with
    params := [(0x2000, 1)], planes := [(0, padTo 32 ([0, 0, 0, 0, 1, 0, 1, 0, 1, 0, 0, 4] ++ List.replicate 8 0 ++ [7]))] }

/-- A decoder at work on a stream, with its blocks. -/
def parsing (stream : List Byte) (blocks : List BlockRec) : State :=
  { loading with
    cfg := { loading.cfg with draft := plane7 }
    sdec := { up.sdec with jobs := [{ tag := 1, stream := stream }], blocks := blocks } }

/-- Its header with the check, and a block of it. -/
def nzHeader : List Byte := nzHead ++ leBytes 4 0xFF15A2DF

def nzBlockOf (e : Option Nat) : BlockRec := { tag := 1, header := nzHeader, ulen := 4, plen := 4, engine := e }

/-- A command with no marks meets `MarksOf` for either kind. -/
theorem marksOf_none {s : State} {tag : Nat} (h : (flightOf s tag).map (·.marks) = some []) (b : Bool) : MarksOf s tag b := by
  intro f hf m hm
  simp [hf] at h
  simp [h] at hm

/-- The same with plane 0 of the active set over the block's bytes. -/
def lockedUnder (s : State) : State :=
  { s with cfg := { s.cfg with active := { s.cfg.active with
      params := [(0x2000, 1)], planes := [(0, padTo 32 [0, 0, 0, 0, 1, 0, 1, 0, 1, 0, 0, 4])] } } }

theorem witness_SceneDecoderTakesBlocks :
    (LightInv loading ∧ sdecRuns loading = true ∧ loading.sdec.jobs.length < 8 ∧ oldestLoad loading = some 1 ∧
      (flightOf loading 1).isSome = true) ∧
    (LightInv loading ∧ (turnJob loading).map (·.tag) ≠ some 1) ∧
    (∀ st ∈ [([] : List Byte), List.replicate 31 0], LightInv (parsing st []) ∧ sdecRuns (parsing st []) = true ∧
      turnJob (parsing st []) = some { tag := 1, stream := st } ∧
      (parsing st []).sdec.jobs.find? (fun x => x.tag == 1) = some { tag := 1, stream := st } ∧
      ((st.drop 0).take 32).length < 32) ∧
    (streamPoisoned (parsing (List.replicate 32 0) []) 1 0 32 = false ∧
      (crc32c (((List.replicate 32 0 : List Byte).drop 0).take 28)).toNat ≠ nzHcheck (List.replicate 32 0)) ∧
    (LightInv (parsing (nzHeader ++ [1, 2, 3, 4]) []) ∧
      ∀ s ∈ [parsing (nzHeader ++ [1, 2, 3, 4]) []], nzHeader.length = 32 ∧ streamPoisoned s 1 0 32 = false ∧
        (crc32c (nzHeader.take 28)).toNat = nzHcheck nzHeader ∧ nzWellFormed nzHeader = true ∧
        carryPlane s (nzPlane nzHeader) = false ∧ nzPlane nzHeader < planeCount s.cfg.draft ∧
        nzScene nzHeader = dScene (planeOf s.cfg.draft (nzPlane nzHeader)) ∧
        nzDest nzHeader * 256 + nzUlen nzHeader ≤ dLen (planeOf s.cfg.draft (nzPlane nzHeader)) ∧
        isLocked s (loadBuf s (nzPlane nzHeader) + nzDest nzHeader * 256) (nzUlen nzHeader) = false) ∧
    (∀ s ∈ [parsing [] [nzBlockOf none]], LightInv s ∧ (∀ f ∈ s.hif.flights, f.op ≠ 0x0202) ∧
      (∀ x ∈ s.sdec.blocks, x.held = false) ∧ freeEngine s = some 0 ∧
      s.sdec.blocks.find? (fun b => b.tag == 1 && b.engine.isNone && !b.held && !blockWaits s b) = some (nzBlockOf none) ∧
      isLocked s 0 4 = false) ∧
    (∀ e ∈ [none, some 15], ∀ s ∈ [lockedUnder (parsing [] [nzBlockOf e])], LightInv s ∧ sdecRuns s = true ∧
      isLocked s 0 4 = true ∧
      s.sdec.blocks.find? (fun b => b.tag == 1 && !b.held && !blockWaits s b) = some (nzBlockOf e)) ∧
    (∀ s ∈ [parsing (nzHeader ++ [1, 2, 3, 4]) [nzBlockOf (some 15)]], LightInv s ∧
      (flightOf s 1).map (·.marks) = some [] ∧ isLocked s 0 4 = false ∧
      (s.sdec.blocks.find? (fun b => b.engine == some 15)).isSome = true ∧ streamPoisoned s 1 32 4 = false ∧
      nzDecode (nzRaw nzHeader) 4 (blockPayload s (nzBlockOf (some 15))) = (St.ok, [1, 2, 3, 4]) ∧
      (crc32c [1, 2, 3, 4]).toNat ≠ nzDcheck nzHeader) ∧
    (∀ s ∈ [{ inMode .flat with cfg := { up.cfg with carry := [{}] } }], LightInv s ∧ sdecRuns s = true ∧
      s.cfg.carry ≠ [] ∧ s.cfg.outgoing = none ∧ s.cfg.carryRun = false) ∧
    (∀ s ∈ [{ inMode .flat with cfg := { up.cfg with carry := [{}], carryRun := true } }], LightInv s ∧ sdecRuns s = true ∧
      s.cfg.carry = [{}] ∧ s.cfg.carryRun = true ∧ s.cfg.outgoing = none) ∧
    (∀ b ∈ [false, true], ∀ s ∈ [{ inMode .flat with
        cfg := { up.cfg with carry := [{ free := b }], carryRun := true, outgoing := some {} } }], LightInv s ∧
      sdecRuns s = true ∧ s.cfg.outgoing.isSome = true) := by
  and_intros <;> decide +kernel

/-- A raw capture job with one block to go, and one at its end. -/
def capturing (pos : Nat) : State := { inMode .flat with sdec := { up.sdec with cenc := [{ input := [0], pos := pos, units := 1, raw := true, rows := [(0, 1)] }] } }

/-- A Blitter operation at the head of the queue, its command in flight. -/
def blitting (op : Nat) (d : List Byte) (run : Bool) : State :=
  { flying (inMode .flat) [fl op (pk [])] with
    mem := { up.mem with poison := [0] }, blt := { up.blt with queue := [{ tag := 1, op := op, desc := padTo 40 d }], running := run } }

/-- A copy of one pixel at address 0, and a fill of one pixel. -/
def copyOne : List Byte := padTo 40 (2 :: List.replicate 17 0 ++ [1, 0, 1, 0])

def fillOne : List Byte := padTo 40 ([1, 0, 0, 0, 0, 0, 0, 0, 0, 0, 0, 0x18, 1, 0, 0, 0, 0, 0, 1, 0, 1])

theorem witness_EncoderAndBlitterRun :
    (∀ n ∈ [0, 1], LightInv (capturing n) ∧ sdecRuns (capturing n) = true ∧
      ∀ j ∈ (capturing n).sdec.cenc, j.units ≠ 0 ∧ cencPoisoned (capturing n) j = false) ∧
    (∀ s ∈ [{ capturing 0 with mem := { up.mem with poison := [0] } }], LightInv s ∧ sdecRuns s = true ∧
      ∀ j ∈ s.sdec.cenc, j.pos < j.input.length ∧ cencPoisoned s j = true) ∧
    (∀ s ∈ [blitting 0x0504 [] false, blitting 0x0501 [9] false, blitting 0x0501 fillOne false], LightInv s ∧
      s.blt.running = false ∧ s.cond.coast = false ∧ memOpen s = true ∧ (flightOf s 1).isSome = true) ∧
    (∀ s ∈ [{ blitting 0x0501 fillOne false with mem := { up.mem with pressure := 2 } }], LightInv s ∧ memOpen s = true ∧
      bltMoves s 0x0501 fillOne = true ∧ requesterCap s 5 = some 0 ∧ bltCheck s 0x0501 fillOne = none) ∧
    (∀ s ∈ [{ blitting 0x0501 fillOne false with mem := { up.mem with changing := some (.p32, .p48) } }], LightInv s ∧
      memOpen s = false) ∧
    (bltCheck (blitting 0x0501 fillOne false) 0x0501 fillOne = none ∧
      bltCheck (blitting 0x0501 [9] false) 0x0501 (padTo 40 [9]) = some St.bltFormat) ∧
    (∀ s ∈ [blitting 0x0504 [15] true, blitting 0x0501 fillOne true, blitting 0x0502 copyOne true], LightInv s ∧
      s.blt.running = true ∧ memOpen s = true ∧ (flightOf s 1).map (·.marks) = some []) ∧
    (bltSrcRows copyOne).any (fun r => memPoisoned (blitting 0x0502 copyOne true).mem r.1 r.2) = true := by
  and_intros <;> decide +kernel
/-- A command in flight under tag 1, started, in a state. -/
def with1 (op : Nat) (p : Pkt) (s : State) : State := flying s [fl op p]

def calibrating : State :=
  { with1 0x0A03 (pk [0]) (inMode .test) with therm := { up.therm with calRun := some { tag := 1, items := [0] } } }

/-- A flush in progress, with or without a command. -/
def flushing (tag : Option Nat) (s : State) : State := { s with sil := { up.sil with flush := some { tag := tag } } }

theorem witness_LongCommandsEnd :
    (LightInv calibrating ∧ calibrating.therm.calWait = [] ∧ Flying calibrating 1 (fl 0x0A03 (pk [0])) ∧
      startedFlights calibrating 0x0A03 = [fl 0x0A03 (pk [0])]) ∧
    (∀ uv ∈ [1237500, 1262500], ∀ uohm ∈ [9800000, 10200000], refsOk uv uohm = true) ∧
    (refsOk 1237499 10000000 = false ∧ refsOk 1250000 10200001 = false) ∧
    (∀ r ∈ calibrating.therm.calRun, zonesMeasured calibrating r = true ∧ r.items.Nodup ∧ r.items[0]? = some 0) ∧
    (∀ s ∈ [{ showing with therm := { up.therm with calRun := some { tag := 1, zones := [0] } } }],
      ∀ r ∈ s.therm.calRun, zonesMeasured s r = false) ∧
    ((sinkCal 20000 150000).isSome = true ∧ (sinkCal 150000 20000) = none ∧ (inputGain 1250000 1250000).isSome = true) ∧
    (∀ s ∈ [with1 0x0210 (pk [3] [0]) up], LightInv s ∧ Flying s 1 (fl 0x0210 (pk [3] [0])) ∧ slotLoads s 3 = [1] ∧
      s.rmap.state.length = 4 ∧ s.rmap.image.length = 4) ∧
    (∀ s ∈ [{ with1 0x0B01 (pk [1]) up with pwr := { up.pwr with fwTag := some (1, 1, []) } }], LightInv s ∧ live s = true ∧
      Flying s 1 (fl 0x0B01 (pk [1])) ∧ startedFlights s 0x0B01 = [fl 0x0B01 (pk [1])]) ∧
    (∀ s ∈ [with1 0x0803 (pk []) up], LightInv s ∧ startedFlights s 0x0803 = [fl 0x0803 (pk [])]) ∧
    (LightInv (flushing none up) ∧ startedFlights (flushing none up) 0x0904 = []) ∧
    (∀ s ∈ [flushing (some 1) (with1 0x0904 (pk []) up)], LightInv s ∧ Flying s 1 (fl 0x0904 (pk [])) ∧
      startedFlights s 0x0904 = [fl 0x0904 (pk [])]) ∧
    (∀ s ∈ [{ recording with clock := 1000000000 }], LightInv s ∧ Records s ∧ s.sil.freeNs + 1000000000 ≤ s.clock) ∧
    (∀ a ∈ [false, true], ∀ s ∈ [{ up with bb := { up.bb with second := true, again := a } }], LightInv s ∧ live s = true ∧
      s.bb.second = true ∧ s.bb.again = a ∧ s.cond.coast = false ∧ 2 ≤ s.pwr.released) := by and_intros <;> decide

/-- An entry sequence at the end of one step. -/
def entering (c : Nat) : State :=
  { with1 0x0106 (pk [4]) up with cond := { up.cond with seq := some { fromM := .parked, toM := .test, steps := [c], tag := some 1, begun := true } } }

/-- The panel on with the lanes in a training. -/
def training (k : Nat) (fs : List Flight) : State :=
  { flying (panel .on) fs with plt := { up.plt with state := .training, trainFor := k } }

def gclOn (g : Gcl) (fs : List Flight) : State := { flying (panel .on) fs with gcl := g }

/-- An entry to PARKED with no command at the end of its last step. -/
def parking : State :=
  { inMode .test with cond := { (inMode .test).cond with seq := some { fromM := .test, toM := .parked, steps := [4], begun := true } } }

/-- What the reads of a driver give when its lane passes, and when it fails. -/
def goodLane : LaneRead := { status := 3, good := 1000, err := 0 }
def badLane : LaneRead := { status := 3, good := 999, err := 0 }

/-- The right REPLY to a READ of register 1 of device 0. -/
def goodReply (d : Nat) : Word × Byte :=
  let v := exchBody { reg := 1 } - exchType .read + 4 + d * 2 ^ 16
  (BitVec.ofNat 32 v, crc8 (leBytes 4 v))

theorem witness_ModesAndLinksGoOn :
    (LightInv (entering 4) ∧ live (entering 4) = true ∧ (entering 4).cond.parkNext = false ∧
      (entering 4).cond.seq.map (fun q => stepOver 4 q (entering 4)) = some true ∧ Flying (entering 4) 1 (fl 0x0106 (pk [4]))) ∧
    (LightInv (entering 8) ∧ (entering 8).cond.seq.map (fun q => stepOver 8 q (entering 8)) = some false) ∧
    (LightInv parking ∧ live parking = true ∧ parking.cond.parkNext = false ∧
      parking.cond.seq.map (fun q => (stepOver 4 q parking, q.toM)) = some (true, .parked)) ∧
    (LightInv turning ∧ (∀ s ∈ [{ turning with rot := { turning.rot with angle := 64 } }], LightInv s ∧ atTrainStart s = false)) ∧
    (∀ s ∈ [{ with1 0x0410 (pk []) (panel .on) with plt := { up.plt with trainWait := some 1 } }], LightInv s ∧ live s = true ∧
      s.plt.trainWait.isSome = true ∧ s.pnl.state = .on ∧ s.plt.state ≠ .training ∧ s.cond.coast = false ∧
      atTrainStart s = true ∧ trainWaiting s ≠ []) ∧
    (∀ k ∈ [1, 3], LightInv (training k []) ∧ (training k []).plt.trainWait = none ∧ (training k []).pnl.cmds = []) ∧
    (∀ f ∈ [{ fl 0x0410 (pk []) with aux := [1] }], LightInv (training 2 [f]) ∧ trainServed (training 2 [f]) = [ptag f.p] ∧
      Flying (training 2 [f]) 1 f) ∧
    (∀ s ∈ [{ training 5 [fl 0x0411 (pk [2])] with plt := { (training 5 []).plt with loopTag := some 1, loopRes := some (0, 0) } }],
      LightInv s ∧ s.plt.loopRes.isSome = true ∧ startedOf s 0x0411 = [1] ∧ Flying s 1 (fl 0x0411 (pk [2]))) ∧
    (trainAttempts 3 (List.range 256) [List.replicate 256 (some goodLane)] up).1 = {} ∧
    (∀ x ∈ [(trainAttempts 3 (List.range 256) (List.replicate 3 (List.replicate 256 (some badLane))) up).1], x.lost = none ∧
      laneMask x.failing ≠ 0) ∧
    (trainAttempts 3 (List.range 256) [] up).1.lost = some 0 ∧
    (∀ k ∈ [0, 2], ∀ s ∈ [{ with1 0x0411 (pk [k]) (inMode .test) with plt := { up.plt with loopTag := some 1 } }], LightInv s ∧
      Flying s 1 (fl 0x0411 (pk [k])) ∧ startedOf s 0x0411 = [1] ∧ s.plt.loopRes = none ∧ s.pnl.state ≠ .on) ∧
    (∀ s ∈ [{ with1 0x0411 (pk [2] (List.replicate 32 1)) (panel .on) with plt := { up.plt with loopTag := some 1 } }], LightInv s ∧
      s.pnl.state = .on ∧ (lanesOf (loopMask s (pk [2] (List.replicate 32 1)))).contains 0 = true) ∧
    (LightInv showing ∧ mayPoll 31 showing = true ∧ mayPoll 32 showing = false ∧
      8 ≤ (linkDevices 31).getD (8 % (linkDevices 31).length) 0) ∧
    (runExchange { link := 31, reg := 1 } 0 [some (goodReply 4)] showing).1 = .inl 4 ∧
    (runExchange { link := 31, reg := 1 } 0 [none] showing).1 = .inr true ∧
    (runExchange { link := 31, reg := 1 } 0 [some (0, 0)] showing).1 = .inr false ∧
    replyGood { reg := 1 } (goodReply 4).1 (goodReply 4).2 = true ∧
    (LightInv (gclOn { up.gcl with own := [{}] } []) ∧ vcomNow (gclOn { up.gcl with own := [{}] } []) = false ∧
      exchFits (gclOn { up.gcl with own := [{}] } []) = true) ∧
    (∀ s ∈ [{ showing with sco := { up.sco with scanning := true } }], LightInv s ∧ exchFits s = false) ∧
    (∀ s ∈ [gclOn { up.gcl with host := [{ tag := some 1 }] } [fl 0x0413 (pk [])]], LightInv s ∧ vcomNow s = false ∧
      s.gcl.own = [] ∧ s.gcl.host.find? (exchReady s) = some { tag := some 1 }) ∧
    (∀ s ∈ [gclOn { up.gcl with vcomDue := true } []], LightInv s ∧ live s = true ∧ s.gcl.cur = none ∧ exchFits s = true ∧
      vcomNow s = true) ∧
    (∀ n ∈ [par up 0x4305, par up 0x4305 + 1], ∀ s ∈ [gclOn { up.gcl with cur := some { tag := some 1, tries := n } } [fl 0x0413 (pk [])]],
      LightInv s ∧ Flying s 1 (fl 0x0413 (pk [])) ∧ par s 0x4305 = par up 0x4305 ∧ gcStopped s 0 = false) ∧
    (∀ s ∈ [{ gclOn { up.gcl with cur := some {} } [] with
        clk := { up.clk with plls := up.clk.plls.set 4 { bypass := true } } }], LightInv s ∧ gcStopped s 0 = true) ∧
    (replyGood {} 0 0 = false) ∧
    (∀ s ∈ [gclOn { up.gcl with cur := some { tries := 9 } } []], LightInv s ∧ s.pnl.state ≠ .powering ∧ par s 0x4305 < 9) := by
  and_intros <;> decide +kernel

/-- The panel in a step of its sequences. -/
def powering (f : Pnl → Pnl) : State := { up with pnl := f { up.pnl with state := .powering } }
def discharging (n : Nat) : State := { up with pnl := { up.pnl with state := .discharging, dischStep := n } }

theorem witness_PanelSequencesAndCrackLoops :
    (∀ n ∈ [2, 3, 6], ∀ b ∈ [false, true], ∀ s ∈ [powering (fun p => { p with step := n, waitReady := true, auxPnl := b })],
      LightInv s ∧ live s = true ∧ s.pnl.auxPnl = b) ∧
    (LightInv (powering id) ∧ (powering id).pnl.waitReady = false) ∧
    (∀ n ∈ [5, 6], LightInv (powering (fun p => { p with step := n, delay := true })) ∧
      (powering (fun p => { p with step := n, delay := true })).pnl.delay = true) ∧
    (∀ n ∈ [1, 2, 5, 6, 7], LightInv (discharging n) ∧ (discharging n).pnl.cmds = [] ∧ (discharging n).pnl.powerAfter = false) ∧
    (LightInv up ∧ up.pnl.waitCrack = false) ∧
    (∀ s ∈ [{ up with pnl := { up.pnl with crkRun := [0, 4] }, cfg := { up.cfg with params := [(0x4500, 3)] } }], LightInv s ∧
      crackTrips s 1 = true) := by and_intros <;> decide

/-- The Flysheet Driver in a state. -/
def flySt (f : Fly → Fly) : State := { up with fly := f up.fly }

/-- Enough energy for an update, and a bed that is cold. -/
def charged : State := { flySt (fun f => { f with requested := true }) with pwr := { up.pwr with est := 10 ^ 7 } }

def frozen (s : State) : State :=
  { s with therm := { up.therm with ins := List.replicate 22 { hasRead := true, reading := -10000 } }
           cfg := { s.cfg with params := [(0x7200, 1), (0x4600, 0)] } }

theorem witness_FlysheetUpdatesRun :
    (∀ s ∈ [{ up with pnl := { up.pnl with cause := 2 } }], LightInv s ∧ Accepts s 0x0702 (pk []) ∧ flySuppressed s = true) ∧
    (∀ s ∈ [flySt (fun f => { f with cur := some {} })], LightInv s ∧ Accepts s 0x0702 (pk []) ∧ flySuppressed s = false ∧
      s.fly.cur.isSome = true) ∧
    (LightInv up ∧ Accepts up 0x0702 (pk []) ∧ up.fly.cur = none ∧ up.fly.state = .idle ∧ flyBand up ≠ 7 ∧ up.fly.tags = []) ∧
    (LightInv (frozen up) ∧ Accepts (frozen up) 0x0702 (pk []) ∧ flyBand (frozen up) = 7) ∧
    (LightInv charged ∧ flyMayStart charged = true ∧ flySuppressed charged = false ∧ flyBand charged ≠ 7 ∧
      flyCovered charged (flyBand charged) = true) ∧
    (∀ s ∈ [flySt (fun f => { f with requested := true })], LightInv s ∧ flyMayStart s = true ∧
      flyCovered s (flyBand s) = false ∧ s.cond.coast = false) ∧
    (∀ n ∈ [2, 3], ∀ s ∈ [flySt (fun f => { f with state := .loading, cur := some { tries := n } }),
        flySt (fun f => { f with state := .running, cur := some { tries := n } })],
      LightInv s ∧ s.fly.cur = some { tries := n }) ∧
    (∀ s ∈ [flySt (fun f => { f with cur := some { aborting := true } })], LightInv s ∧
      s.fly.cur.map (·.aborting) = some true) ∧
    (∀ d ∈ [(1 : Byte), 9], flyAck d (crc8 [d]) = true) ∧ flyAck 0 0 = false ∧
    (∀ s ∈ [flySt (fun f => { f with state := .waiting, requested := true })], LightInv s ∧ s.fly.tags = []) ∧
    (∀ s ∈ [with1 0x0702 (pk []) (flySt (fun f => { f with state := .waiting, requested := true, tags := [1] }))], LightInv s ∧
      Flying s 1 (fl 0x0702 (pk []))) ∧
    (∀ s ∈ [flySt (fun f => { f with state := .redriveWaiting, journal := [{}] })], LightInv s ∧ live s = true ∧
      redriveHeld s = false ∧ Accepts s 0x0702 (pk []) ∧ flySuppressed s = false) ∧
    (∀ s ∈ [{ flySt (fun f => { f with state := .redriveWaiting }) with pwr := { up.pwr with sagw := true } }], LightInv s ∧
      live s = true ∧ redriveHeld s = true) := by and_intros <;> decide
/-- The rotor in a state with a setpoint of 3,600 rpm, in TEST. -/
def rot (f : Rot → Rot) : State := { inMode .test with rot := f { up.rot with setpoint := 3600 } }

theorem witness_RotorChangesState :
    (∀ s ∈ [rot (fun r => { r with state := .align }), rot (fun r => { r with state := .catching }),
        rot (fun r => { r with state := .catching, indexSeen := true }),
        rot (fun r => { r with state := .catching, indexSeen := true, req := .start }),
        rot (fun r => { r with state := .regen, hwTrip := true }), rot (fun r => { r with state := .freewheel, hwTrip := true }),
        rot (fun r => { r with state := .spinUp }), rot (fun r => { r with state := .run }),
        rot (fun r => { r with state := .freewheel }), rot (fun r => { r with state := .regen }),
        rot (fun r => { r with state := .brake, shortMs := true }), rot (fun r => { r with state := .run, hwTrip := true })],
      LightInv s ∧ NoRotorCommands s ∧ live s = true ∧ bridgeLive s = true) ∧
    (withinMille (rot id) 57600 2 = true ∧ withinMille (rot id) 57024 10 = true ∧ withinMille (rot id) 57023 10 = false) ∧
    (∀ s ∈ [with1 0x0420 (pk []) (rot (fun r => { r with state := .spinUp }))], LightInv s ∧ startedOf s 0x0420 = [1] ∧
      startedOf s 0x0421 = [] ∧ Flying s 1 (fl 0x0420 (pk []))) := by and_intros <;> decide

theorem witness_EncoderAndRotorFaults :
    (∀ s ∈ [rot (fun r => { r with ab := 0 }), rot (fun r => { r with ab := 0, glitches := 1 })], LightInv s ∧ live s = true ∧
      bridgeLive s = true ∧ s.rot.dir = 0 ∧ (quadPos (bit false 0 + bit false 1) + 4 - quadPos s.rot.ab) % 4 = 0 ∧
      (quadPos (bit true 0 + bit true 1) + 4 - quadPos s.rot.ab) % 4 = 2 ∧
      (quadPos (bit true 0 + bit false 1) + 4 - quadPos s.rot.ab) % 4 ∈ [1, 3] ∧
      (quadPos (bit false 0 + bit true 1) + 4 - quadPos s.rot.ab) % 4 ∈ [1, 3]) ∧
    (∀ n ∈ [4093, 4094, 4096, 4098, 4099], ∀ s ∈ [rot (fun r => { r with angleValid := true, counts := n }),
        rot (fun r => { r with angleValid := true, counts := n, glitches := 1 })],
      LightInv s ∧ bridgeLive s = true ∧ s.rot.angleValid = true ∧ s.rot.counts = n ∧ s.rot.glitches ≤ 1) ∧
    (∀ s ∈ [rot (fun r => { r with armed := true, state := .spinUp })], LightInv s ∧ bridgeLive s = true ∧
      s.rot.angleValid = false ∧ mayStart s = true) ∧
    (∀ s ∈ [rot (fun r => { r with armed := true, state := .spinUp, cause := 16 }), rot (fun r => { r with state := .spinUp, armed := false }),
        rot (fun r => { r with armed := true, state := .stopped })], LightInv s ∧ bridgeLive s = true ∧
      s.rot.angleValid = false ∧ mayStart s = false) ∧
    (∀ k ∈ [0, 1], ∀ s ∈ [rot (fun r => { r with state := .run, counts := 4159 + k, reverse := 7 + k })], LightInv s ∧
      bridgeLive s = true ∧ s.rot.counts = 4159 + k ∧ s.rot.reverse = 7 + k) ∧
    (∀ s ∈ [rot (fun r => { r with state := .run, speed16 := 4801 }), rot (fun r => { r with state := .spinUp }),
        rot (fun r => { r with state := .regen })], LightInv s ∧
      bridgeLive s = true ∧ (s.rot.state = .run → timeoutStates s = true)) ∧
    (LightInv State.reset ∧ bridgeLive State.reset = false) := by and_intros <;> decide

/-- A PTP message of port 0. -/
def ptp (seq : Nat) (two : Bool) : PtpMsg :=
  { port := 0, domain := par up 0x6001, profile := par up 0x6000, transport := ptpTransport up, management := false, seqId := seq, source := 1, origin := 0, correction := 0
    arrival := 0, twoStep := two, gmId := 9, rank := [1], traceable := true }

/-- Its master, in the port mask of `heard`. -/
def gm1 : Gm := { port := 0, source := 1, gmId := 9, rank := [1], traceable := true }

def heard (f : Tu → Tu) (ps : Table Word) : State :=
  { up with tu := f up.tu, cfg := { up.cfg with params := ps } }

theorem witness_PtpKeepsTheTime :
    (LightInv State.reset ∧ State.reset.tu.running = false) ∧
    (∀ s ∈ [heard id [(0x6002, 0)]], LightInv s ∧ s.tu.running = true ∧ ptpPort s (ptp 0 true) = false) ∧
    (∀ s ∈ [heard id [(0x6002, 1)]], ptpPort s { ptp 0 true with domain := 255 } = true ∧
      ptpMatch s { ptp 0 true with domain := 255 } = false ∧ ptpMatch s { ptp 0 true with transport := 9 } = false ∧
      ptpMatch s { ptp 0 true with management := true } = false ∧ LightInv s ∧ PtpHeard s (ptp 0 true) ∧
      fromMaster s (ptp 0 true) = false ∧ s.tu.lastGm = none) ∧
    (∀ s ∈ [heard (fun t => { t with
        master := some gm1, syncPend := some (ptp 5 true), reqSent := some (5, 0), lastSync := some (0, 0, 0)
        lastGm := some 8, slewing := true }) [(0x6002, 1), (0x6000, 0)]], LightInv s ∧
      fromMaster s (ptp 5 true) = true ∧ ptpPort s (ptp 5 true) = true ∧ (ptp 5 true).source = 1 ∧
      bestGm [gm1] = some gm1 ∧ s.tu.lastGm = some 8 ∧ gm1.gmId ≠ 8 ∧ ptpRuns s = true ∧ (par s 0x6002).testBit 0 = true ∧
      par s 0x6000 = 0 ∧ s.tu.slewing = true) ∧
    (∀ s ∈ [heard (fun t => { t with master := some gm1, reqSent := some (5, 0) }) [(0x6002, 1), (0x6000, 1)]], LightInv s ∧
      par s 0x6000 ≠ 0 ∧ s.tu.master.map (·.port) = some 0 ∧ PtpHeard s { ptp 5 true with profile := 1 }) := by
  and_intros <;> decide

/-- Output 23 with a trigger in a mode, its DIVIDE, delay, and flags. -/
def trigSt (f : Trigger → Trigger) (mode div delay : Byte) : State :=
  { up with
    rot := { up.rot with angleValid := true }
    tu := { up.tu with trig := [(23, f {
      armed := true
      desc := padTo 40 ([mode] ++ List.replicate 21 0 ++ [div] ++ List.replicate 9 0 ++ [delay]) })] } }

def capSt (n : Nat) (e : Nat) : State :=
  { up with tu := { up.tu with caps := [(15, { enable := true, edge := e })], fifo := List.replicate n {} } }

theorem witness_TriggersAndCapturesFire :
    (∀ m ∈ [3, 4], ∀ s ∈ [trigSt id m 1 0, trigSt (fun t => { t with active := true, rearmed := true }) m 1 0], LightInv s ∧
      trigRuns s = true ∧ (trigOf s 23).armed = true ∧ trigMode (trigOf s 23) = m.toNat ∧ (passAtk s 23).isSome = true) ∧
    (∀ s ∈ [trigSt id 3 1 0], ∀ u ∈ [{ s with rot := { s.rot with fired := [eventKey 31 0] } }], LightInv u ∧ trigRuns u = true ∧
      passAtk u 23 = none) ∧
    (∀ m ∈ [1, 2], ∀ s ∈ [trigSt id m 0 0], LightInv s ∧ trigRuns s = true ∧ (trigOf s 23).armed = true ∧
      trigMode (trigOf s 23) = m.toNat ∧ edgeHeld s (trigOf s 23) = false) ∧
    (∀ s ∈ [trigSt (fun t => { t with active := true }) 1 0 0], LightInv s ∧ edgeHeld s (trigOf s 23) = true ∧
      (trigOf s 23).active = true ∧ s.pwr.episode = false) ∧
    (∀ s ∈ [trigSt (fun t => { t with passes := 1 }) 3 2 0], LightInv s ∧
      (trigOf s 23).passes % max 1 (field (trigOf s 23).desc 0x16 2) ≠ 0) ∧
    (∀ d ∈ [(0 : Byte), 1], ∀ s ∈ [trigSt id 4 2 d], LightInv s ∧ s.rot.angleValid = true ∧ trigMode (trigOf s 23) = 4 ∧
      (trigOf s 23).passes % max 1 (field (trigOf s 23).desc 0x16 2) = 0 ∧
      (field (trigOf s 23).desc 0x20 4 = 0 ↔ d = 0)) ∧
    (∀ s ∈ [trigSt (fun t => { t with due := true }) 3 1 1], LightInv s ∧ (trigOf s 23).due = true ∧
      edgeHeld s (trigOf s 23) = false) ∧
    (LightInv up ∧ trigRuns up = true ∧ (capOf up 15).enable = false) ∧
    (∀ n ∈ [255, 256], LightInv (capSt n 2) ∧ (capOf (capSt n 2) 15).enable = true ∧ (capOf (capSt n 2) 15).edge = 2) := by
  and_intros <;> decide +kernel

def memSt (f : Mem → Mem) : State := { up with mem := f up.mem }

/-- A read of the Scene Decoder and one of a control core, at the last bank of pseudo-channel 0. -/
def aRead : MemReq := { req := 1, bank := 63, row := 16383 }
def coreRead : MemReq := { req := 9, bank := 63, row := 16383 }

/-- One of them in the pool, its row open or not. -/
def pooled (r : MemReq) (rows : Table Nat) (poison : List Nat := []) : State :=
  memSt (fun m => { m with pool := [r], openRow := rows, poison := poison })

theorem witness_MemoryControllerEvents :
    (LightInv up ∧ up.pwr.episode = false ∧ memRuns up = true ∧ up.mem.pressure = 0 ∧ up.mem.changing = none ∧
      up.mem.urgentSeen = false ∧ scoUrgent up = false ∧ memPhase up = 0 ∧ patrolDue up 40233 = false ∧ (scrubNext 40234 up).isSome = true) ∧
    (∀ s ∈ [memSt (fun m => { m with openRow := [(bankKey 127 63, 5)] })], LightInv s ∧ memRuns s = true ∧
      chanRuns s.mem 127 = true ∧ (bankQueue s.mem (bankKey 127 63)).isEmpty = true ∧
      (tget? s.mem.openRow (bankKey 127 63)).isSome = true ∧ 0 < par s 0x8005) ∧
    (∀ s ∈ [up, memSt (fun m => { m with due := [(bankKey 127 0, 7)] })], (∀ b < 64, tget s.mem.due (bankKey 127 b) 0 < 8) ∧
      pickBank (refreshDue 127 s) 127 [0] = some (2, 0)) ∧
    (∀ s ∈ [memSt (fun m => { m with due := [(bankKey 127 0, 8), (bankKey 127 63, 8)] })], LightInv s ∧ memRuns s = true ∧
      chanRuns s.mem 127 = true ∧ 8 ≤ tget s.mem.due (bankKey 127 (tget s.mem.refreshBank 127 0)) 0 ∧
      ∀ b < 64, tget s.mem.due (bankKey 127 b) 0 < 9) ∧
    (∀ p ∈ [0, 3, 4], ∀ s ∈ [memSt (fun m => { m with pressure := p, urgentSeen := true })], LightInv s ∧ memRuns s = true ∧
      s.mem.pressure = p ∧ s.mem.urgentSeen = true) ∧
    (∀ s ∈ [memSt (fun m => { m with pressure := 4, relax := par up 0x8001 - 1 })], LightInv s ∧ s.mem.pressure ≠ 0 ∧
      s.mem.urgentSeen = false ∧ scoUrgent s = false ∧ par s 0x8001 ≤ s.mem.relax + 1) ∧
    (∀ s ∈ [memSt (fun m => { m with pressure := 4, relax := 0 })], LightInv s ∧ s.mem.pressure ≠ 0 ∧
      s.mem.relax + 1 < par s 0x8001) ∧
    (∀ s ∈ [memSt (fun m => { m with acts := [(bankKey 127 63, par up 0x8002 + 1), (bankKey 0 0, par up 0x8002)] })],
      LightInv s ∧ memPhase s = 0 ∧ memRuns s = true ∧ par s 0x8002 < tget s.mem.acts (bankKey 127 63) 0 ∧
      bankKey 127 63 ∉ s.mem.bankWait ∧ tget s.mem.acts (bankKey 0 0) 0 ≤ par s 0x8002) ∧
    (∀ s ∈ [{ inMode .test with mem := { up.mem with actTable := [(bankKey 127 63, [(16383, par up 0x8003), (0, 1)])] } }],
      LightInv s ∧ memPhase s ≠ 0 ∧ memRuns s = true ∧
      par s 0x8003 ≤ ((tget s.mem.actTable (bankKey 127 63) []).lookup 16383).getD 0 ∧
      ((tget s.mem.actTable (bankKey 127 63) []).lookup 0).getD 0 < par s 0x8003) ∧
    (∀ s ∈ [memSt (fun m => { m with retries := [(0, par up 0x8004 - 1), (63, par up 0x8004)] })], LightInv s ∧ memRuns s = true ∧
      0 ∉ s.mem.retraining ∧ s.mem.chanFail.getLsbD 0 = false ∧ tget s.mem.retries 0 0 < par s 0x8004 ∧
      par s 0x8004 ≤ tget s.mem.retries 63 0) ∧
    (∀ s ∈ [memSt (fun m => { m with retries := [(63, par up 0x8004)], changing := some (.p32, .p48) })], LightInv s ∧
      memRuns s = true ∧ par s 0x8004 ≤ tget s.mem.retries 63 0 ∧ s.mem.changing ≠ none) ∧
    (∀ s ∈ [pooled aRead [], pooled aRead [(63, 16383)]], LightInv s ∧ memRuns s = true ∧ s.mem.held = [] ∧
      chanRuns s.mem 0 = true ∧ overdue s.mem 0 = none ∧ pickBank s 0 [63] = some (3, 63) ∧
      chosenReq s 3 (bankKey 0 63) = some aRead) ∧
    (tget? (pooled aRead []).mem.openRow (bankKey 0 63) = none ∧
      tget? (pooled aRead [(63, 16383)]).mem.openRow (bankKey 0 63) = some aRead.row) ∧
    (∀ q ∈ [aRead, coreRead], ∀ s ∈ [pooled q [(63, 16383)], pooled q [(63, 16383)] [0]], LightInv s ∧
      (memSlots 0 [[63]] none (takeAsks [] s)).1 = some q) ∧
    (memPoisoned (pooled coreRead [] [0]).mem 0 64 = true ∧ memPoisoned (pooled coreRead []).mem 0 64 = false) ∧
    (∀ l ∈ [[0x1FFFFFFFC0], [0, 1048576]], ∀ s ∈ [memSt (fun m => { m with scrub := l })], LightInv s ∧ scrubNext 0 s = l.head?) ∧
    (∀ s ∈ [memSt (fun m => { m with retraining := [63] })], LightInv s ∧ 63 ∈ s.mem.retraining) ∧
    (∀ s ∈ [{ memSt (fun m => { m with required := some .p48 }) with
        rot := { up.rot with angleValid := true }, ray := { up.ray with switchRev := 1 } }], LightInv s ∧
      s.rot.angleValid = true ∧ s.pwr.episode = false ∧ angleDue 5 1024 s = true ∧ s.mem.required = some .p48 ∧
      s.mem.changing = none ∧ s.cond.coast = false ∧ s.ray.switchRev = 1) ∧
    (∀ s ∈ [{ up with rot := { up.rot with angleValid := true } }], LightInv s ∧ s.mem.required = none ∧
      angleDue 5 1024 s = true) ∧
    (∀ s ∈ [{ up with rot := { up.rot with angleValid := true, angle := 1088 } }], LightInv s ∧ angleDue 5 1024 s = false) ∧
    (∀ s ∈ [memSt (fun m => { m with changing := some (.p32, .p48) }),
        memSt (fun m => { m with changing := some (.p32, .p48), changeBad := true })], LightInv s ∧
      memRuns s = true ∧ s.mem.changing = some (.p32, .p48) ∧ s.mem.required = none ∧
      s.sil.held = [] ∧ s.mem.held = [] ∧ s.hif.flights = []) := by and_intros <;> decide

def pwrSt (f : Pwr → Pwr) : State := { up with pwr := f up.pwr }

theorem witness_InputStageAndEstimate :
    (∀ s ∈ [pwrSt (fun p => { p with inputOk := false })], LightInv s ∧ s.pwr.inputOk = false ∧ s.pwr.ov = false ∧
      s.pwr.sagw = false ∧ mayCoast s = true ∧ s.rot.state ≠ .regen) ∧
    (∀ s ∈ [{ rot (fun r => { r with state := .regen }) with pwr := { up.pwr with inputOk := false, ov := true } },
        { rot (fun r => { r with state := .regen }) with pwr := { up.pwr with inputOk := false } }], LightInv s ∧
      regenHolds s = true ∧ s.pwr.inputOk = false) ∧
    (∀ s ∈ [pwrSt (fun p => { p with inputOk := true, sagw := true })], LightInv s ∧ s.pwr.sagw = true ∧ mayCoast s = true ∧
      s.pwr.inputOk = true ∧ s.pwr.ov = false ∧ s.fly.state ≠ .waiting) ∧
    (∀ s ∈ [pwrSt (fun p => { p with ov := true })], LightInv s ∧ s.pwr.ov = true) ∧
    (∀ s ∈ [{ pwrSt (fun p => { p with inputOk := true, sagw := true }) with hif := State.reset.hif }], LightInv s ∧
      mayCoast s = false ∧ s.pwr.inputOk = true ∧ s.pwr.sagw = true ∧ s.pwr.ov = false) ∧
    (∀ s ∈ [{ flySt (fun f => { f with state := .waiting, requested := true }) with
        rot := { up.rot with speed16 := 57600, angleValid := true, state := .freewheel } }], LightInv s ∧ s.fly.cur = none ∧
      flySuppressed s = false ∧ flyBand s ≠ 7 ∧ 25 * flyMs (flyBand s) ≤ coastEst s % 2 ^ 24) ∧
    (∀ b ∈ [false, true], ∀ s ∈ [{ flySt (fun f => { f with state := .waiting, requested := true }) with
        cond := { up.cond with coast := b } }], LightInv s ∧ s.fly.cur = none ∧ flySuppressed s = false ∧ flyBand s ≠ 7 ∧
      s.fly.tags = [] ∧ s.cond.coast = b ∧ coastEst s % 2 ^ 24 < 25 * flyMs (flyBand s)) := by
  and_intros <;> decide +kernel

/-- COAST in a step. -/
def coasting (n : Nat) (f : State → State) : State :=
  f { up with cond := { up.cond with coast := true }, pwr := { up.pwr with coastStep := n, inputOk := true } }

theorem witness_CoastStepsAndReturn :
    (∀ s ∈ [coasting 2 (flushing none)], LightInv s ∧ live s = true ∧ s.cond.coast = true ∧ stepWorkDone s = false) ∧
    (∀ s ∈ [coasting 1 id], LightInv s ∧ stepDomainUp s 1 = true ∧ stepDomainUp s 2 = true ∧ s.pwr.coastSlow = false ∧
      ¬ Records s) ∧
    (∀ s ∈ [coasting 1 (fun s => { s with sil := recording.sil })], LightInv s ∧ Records s) ∧
    (∀ s ∈ [coasting 2 (fun s => { s with pnl := (panel .on).pnl })], LightInv s ∧ s.pwr.returning = false ∧
      stepDomainUp s 3 = true ∧ s.sil.flush = none ∧ s.mem.changing = none ∧ s.pnl.state = .on) ∧
    (∀ s ∈ [coasting 3 (fun s => { s with pwr := { s.pwr with coastSlow := true } })], LightInv s ∧ stepDomainUp s 4 = true ∧
      s.pnl.state = .off ∧ s.pwr.coastSlow = true ∧ s.fly.requested = false ∧ s.fly.pend = false ∧ s.fly.cur = none) ∧
    (∀ s ∈ [coasting 4 id, coasting 5 id], LightInv s ∧ stepDomainUp s 5 = true ∧ s.pwr.inputOk = true ∧ s.pwr.sagw = false ∧
      QuietPaths s ∧ startedOf s 0x0410 = []) := by and_intros <;> decide

/-- A start with a number of domains released. -/
def started (n : Nat) (f : Pwr → Pwr) : State :=
  { up with hif := { up.hif with ready := false, fwUp := decide (4 ≤ n) }, pwr := f { up.pwr with released := n }
            mem := { up.mem with trained := false } }

theorem witness_ResetsStartsAndRails :
    (LightInv up ∧ up.pwr.porAsserted = false ∧ up.pwr.resetB = false ∧ up.pwr.episode = false ∧ up.sil.flush = none ∧
      redriveFirst up = false) ∧
    (∀ b ∈ [false, true], ∀ s ∈ [pwrSt (fun p => { p with inputOk := b })], LightInv s ∧ s.pwr.porAsserted = false ∧
      hubHeld s = b) ∧
    (∀ s ∈ [{ started 8 id with fly := { up.fly with state := .redriveWaiting, journal := [{}] } }], LightInv s ∧
      redriveFirst s = true) ∧
    (∀ b ∈ [false, true], ∀ s ∈ [pwrSt (fun p => { p with porAsserted := true, episode := true, resetB := b })], LightInv s ∧
      s.pwr.porAsserted = true ∧ s.pwr.resetB = b) ∧
    (∀ s ∈ [pwrSt (fun p => { p with resetB := true, episode := true })], LightInv s ∧ s.pwr.porAsserted = false) ∧
    (∀ s ∈ [started 3 id], LightInv s ∧ starting s = true ∧ pickImage s ≠ none ∧ s.cond.coast = false) ∧
    (∀ s ∈ [started 3 (fun p => { p with slots := [([], false), ([], false)] })], LightInv s ∧ starting s = true ∧
      pickImage s = none) ∧
    (∀ s ∈ [started 5 id], LightInv s ∧ starting s = true ∧ 5 ≤ s.pwr.released ∧ s.mem.trained = false) ∧
    (∀ c ∈ [false, true], ∀ s ∈ [{ started 8 (fun p => { p with cold := c, warmMode := .parked, autostart := 0 }) with mem := up.mem }],
      LightInv s ∧ mayReady s = true ∧ QuietPaths s ∧ s.pwr.cold = c ∧ s.pwr.aborted = [] ∧ s.pwr.autostart ≠ 1 ∧
      s.cond.mode = .parked ∧ s.pwr.warmMode = .parked) ∧
    (up.dbg.halted.getLsbD 0 = false ∧ dbgSt.dbg.halted.getLsbD 3 = true ∧ live dbgSt = true) ∧
    (∀ s ∈ [pwrSt (fun p => { p with railTrip := p.railTrip.set (railIndex .enc) true })], LightInv s ∧
      s.pwr.railTrip.getD (railIndex .enc) false = true ∧ railOn s .io = true) := by and_intros <;> decide

/-- Input 16 to 21 in a condition. -/
def hotSt (t : TempIn) : State := { up with therm := { up.therm with ins := List.replicate 22 t } }

theorem witness_ThermalSamplesReadingsAndTrips :
    (∀ v ∈ [false, true], LightInv (hotSt { valid := v }) ∧ live (hotSt { valid := v }) = true ∧
      (hotSt { valid := v }).therm.ins.length = 22 ∧ tempEnabled (hotSt { valid := v }) 21 = true ∧
      21 ∉ (hotSt { valid := v }).therm.heldRead ∧ sampleValue (hotSt { valid := v }) 21 .broken = none) ∧
    ((sampleValue up 21 (.die (175 * 16))).isSome = true ∧ sampleValue up 21 (.die (175 * 16 + 1)) = none) ∧
    (LightInv (hotSt { badRun := 3, n := 1 }) ∧ (inOf (hotSt { badRun := 3, n := 1 }) 21).valid = true ∧
      3 ≤ (inOf (hotSt { badRun := 3, n := 1 }) 21).badRun ∧ (inOf (hotSt { badRun := 3, n := 1 }) 21).n ≠ 0) ∧
    (∀ s ∈ [{ hotSt { hasRead := true } with therm := { (hotSt { hasRead := true }).therm with heldRead := [21] } }], LightInv s ∧
      21 ∈ s.therm.heldRead ∧ (inOf s 21).hasRead = true) ∧
    (∀ b ∈ [false, true], ∀ s ∈ [{ hotSt { tripRun := 3 } with cond := { up.cond with shutdown := b } }], LightInv s ∧
      3 ≤ (inOf s 21).tripRun ∧ (inOf s 21).tripSeen = false ∧ s.cond.bivouac = false ∧ s.cond.shutdown = b) := by
  and_intros <;> decide

/-- Every PLL and aligner in a condition, the PCI Express link up. -/
def clkSt (p : Plle) : State :=
  { up with
    clk := { up.clk with plls := List.replicate 13 p }
    hif := { up.hif with linkUp := true } }

theorem witness_ClockUnitEvents :
    (∀ p ∈ [({} : Plle), { lock := true }, { lock := true, badRun := 1 }, { lock := true, badRun := 1, requested := true },
        { lock := true, bypass := true }], LightInv (clkSt p) ∧ (clkSt p).clk.plls.length = 13 ∧ (clkSt p).pwr.porAsserted = false ∧
      pllOf (clkSt p) 11 = p ∧ pllOf (clkSt p) 12 = p ∧ live (clkSt p) = true ∧ (clkSt p).hif.fwUp = true ∧
      (clkSt p).hif.linkUp = true) ∧
    (∀ n ∈ [0, 3, 11, 12], pllGood up n 1000 1000 = true ∧ pllBad up n 2000 1000 = true ∧ pllGood up n 2000 1000 = false) ∧
    (pllGood up 0 (1000 + pllTol up 0 1000 + 7) 1000 = false ∧ pllBad up 0 (1000 + pllTol up 0 1000 + 7) 1000 = false) ∧
    (∀ s ∈ [{ up with clk := { up.clk with refUse := 1 } }], LightInv s ∧ s.clk.refUse ≠ 0 ∧ par s 0x0201 = 1) ∧
    syncOutputs up 255 = [] ∧
    (∀ s ∈ [{ up with clk := { up.clk with outputsOn := true, phase := List.replicate 8 63 }
                      cfg := { up.cfg with params := [(0x0220, 1), (0x0224, 1)] } }], LightInv s ∧ syncOutputs s 0 ≠ [] ∧
      s.clk.phase.getD 0 0 ≠ par s 0x0223) := by and_intros <;> decide

/-- Sixty-four operations in the Blitter's queue. -/
theorem witness_BlitterQueueFullIsRefused :
    ∀ s ∈ [{ inMode .flat with blt := { up.blt with queue := List.replicate 64 {} } }], LightInv s ∧ 64 ≤ s.blt.queue.length ∧
      pathOpen s 0 = true ∧ acceptCheck { s with blt := { s.blt with queue := [] } } 0x0501 (pk []) = none ∧
      acceptCheck { s with blt := { s.blt with queue := [] } } 0x0504 (pk [15]) = none := by decide

/-- The pending source of a claim is the lowest at its vector. -/
theorem witness_ClaimsAndCompletionsOfTheHost :
    ∀ s ∈ [after .tapBypass intcSt], Calm s ∧ live s = true ∧ s.intc.asleep = false ∧ tget? s.intc.active 16 = none ∧
      hostPending s 24 = true ∧ routeVec s 24 = 16 ∧ (tget? s.intc.active 17).isSome = true ∧
      tget? s.intc.active 17 = some ((25 : Word).toNat % 256) := by decide

theorem witness_RecordsAreChainedAndChecked : up.pwr.porAsserted = false ∧ up.sil.chain = [] := by decide

/-- GAIN 33,100 and OFFSET −3 of sink 37 (R476). -/
theorem witness_SinkCodesFollowTheCalibration :
    par { up with cfg := { up.cfg with params := [(0xA000 + 37, 33100 + 65533 * 65536)] } } (0xA000 + 37) = 33100 + 65533 * 65536 ∧
      up.bl.current.length = 128 ∧ up.bl.dac.length = 128 := by and_intros <;> decide +kernel

end Sys2Proof.Tests
end

