-- ==== Sys2Proof/WellFormed.lean ====
section
/-! DEFINITION. Which terms are commands: operands within the ranges that the spec gives them. -/
namespace Sys2Proof

/-- A packet as a path delivers it (Table 15-3): its path, and 44 bytes of PARAMS. -/
def pktOk (p : Pkt) : Bool := decide (p.path ≤ 17) && p.params.length == 44

/-- A JT-40 request frame: at most 32 bytes of payload, and as many as LEN says (R428). -/
def jtOk (f : JtFrame) : Bool := f.sync == 0xA5 && decide (f.payload.length ≤ 32) && f.payload.length == f.len.toNat

/-- A command frame: one of the four ports (R386). -/
def ethOk (m : EthMsg) : Bool := decide (m.port < 4)

/-- A CSI-2 packet header (R127). -/
def camHdrOk (h : CamHdr) : Bool := decide (h.vc < 4) && decide (h.dt < 64)

/-- A PTP message of one of the four ports. -/
def ptpOk (m : PtpMsg) : Bool := decide (m.port < 4) && decide (m.domain < 256) && decide (m.seqId < 65536)

/-- Every operand of a command lies in its range. -/
def Instr.wf (i : Instr) : Bool :=
  match i with
  | .identify p => pktOk p
  | .getStatus p => pktOk p
  | .commit p => pktOk p
  | .paramSet p => pktOk p
  | .paramGet p => pktOk p
  | .modeSet p => pktOk p
  | .modeEntryStepEnd => true
  | .faultClear p => pktOk p
  | .sceneLoad p => pktOk p
  | .sceneLoadTaken => true
  | .planeDefine p => pktOk p
  | .notesDefine p => pktOk p
  | .cacheStore p => pktOk p
  | .cacheRecall p => pktOk p
  | .cacheDrop p => pktOk p
  | .raymapLoad p => pktOk p
  | .raymapSelect p => pktOk p
  | .raymapProbe p => pktOk p
  | .layerDefine p => pktOk p
  | .safetyDefine p => pktOk p
  | .scalerCoeff p => pktOk p
  | .rayLutLoad p => pktOk p
  | .tcLutLoad p => pktOk p
  | .linkTrain p => pktOk p
  | .linkTrainBegin => true
  | .linkLoopback p => pktOk p
  | .loopbackEnd _ _ => true
  | .gcWrite p => pktOk p
  | .gcRead p => pktOk p
  | .panelPower p => pktOk p
  | .rotorStart p => pktOk p
  | .rotorStop p => pktOk p
  | .blitFill p => pktOk p
  | .blitCopy p => pktOk p
  | .blitOutline p => pktOk p
  | .blitClipSet p => pktOk p
  | .bltOpStart => true
  | .bltOpEnd => true
  | .timeStepAccept p => pktOk p
  | .timeStepDecline p => pktOk p
  | .timeSet p => pktOk p
  | .triggerArm p => pktOk p
  | .triggerStop p => pktOk p
  | .captureConfig p => pktOk p
  | .thermalClear p => pktOk p
  | .flysheetUpdate p => pktOk p
  | .thermalLogRead p => pktOk p
  | .memRead p => pktOk p
  | .memWrite p => pktOk p
  | .memTest p => pktOk p
  | .sillageExport p => pktOk p
  | .silRegionDefine p => pktOk p
  | .sillageMark p => pktOk p
  | .sillageFlush p => pktOk p
  | .calLoad p => pktOk p
  | .calSave p => pktOk p
  | .calibrate p => pktOk p
  | .calibrateDone _ _ => true
  | .fwStage p => pktOk p
  | .fwActivate p => pktOk p
  | .debugChallenge p => pktOk p
  | .debugUnlock p => pktOk p
  | .debugLock p => pktOk p
  | .serviceStore p => pktOk p
  | .serviceSelect p => pktOk p
  | .jtNop f => jtOk f
  | .jtVersion f => jtOk f
  | .jtMirrorStart f => jtOk f
  | .jtMirrorStop f => jtOk f
  | .jtBrightness f => jtOk f
  | .jtBacklight f => jtOk f
  | .jtOverlayShow f => jtOk f
  | .jtOverlayHide f => jtOk f
  | .jtStatus f => jtOk f
  | .jtSetDepth f => jtOk f
  | .jtUnsupportedCmd _ f => jtOk f
  | .sqTailDoorbell q _ entries => decide (q < 16) && entries.all (fun r => pktOk r.pkt)
  | .cqHeadWrite q _ => decide (q < 16)
  | .qcfgWrite q _ => decide (q < 16)
  | .ethPacketMessage m packets => ethOk m && packets.all (fun r => pktOk r.pkt)
  | .ethDataMessage m data => ethOk m && decide (data.length < 65536)
  | .mailboxGo => true
  | .commandDependencyMet tag => decide (tag < 512)
  | .pcieEndpointReset _ => true
  | .rotSnapCapture => true
  | .sdecErrPop => true
  | .tcFifoPop => true
  | .tuTimeRead => true
  | .rcRegisterRead offset => decide (offset < 16777216)
  | .rotFaultCauseClear _ => true
  | .blZoneFaultClear k _ => decide (k < 4)
  | .intcClaim v => decide (16 ≤ v) && decide (v < 32)
  | .intcEoi v _ => decide (16 ≤ v) && decide (v < 32)
  | .intcHrouteWrite m _ => decide (m < 64)
  | .coreIntcClaim core => decide (core < 4)
  | .coreIntcEoi core src => decide (core < 4) && decide (src < 256)
  | .msixUnmask v => decide (v < 32)
  | .registerWrite offset _ => decide (offset < 16777216)
  | .latchAngle => true
  | .latchTimerTick => true
  | .revolutionStart speed16 _ rowMinMv => decide (speed16 < 1048576) && rowMinMv.length == 8
  | .facetNominalStart j => decide (j < 4)
  | .startWindowClose j _ => decide (j < 4)
  | .renderStart atk => decide (atk < 65536)
  | .renderComplete atk _ => decide (atk < 65536)
  | .govEscalationCheck atk tiles => decide (atk < 65536) && decide (tiles < 129600)
  | .rowSlotStart _ => true
  | .rowLatch _ => true
  | .zonePulseStart row => decide (row < 8)
  | .zonePulseEnd row => decide (row < 8)
  | .zoneMidPulseCheck row mv => decide (row < 8) && mv.length == 16
  | .zoneFaultRecord zone => decide (zone < 128)
  | .sinkOnTimeLimit zone => decide (zone < 128)
  | .laneL1sEntry => true
  | .laneL1sExit => true
  | .facetPick j => decide (j < 4)
  | .compositionEnd atk => decide (atk < 65536)
  | .compositionDeadline j => decide (j < 4)
  | .camFrameStartPacket port h => decide (port < 4) && camHdrOk h
  | .camLongPacket port h _ payload => decide (port < 4) && camHdrOk h && decide (payload.length < 65536)
  | .camFrameEndPacket port h => decide (port < 4) && camHdrOk h
  | .camFrameComplete port => decide (port < 4)
  | .camStale port => decide (port < 4)
  | .sdecBlockParse tag => decide (tag < 512)
  | .sdecBlockDispatch tag => decide (tag < 512)
  | .sdecBlockComplete engine => decide (engine < 16)
  | .carryForwardStart => true
  | .carryForwardEnd => true
  | .cencBlockVerify _ => true
  | .cencJobDone => true
  | .encoderTransition _ _ speed16 => decide (speed16 < 1048576)
  | .indexEdge => true
  | .encLossPair => true
  | .encLossTimeout => true
  | .encLossReverse => true
  | .encIndexMissing => true
  | .alignComplete => true
  | .catchComplete => true
  | .speedSetpointReached speed16 => decide (speed16 < 1048576)
  | .rampSettled speed16 => decide (speed16 < 1048576)
  | .speedBelow60rpm speed16 => decide (speed16 < 1048576)
  | .speedBelow300rpm speed16 => decide (speed16 < 1048576)
  | .overspeed speed16 => decide (speed16 < 1048576)
  | .hwOverspeedTrip speed16 => decide (speed16 < 1048576)
  | .hwOverspeedRelease speed16 => decide (speed16 < 1048576)
  | .spinupTimeout => true
  | .phaseShortEnd => true
  | .freewheelNoCount => true
  | .bridgeOvercurrent => true
  | .ptpSync m => ptpOk m
  | .ptpFollowUp m => ptpOk m
  | .ptpAnnounce m => ptpOk m
  | .ptpDelayResp m => ptpOk m
  | .ptpPdelayReq m _ => ptpOk m
  | .ptpPdelayResp m => ptpOk m
  | .ptpReqTimer port => decide (port < 4)
  | .ptpSyncTimeout => true
  | .ptpAnnounceTimeout => true
  | .timeSlewDone => true
  | .triggerTimeEdge n => decide (n < 24)
  | .triggerAnglePass n => decide (n < 24)
  | .triggerAngleEdge n => decide (n < 24)
  | .triggerPulseEnd n => decide (n < 24)
  | .captureEdge n _ => decide (n < 16)
  | .trainingEnd _ => true
  | .gclStatusPoll link _ => decide (link < 32)
  | .gcExchangeStart => true
  | .gcReplyReceived _ _ => true
  | .gcReplyTimeout => true
  | .pmicReadyPoll _ => true
  | .powerOnDelayEnd => true
  | .pmicReadyTimeout => true
  | .dischargeStep => true
  | .crackLoopSample n _ _ => decide (n < 2)
  | .crackLoopTrip n => decide (n < 2)
  | .flyUpdateStart => true
  | .flyFrameExchange _ _ => true
  | .flyStatusPoll _ _ => true
  | .flyEnergyTimeout => true
  | .flyRedriveStart => true
  | .memRefreshDue pc banks => decide (pc < 128) && banks.all (fun b => decide (b < 64))
  | .memPressureInterval _ _ => true
  | .memActLimit pc bank => decide (pc < 128) && decide (bank < 64)
  | .memActCountLimit pc bank row => decide (pc < 128) && decide (bank < 64) && decide (row < 16384)
  | .memActTableClear => true
  | .memPageIdleClose bank _ => decide (bank < 8192)
  | .memAlert alarm => decide (alarm.chan < 64) && decide (alarm.window ≤ 64)
  | .memRetryExhausted chan => decide (chan < 64)
  | .memRetrainDone chan _ => decide (chan < 64)
  | .memReadComplete asks issue _ =>
      asks.all (fun q => decide (q.req < 10) && decide (1 ≤ q.len) && decide (q.addr + q.len ≤ 0x2000000000)) &&
      decide (issue.pc < 128) && issue.slots.all (fun r => r.all (fun b => decide (b < 64)))
  | .memPatrolScrub _ _ => true
  | .memTempRead temps => temps.length == 4
  | .memInitDone _ => true
  | .memFreqChangeWindow => true
  | .memFreqChangeDone _ _ => true
  | .inputAbove34v _ => true
  | .inputBelow28v _ => true
  | .inputOvervoltage _ => true
  | .inputBelow75v _ => true
  | .sagwSet _ => true
  | .sagwClear _ => true
  | .sagwDwellExpiry => true
  | .coastEstimateTick => true
  | .coastStepEnd => true
  | .returnCondition => true
  | .porAssert _ => true
  | .porRelease => true
  | .resetBAssert => true
  | .resetBRelease => true
  | .clockDomainRelease _ => true
  | .domainLockTimeout => true
  | .startTimeout => true
  | .ready => true
  | .watchdogExpiry core => decide (core < 4)
  | .auxRailTrip _ => true
  | .auxRailRetry _ => true
  | .tempSample n _ => decide (n < 22)
  | .tempInputInvalid n => decide (n < 22)
  | .tempReading n => decide (n < 22)
  | .throttleTick => true
  | .thermalTrip n => decide (n < 22)
  | .bbFlushSecondEnd => true
  | .pllLockWindow clk _ _ => decide (clk < 13)
  | .bypassReturn clk => decide (clk < 12)
  | .refinFail => true
  | .syncInEdge _ => true
  | .alignerPhaseStep n => decide (n < 8)
  | .gpioInputEvent n _ => decide (n < 2)
  | .coreDomainSleep => true
  | .coreDomainWake _ => true
  | .silPeriodicSeal => true
  | .silFlushEnd _ => true
  | .tapExtest => true
  | .tapSamplePreload => true
  | .tapIdcode => true
  | .tapClamp => true
  | .tapHighz => true
  | .tapBypass => true
  | .tapReset => true
  | .dbgAccessRead space core addr => decide (space < 4) && decide (core < 4) && decide (addr < 1099511627776)
  | .dbgAccessWrite space core addr _ => decide (space < 4) && decide (core < 4) && decide (addr < 1099511627776)
  | .dbgHaltRequest core => decide (core < 4)
  | .dbgResumeRequest core => decide (core < 4)
  | .dbgStepRequest core => decide (core < 4)
  | .dbgBreakpointHit core n => decide (core < 4) && decide (n < 6)
  | .dbgChallengeCapture => true
  | .dbgResponseUpdate resp => resp.length == 32
  | .dbgStatusCapture => true
  | .debugHoldoffEnd => true
  | .raymapLoadCompletion tag => decide (tag < 512)
  | .fwStageCompletion => true
  | .memTestDone _ _ => true
  | .hifIrqDelayExpiry q => decide (q < 16)
  | .pcieLinkUp => true

end Sys2Proof
end

