-- ==== Sys2Proof/Tests/Slice0.lean ====
section
/-! SUPPORT. Ill-formed commands that WellFormed refuses, the numbers of the manual's worked examples, and single commands. -/
open Sys2Proof Sys2Proof.Machine
namespace Sys2Proof.Tests

/-! ### Ill-formed commands (WellFormed) -/

theorem test_wf_identify : (Instr.identify (pk [])).wf = true := by decide
/-- Path 18 is no path of the host. -/
theorem test_wf_path : (Instr.identify { pk [] with path := 18 }).wf = false := by decide
theorem test_wf_params : (Instr.commit { pk [] with params := [0] }).wf = false := by decide
theorem test_wf_jt : (Instr.jtNop { sync := 0xA5, len := 1, payload := [], crc := 0 }).wf = false ∧
    (Instr.jtNop { sync := 0, len := 0, payload := [], crc := 0 }).wf = false := by decide
theorem test_wf_queue : (Instr.sqTailDoorbell 16 0 []).wf = false ∧ (Instr.cqHeadWrite 16 0).wf = false ∧
    (Instr.qcfgWrite 16 0).wf = false ∧ (Instr.hifIrqDelayExpiry 16).wf = false := by decide
theorem test_wf_tag : (Instr.commandDependencyMet 512).wf = false ∧ (Instr.sdecBlockParse 512).wf = false ∧
    (Instr.raymapLoadCompletion 512).wf = false := by decide
theorem test_wf_window : (Instr.rcRegisterRead 16777216).wf = false ∧ (Instr.registerWrite 16777216 0).wf = false := by decide
theorem test_wf_vector : (Instr.intcClaim 15).wf = false ∧ (Instr.intcClaim 32).wf = false ∧ (Instr.intcEoi 15 0).wf = false ∧
    (Instr.msixUnmask 32).wf = false ∧ (Instr.intcHrouteWrite 64 0).wf = false ∧ (Instr.coreIntcClaim 4).wf = false ∧
    (Instr.coreIntcEoi 0 256).wf = false := by decide
theorem test_wf_facet : (Instr.facetNominalStart 4).wf = false ∧ (Instr.facetPick 4).wf = false ∧
    (Instr.renderStart 65536).wf = false ∧ (Instr.govEscalationCheck 0 129600).wf = false := by decide
theorem test_wf_zone : (Instr.zonePulseStart 8).wf = false ∧ (Instr.zoneFaultRecord 128).wf = false ∧
    (Instr.zoneMidPulseCheck 0 []).wf = false ∧ (Instr.blZoneFaultClear 4 0).wf = false ∧
    (Instr.revolutionStart 0 0 []).wf = false := by decide
theorem test_wf_camera : (Instr.camStale 4).wf = false ∧ (Instr.camFrameStartPacket 0 ⟨4, 0, true⟩).wf = false := by decide
theorem test_wf_engine : (Instr.sdecBlockComplete 15).wf = true ∧ (Instr.sdecBlockComplete 16).wf = false := by decide
theorem test_wf_speed : (Instr.overspeed 1048576).wf = false := by decide
theorem test_wf_time : (Instr.triggerTimeEdge 24).wf = false ∧ (Instr.captureEdge 16 true).wf = false ∧
    (Instr.ptpReqTimer 4).wf = false := by decide
theorem test_wf_links : (Instr.gclStatusPoll 32 []).wf = false ∧ (Instr.crackLoopTrip 2).wf = false := by decide
theorem test_wf_memory : (Instr.memRefreshDue 128 []).wf = false ∧ (Instr.memRefreshDue 0 [64]).wf = false ∧
    (Instr.memActLimit 0 64).wf = false ∧ (Instr.memPageIdleClose 8192 0).wf = false ∧
    (Instr.memActCountLimit 0 0 16384).wf = false ∧ (Instr.memAlert ⟨64, 0⟩).wf = false ∧
    (Instr.memAlert ⟨0, 65⟩).wf = false ∧ (Instr.memReadComplete [⟨10, 0, 1, false, 0⟩] ⟨0, []⟩ .clean).wf = false ∧
    (Instr.memReadComplete [⟨9, 0x2000000000, 1, false, 0⟩] ⟨0, []⟩ .clean).wf = false ∧
    (Instr.memReadComplete [] ⟨128, []⟩ .clean).wf = false ∧ (Instr.memReadComplete [] ⟨0, [[64]]⟩ .clean).wf = false ∧
    (Instr.memTempRead []).wf = false := by decide
theorem test_wf_inputs : (Instr.tempReading 22).wf = false ∧ (Instr.watchdogExpiry 4).wf = false ∧
    (Instr.pllLockWindow 13 0 0).wf = false ∧ (Instr.alignerPhaseStep 8).wf = false ∧
    (Instr.gpioInputEvent 2 ⟨true, 3⟩).wf = false := by decide
theorem test_wf_debug : (Instr.dbgAccessRead 4 0 0).wf = false ∧ (Instr.dbgBreakpointHit 0 6).wf = false ∧
    (Instr.dbgResponseUpdate []).wf = false ∧ (Instr.dbgHaltRequest 4).wf = false := by decide

/-! ### Numbers that the manual or a standard gives -/

/-- The angle 0x0003_A5C0 (chapter 0): revolution 3, 42,432 ATK. -/
theorem test_angle : rev { up with rot := { up.rot with angle := 0x0003A5C0 } } = 3 ∧
    atk { up with rot := { up.rot with angle := 0x0003A5C0 } } = 42432 := by decide

/-- "abc" (FIPS 180-4). -/
theorem test_sha256 : sha256 [0x61, 0x62, 0x63] =
    [0xba, 0x78, 0x16, 0xbf, 0x8f, 0x01, 0xcf, 0xea, 0x41, 0x41, 0x40, 0xde, 0x5d, 0xae, 0x22, 0x23,
     0xb0, 0x03, 0x61, 0xa3, 0x96, 0x17, 0x7a, 0x9c, 0xb4, 0x10, 0xff, 0x61, 0xf2, 0x00, 0x15, 0xad] := by
  decide +kernel

/-- "123456789", the check value of CRC-32C. -/
theorem test_crc32c : crc32c [0x31, 0x32, 0x33, 0x34, 0x35, 0x36, 0x37, 0x38, 0x39] = 0xE3069283 := by decide +kernel

/-- The balls of the worked example (chapter 21): PL75_P and PL75_N, GC9_P, BZ41, the two balls of BLS2, and TT4. -/
theorem test_balls : [laneSite 75 false, laneSite 75 true, linkSite 9 false, zoneSite 41, supplySite 2 0, supplySite 2 1,
    trigSite 4].map ballName = ["G1", "G2", "G16", "AD8", "W5", "Y5", "AF17"] := by decide +kernel

/-- The header of row 2,500 of facet 2 (chapter 11). -/
theorem test_row_header : rowHeader 2500 0 2 = 0x909C4 := by decide

/-- The block of four colours (chapter 4): 20 payload bytes, 64 bytes out. -/
theorem test_nzb_decode :
    nzDecode false 64 [0x74, 0x7C, 0, 0, 0, 0, 0x08, 0x9B, 0x46, 0x18, 0x61, 0xE4, 0x2F, 0xD9, 0x41, 0x0E, 0xB0, 0x74, 0x17, 0] =
      (St.ok, (List.replicate 16 [0x10, 0x20, 0x30, 0xFF]).flatten) := by decide +kernel

/-- A straight pixel over an opaque destination (chapter 6): 2,001 and 1,023. -/
theorem test_blend : blendOver ⟨1501, 1501, 1501, 512⟩ ⟨1000, 1000, 1000, 1023⟩ = ⟨2001, 2001, 2001, 1023⟩ ∧
    scale1023 3000 512 = 1501 := by decide

/-- The map of the worked ray (chapter 2), its grid reduced to the four nodes that the ray reads. -/
def mapHead : List Byte :=
  [0x52, 0x4D, 1, 1] ++ leBytes 4 0 ++ leBytes 4 0x10F00000 ++ leBytes 4 0x00900000 ++ leBytes 4 0 ++ [0xE4]

def mapNode (i j : Nat) : Int :=
  if i = 70 then (if j = 19 then 320 else 288) else (if j = 19 then 352 else 256)

theorem test_grid : gridInterp mapNode 9001 2500 = 302 ∧ gridInterp (fun _ _ => -64) 9001 2500 = -64 := by decide

/-- P, T and the facet order of that map; view 74 in facet 2. -/
theorem test_map_fields : rmP mapHead = 0x10F00000 ∧ rmT mapHead = 0x00900000 ∧ rmInvert mapHead = true ∧
    viewIndex mapHead ⟨1677, 26782, 18, 614538, 170637⟩ 2 = 74 ∧ viewIndex mapHead ⟨1677, 26782, 18, 614538, 170637⟩ 0 = 72 := by
  decide

/-- The word of pixel (9,001, 2,500) of facet buffer 2 lies in PC49, bank 39, row 784 (chapter 13). -/
theorem test_interleave : (interleave (facetPixel 2 9001 2500)).1 = 49 ∧
    bankRow (interleave (facetPixel 2 9001 2500)).2 = (39, 784) ∧ (interleave (facetPixel 2 9001 2500)).2 = 51438756 := by decide

/-- TT4 of the worked trigger (chapter 14): edge 1 at 1,000 s and 35,833,333 ns. -/
def tt4 : List Byte :=
  [2, 0, 0, 0] ++ leBytes 6 1000 ++ leBytes 4 2500000 ++ leBytes 2 0 ++ leBytes 4 33333333 ++ leBytes 2 21845 ++ leBytes 2 0 ++
    leBytes 4 100000

theorem test_trigger_edge : timeNs (edgeTime { desc := tt4 } 1) = 1000035833333 := by decide +kernel

/-- With the throttle at step 13 a zone of 120 mA takes 22 mA, and the Ray Engine runs 36 clusters (chapter 18). -/
theorem test_throttle : zoneCurrent { lighting with
      therm := { up.therm with step := 13 }, bl := { up.bl with cap := 64 }
      sco := { lighting.sco with frameSet := { lighting.sco.frameSet with
        params := [(0x4400, 160), (0x4480, 120)] } } } 0 = 22 ∧ clusterCount 13 = 36 := by decide

/-- The estimate at 3,960 rpm with 1,500 × 10⁻⁶ kg·m² is 81.2 J (chapter 17). -/
theorem test_estimate : coastEst { up with
      rot := { up.rot with state := .run, angleValid := true, speed16 := 63360 }
      cfg := { up.cfg with params := [(0x7003, 1500)] } } / 100 = 812 := by decide +kernel

/-- BOOT 17 gives the default set epoch 0x0000_1100_0000_0000 (chapter 15). -/
theorem test_boot_epoch : (after .porRelease { up with
      pwr := { up.pwr with episode := true, porAsserted := true, resetB := false, boot := 16 } }).cfg.epoch = 0x0000110000000000 := by
  decide

/-- The worked PARAM_SET (chapter 15): its bytes are tag 35 and one pair of 0x4100 and 3,300. -/
theorem test_packet_bytes :
    (bytesPacket 2 ([0x04, 0x01, 0x23, 0, 0, 0, 1, 0] ++ List.replicate 12 0 ++ [1, 0, 0, 0, 0, 0x41, 0, 0, 0xE4, 0x0C, 0, 0] ++
      List.replicate 32 0)).1 = 0x0104 ∧
    ptag (bytesPacket 2 ([0x04, 0x01, 0x23, 0, 0, 0, 1, 0] ++ List.replicate 12 0 ++ [1, 0, 0, 0, 0, 0x41, 0, 0, 0xE4, 0x0C, 0, 0] ++
      List.replicate 32 0)).2 = 35 ∧
    paramPairs (bytesPacket 2 ([0x04, 0x01, 0x23, 0, 0, 0, 1, 0] ++ List.replicate 12 0 ++ [1, 0, 0, 0, 0, 0x41, 0, 0, 0xE4, 0x0C, 0, 0] ++
      List.replicate 32 0)).2 = [(0x4100, 3300)] := by decide

/-! ### Single commands -/

/-- The worked claim (chapter 19): sources 23, 32 and 72 at vector 17; 32 was claimed, then 23 and 72 became pending; the
EOI of 32 is followed by a claim of 23. -/
def claimed : State :=
  { up with intc := { up.intc with hroute := [(23, 0x51), (32, 0x51), (72, 0x51)], hpend := [23, 72], active := [(17, 32)] } }

theorem test_eoi_then_claim : (after (.intcClaim 17) (after (.intcEoi 17 32) claimed)).hif.lastRead = 23 + 256 := by decide

/-- A claim at the active vector returns VALID 0. -/
theorem test_claim_active : (after (.intcClaim 17) claimed).hif.lastRead = 0 := by decide

/-- SPIN_UP passes to RUN within 1 %, and LIT_OK needs the angle as well. -/
theorem test_run : (after (.speedSetpointReached 57600) (rot (fun r => { r with state := .spinUp }))).rot.state = .run ∧
    (after (.speedSetpointReached 57600) (rot (fun r => { r with state := .spinUp, angleValid := true }))).rot.litOk = true := by decide

/-- A mode that is not defined is refused with ST_PARAM_RANGE and its reply is written. -/
theorem test_mode_range : ((after (.modeSet (pk [5])) up).hif.replies.head?.map (·.status)) = some 0x0205 := by decide

/-- An index edge after 4,096 counts keeps the counter going. -/
theorem test_index : (after .indexEdge (rot (fun r => { r with angleValid := true, counts := 4096 }))).rot.counts = 0 := by decide

/-- The table gives its rows no bits: no word spells a command. -/
theorem test_no_word : decodeTableWord 32 0 = none := by decide

end Sys2Proof.Tests
end

section
/-! SUPPORT. The register accesses with an effect (R6, R7): what the controller's looks leave of its own registers, the
counters, the window's table of counters, the one part that each access changes, and the accesses one by one. -/
namespace Sys2Proof.Machine

/-! ### What waking and looking leave of the controller -/

@[simp] theorem settle_extCfg (s : State) : (settle s).intc.extCfg = s.intc.extCfg := by
  have h := settle_onlyIn s .intc (by simp)
  simp only [Part.Same] at h
  rw [h]

@[simp] theorem wakeDomain_extCfg (s : State) : (wakeDomain s).intc.extCfg = s.intc.extCfg := by
  have h := wakeDomain_onlyIn s .intc (by simp)
  simp only [Part.Same] at h
  rw [h]

/-- A message sent leaves what is pending. -/
theorem sendMsix_pends (v : Nat) (s : State) : (sendMsix v s).intc.hpend = s.intc.hpend ∧
    (sendMsix v s).intc.cpend = s.intc.cpend ∧ (sendMsix v s).intc.wakeLatch = s.intc.wakeLatch := by
  simp only [sendMsix]; split <;> exact ⟨rfl, rfl, rfl⟩

/-- A look at the vectors leaves what is pending (R493). -/
theorem settle_pends (s : State) : (settle s).intc.hpend = s.intc.hpend ∧
    (settle s).intc.cpend = s.intc.cpend ∧ (settle s).intc.wakeLatch = s.intc.wakeLatch := by
  simp only [settle]
  split
  · exact ⟨rfl, rfl, rfl⟩
  · exact ⟨foldl_same (·.intc.hpend) _ (fun t v => (sendMsix_pends v t).1) _ s,
      foldl_same (·.intc.cpend) _ (fun t v => (sendMsix_pends v t).2.1) _ s,
      foldl_same (·.intc.wakeLatch) _ (fun t v => (sendMsix_pends v t).2.2) _ s⟩

theorem wakeDomain_lightInv {s : State} (h : LightInv s) : LightInv (wakeDomain s) :=
  h.of_same (by simp) (by simp) (by simp) (by simp) (by simp)

/-! ### LIT_OK -/

/-- The conditions of R235 do not read what the interlocks set. -/
theorem litCond_of_onlyIn {s t : State} (h : OnlyIn [.light, .events] s t) : litCond t = litCond s := by
  have hr := h .rot (by simp)
  simp only [Part.Same] at hr
  rw [litCond, hr, litCond]

theorem refreshLit_litOk (s : State) : (refreshLit s).rot.litOk = litCond s := by
  simp only [refreshLit]
  split
  · rename_i h; exact h.symm
  · split <;> simp

theorem interlock_litOk (s : State) : (interlock s).rot.litOk = litCond s := by
  rw [← refreshLit_litOk s]
  simp only [interlock]
  repeat' split
  all_goals simp

/-- The state with bits of ROT_FAULT_CAUSE cleared by writing 1 (R220), before LIT_OK follows. -/
def causeCleared (v : Word) (s : State) : State :=
  { s with rot := { s.rot with
    cause := s.rot.cause &&& ~~~(v.setWidth 9)
    encLost := s.rot.encLost && (s.rot.cause &&& ~~~(v.setWidth 9)).toNat % 32 != 0 } }

theorem clearRotCause_eq (v : Word) (s : State) : clearRotCause v s = refreshLit (causeCleared v s) := rfl

/-- With the encoder bits all 0 the counter may start (R220). -/
theorem causeCleared_encLost {v : Word} {s : State} (h : (causeCleared v s).rot.cause.toNat % 32 = 0) :
    (causeCleared v s).rot.encLost = false := by
  simp only [causeCleared] at h ⊢
  rw [h]; simp

/-! ### Counters (R7) -/

/-- A key taken out of a list is no longer found, and every other key is found as before. -/
theorem lookup_filter_key {α β : Type} [BEq α] [LawfulBEq α] (l : List (α × β)) (c d : α) :
    (l.filter (fun e => e.1 != c)).lookup d = if d == c then none else l.lookup d := by
  induction l with
  | nil => simp
  | cons e l ih =>
    obtain ⟨a, b⟩ := e
    by_cases hac : a = c
    · subst hac
      by_cases hda : d = a
      · simpa [hda] using ih
      · simpa [List.lookup_cons, hda, beq_eq_false_iff_ne.mpr hda] using ih
    · by_cases hda : d = a
      · simp [hac, hda]
      · simpa [hac, List.lookup_cons, beq_eq_false_iff_ne.mpr hda] using ih

/-- A counter that is set reads its value, and every other counter reads as before. -/
@[simp] theorem ctrVal_ctrSet (c d : Ctr) (v : Nat) (s : State) :
    ctrVal (ctrSet c v s) d = if d = c then v else ctrVal s d := by
  by_cases hd : d = c <;> by_cases hv : v = 0 <;>
    simp [ctrVal, ctrSet, lookup_filter_key, List.lookup_cons, hd, hv, beq_eq_false_iff_ne.mpr]

theorem ctrVal_congr {s t : State} (h : t.ctrs = s.ctrs) (c : Ctr) : ctrVal t c = ctrVal s c := by
  simp only [ctrVal, h]

theorem ctrReg_congr {s t : State} (h : t.ctrs = s.ctrs) (c : Ctr) : ctrReg t c = ctrReg s c := by
  simp only [ctrReg, ctrVal_congr h]

/-! ### The counters of the window (R7, R409) -/

/-- The register at a counter's offset shows that counter. -/
theorem windowReg_ctr {x : Nat} {c : Ctr} (h : (x, c) ∈ windowCtrs) (s : State) : windowReg s x = ctrReg s c := by
  have hall : ∀ p ∈ windowCtrs, windowReg s p.1 = ctrReg s p.2 := by
    simp only [windowCtrs, windowCtrs1, windowCtrs2, windowCtrs3, windowCtrs4, windowCtrs5, List.cons_append,
      List.nil_append]
    repeat refine List.forall_mem_cons.mpr ⟨rfl, ?_⟩
    exact List.forall_mem_nil _
  exact hall (x, c) h

/-- Each offset of the table is that of one counter. -/
theorem windowCtrs_lookup : ∀ p ∈ windowCtrs, windowCtrs.lookup p.1 = some p.2 := by decide

/-- No claim, raw state, error record of stacked memory or time word stands at a counter's offset. -/
theorem windowCtrs_apart : ∀ p ∈ windowCtrs, ¬ (0x120300 ≤ p.1 ∧ p.1 < 0x120340) ∧
    ¬ (0x120220 ≤ p.1 ∧ p.1 < 0x120240) ∧ p.1 ∉ [0xD0008, 0xD000C, 0xD0010, 0xE0020] := by decide

/-- Apart from the error record, a read of a memory register clears nothing of its own. -/
theorem memReadClear_of_not_mem {x : Nat} (h : x ∉ [0xD0008, 0xD000C, 0xD0010, 0xE0020]) (hx : x / 0x10000 = 0xD)
    (s : State) : memReadClear (x % 0x10000) s = s := by
  simp only [List.mem_cons, List.not_mem_nil, or_false, not_or] at h
  rw [memReadClear, if_neg (by omega), if_neg (by omega), if_neg (by omega)]

/-- A counter read through the window: its value, and the counter cleared. -/
theorem windowRead_ctr {x : Nat} {c : Ctr} (h : (x, c) ∈ windowCtrs) (s : State) :
    windowRead x s = (ctrReg s c, ctrSet c 0 s) := by
  obtain ⟨hclaim, hraw, hrest⟩ := windowCtrs_apart (x, c) h
  have hclear : windowClear x s = ctrSet c 0 s := by
    simp only [windowClear, windowCtrs_lookup (x, c) h]
    split
    · rename_i hx; exact memReadClear_of_not_mem hrest hx _
    · rw [if_neg (by simp at hrest; omega)]
  rw [windowRead, if_neg hclaim, if_neg hraw, windowReg_ctr h, hclear]

/-! ### The part that each access changes -/

theorem ctrSet_onlyIn (c : Ctr) (v : Nat) (s : State) : OnlyIn [.ctrs] s (ctrSet c v s) := by
  intro q hq; cases q <;> simp_all [Part.Same]

/-- Stated of any value read, for the kernel to leave the value of a particular read unevaluated. -/
theorem setRead_lightInv {s : State} (h : LightInv s) (v : Nat) : LightInv (setRead v s) :=
  h.of_same rfl rfl rfl rfl rfl

theorem setRead_onlyIn (v : Nat) (s : State) : OnlyIn [.hif] s (setRead v s) := by
  intro q hq; cases q <;> simp_all [Part.Same, setRead]

theorem snapCapture_onlyIn (s : State) : OnlyIn [.rot] s (snapCapture s) := by
  intro q hq; cases q <;> simp_all [Part.Same, snapCapture]

theorem popErr_onlyIn (s : State) : OnlyIn [.sdec] s (popErr s) := by
  intro q hq; cases q <;> simp_all [Part.Same, popErr]

theorem popFifo_onlyIn (s : State) : OnlyIn [.tu] s (popFifo s) := by
  intro q hq; cases q <;> simp_all [Part.Same, popFifo]

theorem latchTime_onlyIn (s : State) : OnlyIn [.tu] s (latchTime s) := by
  intro q hq; cases q <;> simp_all [Part.Same, latchTime]

theorem clearZoneFault_onlyIn (k : Nat) (v : Word) (s : State) : OnlyIn [.bl] s (clearZoneFault k v s) := by
  intro q hq; cases q <;> simp_all [Part.Same, clearZoneFault]

theorem causeCleared_onlyIn (v : Word) (s : State) : OnlyIn [.rot] s (causeCleared v s) := by
  intro q hq; cases q <;> simp_all [Part.Same, causeCleared]

theorem qerrWrite_onlyIn (v : Word) (s : State) : OnlyIn [.hif] s (hifWrite 0x004 v s) := by
  intro q hq; cases q <;> simp_all [Part.Same, hifWrite]

theorem failMaskWrite_onlyIn (v : Word) (s : State) : OnlyIn [.gcl] s (gclWrite 0x010 v s) := by
  intro q hq; cases q <;> simp_all [Part.Same, gclWrite]

theorem pnlCauseWrite_onlyIn (v : Word) (s : State) : OnlyIn [.pnl] s (pnlWrite 0x004 v s) := by
  intro q hq; cases q <;> simp_all [Part.Same, pnlWrite]

theorem setExt_onlyIn (n v : Nat) (s : State) : OnlyIn [.intc] s (setExt n v s) := by
  intro q hq; cases q <;> simp_all [Part.Same, setExt]

/-! ### Bits -/

/-- Word 0 of a time is the low word of its packing (R361). -/
theorem ofNat_timeWord_zero (t : Nat) : BitVec.ofNat 32 (timeWord t 0) = BitVec.ofNat 32 (timePack t) := by
  rw [timeWord, Nat.mul_zero, Nat.pow_zero, Nat.div_one]
  generalize timePack t = n
  exact BitVec.eq_of_toNat_eq (by simp)

/-- The zones of word `k` of BL_ZONE_FAULT written as 1 are cleared, and no other zone (R313). -/
theorem clearZoneFault_getLsbD {k : Nat} (hk : k < 4) (v : Word) (s : State) (z : Nat) :
    (clearZoneFault k v s).bl.fault.getLsbD z =
      (s.bl.fault.getLsbD z && !(decide (32 * k ≤ z) && v.getLsbD (z - 32 * k) && decide (z < 32 * k + 32))) := by
  have hword : decide (z < 32 * k + 32) = true ∨ v.getLsbD (z - 32 * k) = false := by
    by_cases h : z < 32 * k + 32
    · exact .inl (by simpa using h)
    · exact .inr (BitVec.getLsbD_of_ge _ _ (by omega))
  by_cases hz : z < 128
  · simp only [clearZoneFault, Nat.mod_eq_of_lt hk, BitVec.getLsbD_and, BitVec.getLsbD_not, BitVec.getLsbD_ofNat, hz,
      Nat.testBit_mul_two_pow, BitVec.testBit_toNat, decide_true, Bool.true_and]
    rcases hword with h | h <;> simp [h]
  · simp [BitVec.getLsbD_of_ge _ _ (Nat.not_lt.mp hz)]

/-- What INTC_EXT_CFGn takes of a word: MODE and FILTER. -/
theorem extFields_eq (v : Word) : BitVec.ofNat 32 (v.toNat % 8 + v.toNat / 256 % 256 * 256) = v &&& 0xFF07 := by
  have hmask : ∀ i < 32, (0xFF07 : Word).getLsbD i = decide (i < 3 ∨ 8 ≤ i ∧ i < 16) := by decide
  have hsum : v.toNat % 8 + v.toNat / 256 % 256 * 256 = 2 ^ 8 * (v.toNat / 2 ^ 8 % 2 ^ 8) + v.toNat % 2 ^ 3 := by omega
  refine BitVec.eq_of_getLsbD_eq fun i hi => ?_
  rw [BitVec.getLsbD_and, hmask i hi, hsum, BitVec.getLsbD_ofNat, Nat.testBit_two_pow_mul_add _ (by omega),
    Nat.testBit_mod_two_pow, Nat.testBit_mod_two_pow, Nat.testBit_div_two_pow, BitVec.testBit_toNat]
  by_cases h : i < 8
  · simp [h, hi, show ¬ (8 ≤ i ∧ i < 16) by omega, Bool.and_comm]
  · have hshift : i - 8 + 8 = i := by omega
    simp [hi, h, hshift, show ¬ i < 3 by omega, show 8 ≤ i by omega, show i - 8 < 8 ↔ i < 16 by omega,
      BitVec.testBit_toNat, Bool.and_comm]

/-! ### The accesses one by one -/

section
variable {s : State} (hl : LightInv s) (hlive : live s = true)
include hl hlive

/-- A counter read through the window (R7): its value is returned, and it alone is cleared. -/
theorem counterRead_happens {o : Nat} {c : Ctr} (ho : o < 0x200000) (hc : (o / 4 * 4, c) ∈ windowCtrs) :
    Happens (.rcRegisterRead o) s [.hif, .ctrs] (fun t =>
      t.hif = { s.hif with lastRead := BitVec.ofNat 32 (ctrReg s c) } ∧ ctrVal t c = 0 ∧
      ∀ d, d ≠ c → ctrVal t d = ctrVal s d) := by
  have hreg : ctrReg (wakeDomain s) c = ctrReg s c := ctrReg_congr (by simp) c
  have he : exec (.rcRegisterRead o) s = done (setRead (ctrReg s c) (ctrSet c 0 (wakeDomain s))) := by
    show execRcRegisterRead o s = _
    simp [execRcRegisterRead, hlive, windowWord, ho, windowRead_ctr hc, hreg]
  have hval (d : Ctr) : ctrVal (settle (setRead (ctrReg s c) (ctrSet c 0 (wakeDomain s)))) d =
      if d = c then 0 else ctrVal s d := by
    rw [ctrVal_congr (s := ctrSet c 0 (wakeDomain s)) (by simp [setRead]), ctrVal_ctrSet,
      ctrVal_congr (s := s) (t := wakeDomain s) (by simp)]
  have hlight : LightInv (ctrSet c 0 (wakeDomain s)) := (wakeDomain_lightInv hl).of_same rfl rfl rfl rfl rfl
  refine runs_of_done he ?_ (by simp) (setRead_lightInv hlight _)
    ⟨by simp [setRead], by simp [hval], fun d hd => by simp [hval, hd]⟩
  exact ((wakeDomain_onlyIn s).mono (by simp)).trans
    (((ctrSet_onlyIn _ _ _).mono (by simp)).trans ((setRead_onlyIn _ _).mono (by simp)))

/-- Beyond the window a read answers 0. -/
theorem readBeyondWindow_happens {o : Nat} (ho : 0x200000 ≤ o) :
    Happens (.rcRegisterRead o) s [.hif] (fun t => t.hif = { s.hif with lastRead := 0 }) := by
  have he : exec (.rcRegisterRead o) s = done (setRead 0 s) := by
    show execRcRegisterRead o s = _
    simp [execRcRegisterRead, hlive, windowWord, Nat.not_lt.mpr ho]
  exact runs_of_done he ((setRead_onlyIn 0 s).mono (by simp)) (by simp) (setRead_lightInv hl 0) (by simp [setRead])

/-- Beyond the window a write has no effect. -/
theorem writeBeyondWindow_nothing {o : Nat} (v : Word) (ho : 0x200000 ≤ o) : Nothing (.registerWrite o v) s := by
  have he : exec (.registerWrite o v) s = done s := by
    show execRegisterWrite o v s = _
    simp [execRegisterWrite, hlive, windowWord, Nat.not_lt.mpr ho]
  exact runs_of_done he (OnlyIn.refl _ s) (by simp) hl (settle_pends s)

omit hl in
/-- An access that acts outside a reset episode and leaves the interlocks as they are. -/
theorem liveAccess_happens {c : Instr} {u : State} {ps : List Part} {P : State → Prop}
    (he : exec c s = done (if live s then u else s)) (hu : OnlyIn ps s u) (hlu : LightInv u) (hP : P (settle u)) :
    Happens c s ps P :=
  runs_of_done (he.trans (by rw [if_pos hlive])) (hu.mono fun _ hq => List.mem_cons_of_mem _ hq) (by simp) hlu hP

/-- CAPTURE (R221). -/
theorem rotSnapCapture_happens : Happens .rotSnapCapture s [.rot] (fun t =>
    t.rot = { s.rot with snapAngle := s.rot.angle, snapTime := stampTime s }) :=
  liveAccess_happens hlive (u := snapCapture s) rfl (snapCapture_onlyIn s) hl (by simp [snapCapture])

/-- SDEC_ERR_POP (R106). -/
theorem sdecErrPop_happens : Happens .sdecErrPop s [.sdec] (fun t =>
    t.sdec = { s.sdec with errs := s.sdec.errs.drop 1, overflowed := false }) :=
  liveAccess_happens hlive (u := popErr s) rfl (popErr_onlyIn s) (hl.of_same rfl rfl rfl rfl rfl) (by simp [popErr])

/-- TC_FIFO_POP (R380). -/
theorem tcFifoPop_happens : Happens .tcFifoPop s [.tu] (fun t => t.tu = { s.tu with fifo := s.tu.fifo.drop 1 }) :=
  liveAccess_happens hlive (u := popFifo s) rfl (popFifo_onlyIn s) (hl.of_same rfl rfl rfl rfl rfl) (by simp [popFifo])

/-- TU_TIME0 read (R361). -/
theorem tuTimeRead_happens : Happens .tuTimeRead s [.tu, .hif] (fun t => t.tu = { s.tu with latch := stampTime s } ∧
    t.hif = { s.hif with lastRead := BitVec.ofNat 32 (timePack (stampTime s)) }) := by
  refine liveAccess_happens hlive (u := setRead (timeWord (stampTime s) 0) (latchTime s)) rfl ?_
    (setRead_lightInv (hl.of_same rfl rfl rfl rfl rfl) _) ⟨?_, ?_⟩
  · exact ((latchTime_onlyIn s).mono (by simp)).trans ((setRead_onlyIn _ _).mono (by simp))
  · simp [setRead, latchTime]
  · simp [setRead, latchTime, ofNat_timeWord_zero]

omit hl in
/-- ROT_FAULT_CAUSE written (R220): the interlocks settle LIT_OK on the bits that are left (R235). -/
theorem rotFaultCauseClear_happens (v : Word) : Happens (.rotFaultCauseClear v) s [.rot, .light] (fun t =>
    t.rot.cause = s.rot.cause &&& ~~~(v.setWidth 9) ∧ t.rot.state = s.rot.state ∧ t.rot.angleValid = s.rot.angleValid ∧
    t.rot.litOk = litCond t ∧ (t.rot.cause.toNat % 32 = 0 → t.rot.encLost = false)) := by
  have he : exec (.rotFaultCauseClear v) s = done (clearRotCause v s) := by
    show execRotFaultCauseClear v s = _
    simp [execRotFaultCauseClear, hlive]
  rw [clearRotCause_eq] at he
  generalize hw : causeCleared v s = w at he
  have hlit : OnlyIn [.light, .events] w (settle (interlock (refreshLit w))) :=
    (refreshLit_onlyIn w).trans ((interlock_onlyIn _).trans ((settle_onlyIn _).mono (by simp)))
  have hrot := hlit .rot (by simp)
  simp only [Part.Same] at hrot
  have hsw : OnlyIn [.rot] s w := hw ▸ causeCleared_onlyIn v s
  refine runs_of_done_light he ((hsw.mono (by simp)).trans ((refreshLit_onlyIn w).mono (by simp))) (by simp) (by simp)
    ⟨?_, ?_, ?_, ?_, ?_⟩
  · rw [hrot, ← hw]; rfl
  · rw [hrot, ← hw]; rfl
  · rw [hrot, ← hw]; rfl
  · rw [litCond_of_onlyIn hlit, ← litCond_of_onlyIn (refreshLit_onlyIn w), ← interlock_litOk]; simp
  · rw [hrot, ← hw]; exact causeCleared_encLost

/-- BL_ZONE_FAULT written (R313). -/
theorem blZoneFaultClear_happens {k : Nat} (v : Word) (hk : k < 4) : Happens (.blZoneFaultClear k v) s [.bl] (fun t =>
    (∀ z, t.bl.fault.getLsbD z =
      (s.bl.fault.getLsbD z && !(decide (32 * k ≤ z) && v.getLsbD (z - 32 * k) && decide (z < 32 * k + 32)))) ∧
    t.bl = { s.bl with fault := t.bl.fault, verdict := t.bl.verdict }) := by
  have he : exec (.blZoneFaultClear k v) s = done (clearZoneFault k v s) := by
    show execBlZoneFaultClear k v s = _
    simp [execBlZoneFaultClear, hlive, hk]
  refine runs_of_done he ((clearZoneFault_onlyIn k v s).mono (by simp)) (by simp) hl ⟨fun z => ?_, ?_⟩
  · rw [(show (settle (clearZoneFault k v s)).bl = (clearZoneFault k v s).bl by simp)]
    exact clearZoneFault_getLsbD hk v s z
  · simp [clearZoneFault]

/-- A write to the window: what `windowWrite` makes of the awake state. -/
theorem registerWrite_happens {o x : Nat} {v : Word} {u : State} {ps : List Part} {P : State → Prop}
    (hx : windowWord o = some x) (hu : windowWrite x v (wakeDomain s) = u) (ho : OnlyIn (.events :: ps) (wakeDomain s) u)
    (hlu : LightInv (wakeDomain s) → LightInv u) (hP : P (settle u)) : Happens (.registerWrite o v) s ps P := by
  have he : exec (.registerWrite o v) s = done u := by
    show execRegisterWrite o v s = _
    simp [execRegisterWrite, hlive, hx, hu]
  exact runs_of_done he (((wakeDomain_onlyIn s).mono (by simp)).trans ho) (by simp)
    (hlu (wakeDomain_lightInv hl)) hP

/-- HIF_QERR written. -/
theorem qerrWrite_happens (v : Word) : Happens (.registerWrite 0x00004 v) s [.hif] (fun t =>
    t.hif = { s.hif with qerr := s.hif.qerr &&& ~~~(v.setWidth 16) }) :=
  registerWrite_happens hl hlive (x := 0x00004) (u := hifWrite 0x004 v (wakeDomain s)) rfl rfl
    ((qerrWrite_onlyIn v _).mono (by simp)) (fun h => h.of_same rfl rfl rfl rfl rfl) (by simp [hifWrite])

/-- GCL_FAIL_MASK written. -/
theorem failMaskWrite_happens (v : Word) : Happens (.registerWrite 0xB1010 v) s [.gcl] (fun t =>
    t.gcl = { s.gcl with failMask := s.gcl.failMask &&& ~~~v }) :=
  registerWrite_happens hl hlive (x := 0xB1010) (u := gclWrite 0x010 v (wakeDomain s)) rfl rfl
    ((failMaskWrite_onlyIn v _).mono (by simp)) (fun h => h.of_same rfl rfl rfl rfl rfl) (by simp [gclWrite])

/-- PNL_FAULT_CAUSE written. -/
theorem pnlCauseWrite_happens (v : Word) : Happens (.registerWrite 0xC0004 v) s [.pnl] (fun t =>
    t.pnl = { s.pnl with cause := s.pnl.cause &&& ~~~(v.setWidth 4) }) :=
  registerWrite_happens hl hlive (x := 0xC0004) (u := pnlWrite 0x004 v (wakeDomain s)) rfl rfl
    ((pnlCauseWrite_onlyIn v _).mono (by simp)) (fun h => h.of_same rfl rfl rfl rfl rfl) (by simp [pnlWrite])

/-- INTC_EXT_CFG0 written (R496): MODE and FILTER are taken. -/
theorem extCfgWrite_happens (v : Word) (hlen : s.intc.extCfg.length = 2) :
    Happens (.registerWrite 0x120010 v) s [.intc] (fun t =>
      t.intc.extCfg.getD 0 0 = v &&& 0xFF07 ∧ t.intc.extCfg.getD 1 0 = s.intc.extCfg.getD 1 0) := by
  have hcfg : (setExt 0 v.toNat (wakeDomain s)).intc.extCfg = s.intc.extCfg.set 0 (v &&& 0xFF07) := by
    simp only [setExt, extFields_eq, wakeDomain_extCfg]
  refine registerWrite_happens hl hlive (x := 0x120010) (u := setExt 0 v.toNat (wakeDomain s)) rfl rfl
    ((setExt_onlyIn 0 _ _).mono (by simp)) (fun h => h.of_same rfl rfl rfl rfl rfl) ?_
  rw [settle_extCfg, hcfg]
  simp [List.getD_eq_getElem?_getD, hlen]

end

/-- Settles O34: each access is its own lemma above; a counter's read goes through the window's table. -/
theorem registerAccesses : Obligations.RegisterAccesses := by
  intro s hl hlive
  refine ⟨?_, fun o => readBeyondWindow_happens hl hlive, fun o v => writeBeyondWindow_nothing hl hlive v,
    rotSnapCapture_happens hl hlive, sdecErrPop_happens hl hlive, tcFifoPop_happens hl hlive,
    tuTimeRead_happens hl hlive, rotFaultCauseClear_happens hlive, fun k v => blZoneFaultClear_happens hl hlive v,
    qerrWrite_happens hl hlive, failMaskWrite_happens hl hlive, pnlCauseWrite_happens hl hlive,
    extCfgWrite_happens hl hlive⟩
  rintro o x c ho rfl hc
  exact counterRead_happens hl hlive ho hc

end Sys2Proof.Machine
end

section
/-! SUPPORT. Commands and events that end later: a source raised stays raised, a counter counts, and the command in flight
that ends has its one reply. -/
namespace Sys2Proof.Machine

/-! ### Sources stay raised (R489, R495, R497) -/

/-- The routes and the sleep of the controller are as they were, and nothing pending or latched is lost. -/
def EventsKept (s t : State) : Prop :=
  t.intc.asleep = s.intc.asleep ∧ t.intc.hroute = s.intc.hroute ∧ t.intc.croute = s.intc.croute ∧
  s.intc.hpend ⊆ t.intc.hpend ∧ s.intc.cpend ⊆ t.intc.cpend ∧ s.intc.wakeLatch ⊆ t.intc.wakeLatch

theorem EventsKept.of_intc {s t : State} (h : t.intc = s.intc) : EventsKept s t := by simp [EventsKept, h]

theorem EventsKept.trans {s t u : State} (h : EventsKept s t) (k : EventsKept t u) : EventsKept s u := by
  obtain ⟨ha, hh, hc, hp, hq, hw⟩ := h
  obtain ⟨ka, kh, kc, kp, kq, kw⟩ := k
  exact ⟨ka.trans ha, kh.trans hh, kc.trans hc, List.Subset.trans hp kp, List.Subset.trans hq kq,
    List.Subset.trans hw kw⟩

theorem Raised.kept {n : Nat} {s t : State} (h : Raised n s) (k : EventsKept s t) : Raised n t := by
  obtain ⟨awake, asleep⟩ := h
  obtain ⟨ka, kh, kc, kp, kq, kw⟩ := k
  have hen : hostEn t n = hostEn s n := by simp only [hostEn, hroute, kh]
  simp only [Raised, ka, hen, kc]
  exact ⟨fun ha => ⟨fun he => kp ((awake ha).1 he), fun he => kq ((awake ha).2 he)⟩, fun ha he => kw (asleep ha he)⟩

theorem mem_insertNat {n m : Nat} {l : List Nat} : m ∈ insertNat n l ↔ m = n ∨ m ∈ l := by
  induction l with
  | nil => simp [insertNat]
  | cons k l ih =>
    simp only [insertNat]
    split
    · simp
    · split
      · rename_i h; subst h; simp
      · simp only [List.mem_cons, ih]; exact or_left_comm

theorem raise_kept (n : Nat) (s : State) : EventsKept s (raise n s) := by
  have hins (l : List Nat) : l ⊆ insertNat n l := fun m hm => mem_insertNat.mpr (.inr hm)
  simp only [raise]
  repeat' split
  all_goals simp [EventsKept, hins]

/-- A source raised is raised. -/
theorem raise_raised (n : Nat) (s : State) : Raised n (raise n s) := by
  obtain ⟨ka, kh, kc, -, -, -⟩ := raise_kept n s
  have hen : hostEn (raise n s) n = hostEn s n := by simp only [hostEn, hroute, kh]
  simp only [Raised, ka, hen, kc]
  by_cases ha : s.intc.asleep = true
  · refine ⟨fun h => absurd ha (by simp [h]), fun _ he => ?_⟩
    have hb : (hostEn s n || (tget? s.intc.croute n).isSome) = true := by simpa using he
    rw [raise, if_pos ha, if_pos hb]
    exact mem_insertNat.mpr (.inl rfl)
  · refine ⟨fun _ => ⟨fun he => ?_, fun he => ?_⟩, fun h => absurd h ha⟩ <;>
      simp [raise, ha, he, mem_insertNat]

theorem sendMsix_kept (v : Nat) (s : State) : EventsKept s (sendMsix v s) := by
  simp only [sendMsix]; split <;> simp [EventsKept]

theorem settle_kept (s : State) : EventsKept s (settle s) := by
  have hfold : ∀ (l : List Nat) (t : State), EventsKept t (l.foldl (fun t v => sendMsix v t) t) := by
    intro l
    induction l with
    | nil => exact fun t => .of_intc rfl
    | cons v l ih => exact fun t => (sendMsix_kept v t).trans (ih _)
  simp only [settle]
  split
  · exact .of_intc rfl
  · exact hfold _ s

theorem onQueue_kept (n : Nat) (f : Queue → Queue) (s : State) : EventsKept s (onQueue n f s) := .of_intc (by simp)

theorem deliver_kept (p : Pkt) (r : Reply) (s : State) : EventsKept s (deliver p r s) := by
  simp only [deliver]
  split
  · generalize hu : onQueue p.path _ s = u
    refine EventsKept.trans (t := u) (hu ▸ onQueue_kept _ _ s) ?_
    by_cases hf : p.flags.getLsbD 0 = true
    · rw [if_pos hf]
      split
      · exact sendMsix_kept _ _
      · exact onQueue_kept _ _ _
    · rw [if_neg hf]; exact .of_intc rfl
  · split
    · exact .of_intc rfl
    · split
      · refine EventsKept.trans ?_ (raise_kept 194 _)
        exact .of_intc rfl
      · exact .of_intc rfl

theorem writeReply_kept (op : Nat) (p : Pkt) (e : Ending) (s : State) : EventsKept s (writeReply op p e s) := by
  simp only [writeReply]
  exact EventsKept.trans (.of_intc (by simp)) (deliver_kept p _ _)

theorem finish_kept (tag : Nat) (e : Ending) (s : State) : EventsKept s (finish tag e s) := by
  simp only [finish]
  split
  · exact .of_intc rfl
  · split
    · exact .of_intc (by simp)
    · refine EventsKept.trans ?_ (writeReply_kept _ _ _ _)
      exact .of_intc rfl

/-! ### Counters (R7) -/

theorem Counted.of_ctrs {c : Ctr} {n : Nat} {s t s' t' : State} (h : Counted c n s t) (hs : s.ctrs = s'.ctrs)
    (ht : t'.ctrs = t.ctrs) : Counted c n s' t' := by
  simpa only [Counted, ctrVal_congr ht, ctrVal_congr hs] using h

/-- A count reaches its counter alone, up to the maximum. -/
theorem count_counted (c : Ctr) (s : State) : Counted c 1 s (count c s) := by
  by_cases hmax : ctrMax ≤ ctrVal s c
  · simp [Counted, count, countN, hmax]
  · have hval (d : Ctr) : ctrVal (count c s) d = if d = c then min ctrMax (ctrVal s c + 1) else ctrVal s d := by
      simp only [count, countN, if_neg hmax]
      split
      · rename_i hsat
        rw [ctrVal_congr (s := ctrSet c ctrMax s) (by simp), ctrVal_ctrSet, Nat.min_eq_left hsat]
      · rw [ctrVal_ctrSet, Nat.min_eq_right (by omega)]
    exact ⟨by simp [hval, hmax], fun d hd => by simp [hval, hd]⟩

/-! ### The part that each update changes -/

theorem count_onlyIn (c : Ctr) (s : State) : OnlyIn [.ctrs, .events] s (count c s) := by
  have hset (v : Nat) : OnlyIn [.ctrs, .events] s (ctrSet c v s) := (ctrSet_onlyIn c v s).mono (by simp)
  simp only [count, countN, raiseIf]
  repeat' split
  · exact OnlyIn.refl _ s
  · exact (hset _).trans ((raise_onlyIn _ _).mono (by simp))
  · exact hset _
  · exact hset _

theorem blackBox_onlyIn (code source : Nat) (d : Word) (s : State) : OnlyIn [.bb] s (blackBox code source d s) := by
  intro q hq; cases q <;> simp_all [Part.Same]

theorem withCfg_onlyIn (v : Cfg) (s : State) : OnlyIn [.cfg] s { s with cfg := v } := by
  intro q hq; cases q <;> simp_all [Part.Same]

theorem withTherm_onlyIn (v : Therm) (s : State) : OnlyIn [.therm] s { s with therm := v } := by
  intro q hq; cases q <;> simp_all [Part.Same]

theorem withRmap_onlyIn (v : Rmap) (s : State) : OnlyIn [.rmap] s { s with rmap := v } := by
  intro q hq; cases q <;> simp_all [Part.Same]

theorem withPwr_onlyIn (v : Pwr) (s : State) : OnlyIn [.pwr] s { s with pwr := v } := by
  intro q hq; cases q <;> simp_all [Part.Same]

theorem withSil_onlyIn (v : Sil) (s : State) : OnlyIn [.sil] s { s with sil := v } := by
  intro q hq; cases q <;> simp_all [Part.Same]

theorem withBb_onlyIn (v : Bb) (s : State) : OnlyIn [.bb] s { s with bb := v } := by
  intro q hq; cases q <;> simp_all [Part.Same]

theorem memUndef_onlyIn (a n : Nat) (s : State) : OnlyIn [.mem, .freeCtr] s (memUndef a n s) := by
  intro q hq; cases q <;> simp_all [Part.Same, memUndef]

/-- What leaves both parts of the Host Interface leaves it whole. -/
theorem OnlyIn.hif_eq {ps : List Part} {s t : State} (h : OnlyIn ps s t) (hb : Part.books ∉ ps) (hh : Part.hif ∉ ps) :
    t.hif = s.hif := by
  have hbooks := h _ hb
  have hrest := h _ hh
  simp only [Part.Same] at hbooks hrest
  rw [hrest]; simp [hbooks]

/-! ### Events apart from the light -/

/-- The parts that the interlocks read. -/
def lightReads : List Part := [.light, .rot, .bl, .cond, .hif, .pnl]

/-- What an event does that leaves the parts which the interlocks read. -/
theorem happens_of_done {c : Instr} {s u : State} {ps : List Part} {P : State → Prop} (he : exec c s = done u)
    (hl : LightInv s) (hu : OnlyIn (.events :: ps) s u) (hd : ∀ q ∈ lightReads, q ∉ Part.events :: ps)
    (hP : P (settle u)) : Happens c s ps P := by
  have hpnl := hu .pnl (hd _ (by decide))
  simp only [Part.Same] at hpnl
  exact runs_of_done he hu (by simp)
    (hl.of_onlyIn hu (hd _ (by decide)) (hd _ (by decide)) (hd _ (by decide)) (hd _ (by decide)) (hd _ (by decide))
      (by rw [hpnl])) hP

theorem Happens.imp {c : Instr} {s : State} {ps : List Part} {P Q : State → Prop} (h : Happens c s ps P)
    (hPQ : ∀ t, P t → Q t) : Happens c s ps Q := by
  obtain ⟨t, he, ho, hp⟩ := h
  exact ⟨t, he, ho, hPQ t hp⟩

/-- What an event does that has no effect. -/
theorem nothing_of_done {c : Instr} {s : State} (he : exec c s = done s) (hl : LightInv s) : Nothing c s :=
  runs_of_done he (OnlyIn.refl _ s) (by simp) hl (settle_pends s)

/-! ### The end of a command in flight (R396, R398) -/

section
variable {s u : State} {tag : Nat} {f : Flight}

theorem Flying.tag_eq (h : Flying s tag f) : ptag f.p = tag := by
  simpa using List.find?_some h.1

/-- A command in flight is told of by its state's books alone. -/
theorem Flying.of_hif (h : Flying s tag f) (hh : u.hif = s.hif) : Flying u tag f := by
  simpa only [Flying, flightOf, hh] using h

/-- A flight that stays when a command ends stood there before, under another tag. -/
theorem depDone_mem {fs : List Flight} {good : Bool} {g : Flight}
    (hg : g ∈ depDone tag good (fs.filter (fun x => ptag x.p != tag))) :
    ∃ x ∈ fs, x.op = g.op ∧ x.p = g.p ∧ x.started = g.started ∧ ptag x.p ≠ tag := by
  obtain ⟨x, hx, rfl⟩ := List.mem_map.mp hg
  obtain ⟨hmem, htag⟩ := List.mem_filter.mp hx
  refine ⟨x, hmem, ?_, ?_, ?_, by simpa using htag⟩ <;> split <;> rfl

/-- The commands in flight once one has ended. -/
def flightsLeft (tag : Nat) (e : Ending) (s : State) : List Flight :=
  depDone tag (decide (e.status < 0x100)) (s.hif.flights.filter (fun g => ptag g.p != tag))

/-- The state in which the reply of a command that ends is written. -/
def flightEnded (tag : Nat) (e : Ending) (s : State) : State :=
  { s with hif := { s.hif with flights := flightsLeft tag e s }
           blt := { s.blt with queue := bltDepDone (flightsLeft tag e s) s.blt.queue } }

/-- What the reply says: the ending, and whether the bound was extended. -/
def replyEnding (f : Flight) (e : Ending) : Ending := { e with rflags := e.rflags ||| (if f.ext then rfExtended else 0) }

variable (hf : Flying s tag f) (e : Ending)
include hf

/-- The end of a command whose reply is written. -/
theorem finish_flying : finish tag e s = writeReply f.op f.p (replyEnding f e) (flightEnded tag e s) := by
  obtain ⟨hfl, hsil⟩ := hf
  simp only [finish, hfl, hsil, Bool.false_eq_true, if_false]
  rfl

theorem finish_flights : (finish tag e s).hif.flights = flightsLeft tag e s := by
  rw [finish_flying hf e]
  exact (writeReply_replied f.op f.p _ _).2

/-- The command that ends has its one reply, and its tag is free. -/
theorem finish_finished : Finished s (finish tag e s) f e.status := by
  obtain ⟨r, hr, hst, htag, hop, -⟩ := (writeReply_replied f.op f.p (replyEnding f e) (flightEnded tag e s)).1
  refine ⟨?_, r, by rw [finish_flying hf e, hr]; rfl, hst, htag, hop⟩
  rw [flightOf, finish_flights hf e, hf.tag_eq, List.find?_eq_none]
  intro g hg hgt
  obtain ⟨x, -, -, hp, -, hx⟩ := depDone_mem hg
  exact hx (by rw [hp]; simpa using hgt)

/-- Without an image the end of a command leaves stacked memory. -/
theorem finish_mem (hi : e.image = []) : (finish tag e s).mem = s.mem := by
  rw [finish_flying hf e, writeReply_mem (e := replyEnding f e) hi]
  rfl

/-- Without an image the end of a command changes the books and the Blitter's dependencies. -/
theorem finish_onlyIn (hi : e.image = []) : OnlyIn [.books, .blt, .events] s (finish tag e s) := by
  have hmem := finish_mem hf e hi
  intro q hq
  by_cases hm : q = .mem
  · subst hm; exact hmem
  rw [finish_flying hf e]
  have hq' : q ∉ [Part.books, .blt, .events, .mem] := by
    simp only [List.mem_cons, List.not_mem_nil, or_false, not_or] at hq ⊢
    exact ⟨hq.1, hq.2.1, hq.2.2, hm⟩
  refine OnlyIn.trans ?_ ((writeReply_onlyIn f.op f.p _ _).mono (by simp)) q hq'
  intro q hq; cases q <;> simp_all [Part.Same, flightEnded]

/-- The only started command of an opcode has ended: none is left. -/
theorem startedFlights_finish {op : Nat} (hs : startedFlights s op = [f]) : startedFlights (finish tag e s) op = [] := by
  rw [startedFlights, List.filter_eq_nil_iff]
  intro g hg hst
  rw [finish_flights hf e] at hg
  obtain ⟨x, hx, hop, -, hxs, htag⟩ := depDone_mem hg
  have hmem : x ∈ startedFlights s op := List.mem_filter.mpr ⟨hx, by rw [hop, hxs]; exact hst⟩
  rw [hs, List.mem_singleton] at hmem
  exact htag (by rw [hmem]; exact hf.tag_eq)

end

theorem Finished.of_hif {s t s' t' : State} {f : Flight} {st : Nat} (h : Finished s t f st) (hs : s.hif = s'.hif)
    (ht : t'.hif = t.hif) : Finished s' t' f st := by
  simpa only [Finished, flightOf, hs, ht] using h

/-- A command in flight ends: of what came before, `u` is the state in which its reply is written. -/
theorem finish_finished_of_hif {s u : State} {tag : Nat} {f : Flight} (hf : Flying s tag f) (hh : u.hif = s.hif)
    (e : Ending) : Finished s (finish tag e u) f e.status :=
  (finish_finished (hf.of_hif hh) e).of_hif hh rfl

end Sys2Proof.Machine
end

section
/-! SUPPORT. The values that a calibration applies (R481 to R483): each item's measurement sets its own parameter, and no
other item's disturbs it. -/
namespace Sys2Proof.Machine

/-- A parameter set reads its value, and every other one reads as before. -/
theorem tget_paramPut (t : Table Word) (pn q : Nat) (v : Word) :
    tget (paramPut t pn v) q (paramDefault q) = if q = pn then v else tget t q (paramDefault q) := by
  simp only [paramPut]
  split
  · rename_i h
    rw [tget_tdel]
    split
    · rename_i hq; rw [hq, h]
    · rfl
  · rw [tget_tset]

/-- Of the configuration no more differs than the parameters in force. -/
def ParamsOnly (s t : State) : Prop := t.cfg = { s.cfg with params := t.cfg.params }

theorem ParamsOnly.trans {s t u : State} (h : ParamsOnly s t) (k : ParamsOnly t u) : ParamsOnly s u := by
  simp only [ParamsOnly] at h k ⊢
  rw [k, h]

/-- The same, and parameter `q` is as it was. -/
def ParamKept (q : Nat) (s t : State) : Prop :=
  ParamsOnly s t ∧ tget t.cfg.params q (paramDefault q) = tget s.cfg.params q (paramDefault q)

theorem ParamKept.trans {q : Nat} {s t u : State} (h : ParamKept q s t) (k : ParamKept q t u) : ParamKept q s u :=
  ⟨h.1.trans k.1, k.2.trans h.2⟩

theorem ParamKept.par {q : Nat} {s t : State} (h : ParamKept q s t) : par t q = par s q := by
  have hact : t.cfg.active = s.cfg.active := by rw [h.1]
  simp only [Machine.par, paramWord, hact, h.2]

/-- The parameter of an item: a sink's, or an input's. -/
def calPn (item k : Nat) : Nat := if item = 0 then 0xA000 + k else 0xA100 + k

/-- What the measurement of an item gives for its parameter, where it gives a value: an input keeps its OFFSET. -/
def calValue (s : State) (item k : Nat) (m : Nat × Nat) : Option Nat :=
  if item = 0 then sinkCal m.1 m.2
  else (inputGain (refOf s k) m.1).map (fun v => v % 65536 + par s (0xA100 + k) / 65536 * 65536)

/-- A measurement reads no more of an input than its type and its parameter. -/
theorem calValue_congr {s t : State} {item k : Nat} (h : item ≠ 0 → par t (0xA100 + k) = par s (0xA100 + k) ∧
    par t (0x7200 + 16 * k) = par s (0x7200 + 16 * k)) (m : Nat × Nat) : calValue t item k m = calValue s item k m := by
  by_cases hi : item = 0
  · rw [calValue, calValue, if_pos hi, if_pos hi]
  · obtain ⟨hval, htype⟩ := h hi
    have href : refOf t k = refOf s k := by rw [refOf, refOf, tsPar, tsPar, Nat.add_zero, htype]
    rw [calValue, calValue, if_neg hi, if_neg hi, href, hval]

theorem orFree_cfg (v : Option Nat) (s : State) : (orFree v s).2.cfg = s.cfg := by cases v <;> rfl

/-- The parameter that a measurement sets: to what it gives. -/
theorem calPut_sets {s : State} {item k w : Nat} {m : Nat × Nat} (h : calValue s item k m = some w) :
    tget (calPut item k m s).cfg.params (calPn item k) (paramDefault (calPn item k)) = BitVec.ofNat 32 w := by
  by_cases hi : item = 0
  · simp only [calValue, if_pos hi] at h
    simp [calPut, calPn, hi, h, orFree, tget_paramPut]
  · simp only [calValue, if_neg hi, Option.map_eq_some_iff] at h
    obtain ⟨v, hv, rfl⟩ := h
    simp [calPut, calPn, hi, hv, orFree, tget_paramPut]

theorem calPut_paramsOnly (item k : Nat) (m : Nat × Nat) (s : State) : ParamsOnly s (calPut item k m s) := by
  simp only [ParamsOnly, calPut, orFree_cfg]

/-- Every other parameter stays. -/
theorem calPut_kept {item k q : Nat} (h : calPn item k ≠ q) (m : Nat × Nat) (s : State) :
    ParamKept q s (calPut item k m s) := by
  refine ⟨calPut_paramsOnly item k m s, ?_⟩
  have hq : ¬ q = if item = 0 then 0xA000 + k else 0xA100 + k := fun hq => h hq.symm
  simp only [calPut, orFree_cfg, tget_paramPut, if_neg hq]

theorem orFree_onlyIn (v : Option Nat) (s : State) : OnlyIn [.freeCtr] s (orFree v s).2 := by
  cases v with
  | some w => exact OnlyIn.refl _ s
  | none => intro q hq; cases q <;> simp_all [Part.Same, orFree, takeFree]

theorem calPut_onlyIn (item k : Nat) (m : Nat × Nat) (s : State) : OnlyIn [.cfg, .freeCtr] s (calPut item k m s) :=
  ((orFree_onlyIn _ s).mono (by simp)).trans ((withCfg_onlyIn _ _).mono (by simp))

/-- The measurements of a list of items, each with its place in the list. -/
def calPuts (item : Nat) (meas : List (Nat × Nat)) (l : List (Nat × Nat)) (s : State) : State :=
  l.foldl (fun t e => calPut item e.1 (meas.getD e.2 (0, 0)) t) s

theorem calPuts_cons (item : Nat) (meas : List (Nat × Nat)) (e : Nat × Nat) (l : List (Nat × Nat)) (s : State) :
    calPuts item meas (e :: l) s = calPuts item meas l (calPut item e.1 (meas.getD e.2 (0, 0)) s) := rfl

theorem calPuts_onlyIn (item : Nat) (meas l : List (Nat × Nat)) (s : State) :
    OnlyIn [.cfg, .freeCtr] s (calPuts item meas l s) := by
  refine foldl_onlyIn _ (fun t e => ?_) l s
  exact calPut_onlyIn item e.1 _ t

theorem calPuts_paramsOnly (item : Nat) (meas l : List (Nat × Nat)) (s : State) :
    ParamsOnly s (calPuts item meas l s) := by
  induction l generalizing s with
  | nil => rfl
  | cons e l ih => rw [calPuts_cons]; exact (calPut_paramsOnly item e.1 _ s).trans (ih _)

theorem calPuts_kept {item q : Nat} {l : List (Nat × Nat)} (h : ∀ e ∈ l, calPn item e.1 ≠ q) (meas : List (Nat × Nat))
    (s : State) : ParamKept q s (calPuts item meas l s) := by
  induction l generalizing s with
  | nil => exact ⟨rfl, rfl⟩
  | cons e l ih =>
    rw [calPuts_cons]
    exact (calPut_kept (h e (by simp)) _ s).trans (ih (fun x hx => h x (by simp [hx])) _)

theorem calPn_ne {item k j : Nat} (h : j ≠ k) : calPn item j ≠ calPn item k := by
  simp only [calPn]; split <;> omega

/-- An item of a list without repetition: those before it and behind it are others. -/
theorem zip_range_split {l : List Nat} {i k : Nat} (hn : l.Nodup) (h : l[i]? = some k) :
    ∃ pre post, l.zip (List.range l.length) = pre ++ (k, i) :: post ∧ ∀ e ∈ pre ++ post, e.1 ≠ k := by
  have hi : i < l.length := (List.getElem?_eq_some_iff.mp h).1
  have hmem : (k, i) ∈ l.zip (List.range l.length) := by
    refine List.mem_iff_getElem?.mpr ⟨i, ?_⟩
    rw [List.getElem?_zip_eq_some]
    exact ⟨h, by simp [hi]⟩
  obtain ⟨pre, post, hs⟩ := List.append_of_mem hmem
  have hfst : (l.zip (List.range l.length)).map Prod.fst = l := List.map_fst_zip (by simp)
  rw [hs, List.map_append, List.map_cons] at hfst
  rw [← hfst, List.perm_middle.nodup_iff, List.nodup_cons, ← List.map_append] at hn
  exact ⟨pre, post, hs, fun e he hk => hn.1 (List.mem_map.mpr ⟨e, he, hk⟩)⟩

/-- A calibration applies what each item's measurement gives of the values before it (R481, R482). -/
theorem calPuts_applies {s : State} {item i k w : Nat} {items : List Nat} {meas : List (Nat × Nat)} (hn : items.Nodup)
    (hi : items[i]? = some k) (hk : item ≠ 0 → k < 16) (hv : calValue s item k (meas.getD i (0, 0)) = some w) :
    tget (calPuts item meas (items.zip (List.range items.length)) s).cfg.params (calPn item k)
      (paramDefault (calPn item k)) = BitVec.ofNat 32 w := by
  obtain ⟨pre, post, hsplit, hne⟩ := zip_range_split hn hi
  have hpre : calValue (calPuts item meas pre s) item k (meas.getD i (0, 0)) = some w := by
    rw [← hv]
    refine calValue_congr (fun h0 => ⟨ParamKept.par (calPuts_kept (fun e he => ?_) meas s),
      ParamKept.par (calPuts_kept (fun e _ => ?_) meas s)⟩) _
    · have := hne e (by simp [he])
      simp only [calPn, if_neg h0]; omega
    · have := hk h0
      simp only [calPn, if_neg h0]; omega
  have hpost := calPuts_kept (item := item) (q := calPn item k) (l := post)
    (fun e he => calPn_ne (hne e (by simp [he]))) meas (calPut item k (meas.getD i (0, 0)) (calPuts item meas pre s))
  have hfold : calPuts item meas (items.zip (List.range items.length)) s =
      calPuts item meas post (calPut item k (meas.getD i (0, 0)) (calPuts item meas pre s)) := by
    simp only [hsplit, calPuts, List.foldl_append, List.foldl_cons]
  rw [hfold, hpost.2, calPut_sets hpre]

end Sys2Proof.Machine
end

section
/-! SUPPORT. The ends of the long commands, the periodic seal and the black-box second, each one event. -/
namespace Sys2Proof.Machine

/-! ### What a look at the vectors leaves of an effect -/

theorem Finished.settle {s t : State} {f : Flight} {st : Nat} (h : Finished s t f st) : Finished s (settle t) f st :=
  h.of_hif rfl (by simp)

theorem Raised.settle {n : Nat} {t : State} (h : Raised n t) : Raised n (settle t) := h.kept (settle_kept t)

theorem Counted.settle {c : Ctr} {n : Nat} {s t : State} (h : Counted c n s t) : Counted c n s (settle t) :=
  h.of_ctrs rfl (by simp)

/-! ### CALIBRATE (R480, R483) -/

/-- The state in which no CALIBRATE runs. -/
def calStopped (s : State) : State :=
  { s with therm := { s.therm with calRun := none, spareZone := none, heldRead := [] } }

/-- The state in which the values of a CALIBRATE apply, before its end is reported. -/
def calApplied (r : CalRun) (meas : List (Nat × Nat)) (s : State) : State :=
  let t := calPuts r.item meas (r.items.zip (List.range r.items.length)) (calStopped s)
  { t with therm := { t.therm with calTime := some (timeNs (stampTime s) / 1000000000 % 2 ^ 32) } }

/-- What a CALIBRATE that applies its values answers. -/
def calEnding (r : CalRun) : Ending := { status := St.ok, result := leBytes 2 r.items.length }

theorem calibrateDone_applies {s : State} {r : CalRun} {refs : CalRefs} (hr : s.therm.calRun = some r)
    (hok : refsOk refs.uv refs.uohm = true) (hz : zonesMeasured s r = true) (meas : List (Nat × Nat)) :
    calibrateDone refs meas s = calNext (finish r.tag (calEnding r) (raise 13 (calApplied r meas s))) := by
  simp only [calibrateDone, hr, hok, hz, Bool.not_true, Bool.false_eq_true, if_false, if_true]
  rfl

theorem calibrateDone_waits {s : State} {r : CalRun} {refs : CalRefs} (hr : s.therm.calRun = some r)
    (hok : refsOk refs.uv refs.uohm = true) (hz : zonesMeasured s r = false) (meas : List (Nat × Nat)) :
    calibrateDone refs meas s = s := by
  simp only [calibrateDone, hr, hok, hz, Bool.not_true, Bool.false_eq_true, if_false]

theorem calibrateDone_refuses {s : State} {r : CalRun} {refs : CalRefs} (hr : s.therm.calRun = some r)
    (hbad : refsOk refs.uv refs.uohm = false) (meas : List (Nat × Nat)) :
    calibrateDone refs meas s = calNext (finish r.tag { status := St.calRef } (calStopped s)) := by
  simp only [calibrateDone, hr, hbad, Bool.not_false, if_true]
  rfl

/-- With no CAL_LOAD and no CALIBRATE waiting, nothing follows the end of a CALIBRATE. -/
theorem calNext_eq {s : State} (hw : s.therm.calWait = []) (hs : startedFlights s 0x0A03 = []) : calNext s = s := by
  have hrun : runCalLoads s = s := by
    have hset : ({ s with therm := { s.therm with calWait := [] } } : State) = s := by rw [← hw]
    simp only [runCalLoads, hw, List.foldl_nil, hset]
  simp only [calNext, hrun, hs]

theorem calApplied_onlyIn (r : CalRun) (meas : List (Nat × Nat)) (s : State) :
    OnlyIn [.therm, .cfg, .freeCtr] s (calApplied r meas s) :=
  ((withTherm_onlyIn _ s).mono (by simp)).trans
    (((calPuts_onlyIn r.item meas _ (calStopped s)).mono (by simp)).trans ((withTherm_onlyIn _ _).mono (by simp)))

section
variable {s : State} (hl : LightInv s) {r : CalRun} {f : Flight} (hr : s.therm.calRun = some r)
  (hw : s.therm.calWait = []) (hf : Flying s r.tag f) (hs : startedFlights s 0x0A03 = [f])
include hl hr hw hf hs

/-- CALIBRATE applies what its measurements give. -/
theorem calibrateDone_happens {refs : CalRefs} (hok : refsOk refs.uv refs.uohm = true) (hz : zonesMeasured s r = true)
    (meas : List (Nat × Nat)) :
    Happens (.calibrateDone refs meas) s [.therm, .cfg, .freeCtr, .books, .blt] (fun t =>
      Finished s t f 0 ∧ Raised 13 t ∧ t.therm.calRun = none ∧ ParamsOnly s t ∧
      (r.items.Nodup → ∀ i k w, r.items[i]? = some k → (r.item ≠ 0 → k < 16) →
        calValue s r.item k (meas.getD i (0, 0)) = some w →
        tget t.cfg.params (calPn r.item k) (paramDefault (calPn r.item k)) = BitVec.ofNat 32 w)) := by
  have happ := calApplied_onlyIn r meas s
  have hputs := calPuts_onlyIn r.item meas (r.items.zip (List.range r.items.length)) (calStopped s)
  have hhif : (calApplied r meas s).hif = s.hif := happ.hif_eq (by simp) (by simp)
  have hcfg : (settle (finish r.tag (calEnding r) (raise 13 (calApplied r meas s)))).cfg =
      (calPuts r.item meas (r.items.zip (List.range r.items.length)) (calStopped s)).cfg := by simp [calApplied]
  have htherm : (calApplied r meas s).therm.calRun = none ∧ (calApplied r meas s).therm.calWait = [] := by
    have h := hputs .therm (by simp)
    simp only [Part.Same] at h
    simp only [calApplied, h]
    exact ⟨rfl, hw⟩
  have hfu : Flying (raise 13 (calApplied r meas s)) r.tag f := hf.of_hif (by simp [hhif])
  have he : exec (.calibrateDone refs meas) s = done (finish r.tag (calEnding r) (raise 13 (calApplied r meas s))) := by
    show done (calibrateDone refs meas s) = _
    rw [calibrateDone_applies hr hok hz, calNext_eq (by simp [htherm])
      (startedFlights_finish hfu _ (by simpa [startedFlights, hhif] using hs))]
  refine happens_of_done he hl ?_ (by decide) ⟨?_, ?_, by simp [htherm], ?_, ?_⟩
  · exact (happ.mono (by simp)).trans (((raise_onlyIn 13 _).mono (by simp)).trans
      ((finish_onlyIn hfu (calEnding r) rfl).mono (by simp)))
  · exact (finish_finished_of_hif hf (by simp [hhif]) (calEnding r)).settle
  · exact ((raise_raised 13 _).kept (finish_kept r.tag (calEnding r) _)).settle
  · rw [ParamsOnly, hcfg]
    exact calPuts_paramsOnly r.item meas _ (calStopped s)
  · intro hn i k w hi hk hv
    rw [hcfg]
    exact calPuts_applies hn hi hk hv

/-- With a reference out of range CALIBRATE applies nothing. -/
theorem calibrateDone_refused_happens {refs : CalRefs} (hbad : refsOk refs.uv refs.uohm = false)
    (meas : List (Nat × Nat)) :
    Happens (.calibrateDone refs meas) s [.therm, .books, .blt] (fun t =>
      Finished s t f St.calRef ∧ t.therm.calRun = none) := by
  have hfu : Flying (calStopped s) r.tag f := hf.of_hif rfl
  have he : exec (.calibrateDone refs meas) s = done (finish r.tag { status := St.calRef } (calStopped s)) := by
    show done (calibrateDone refs meas s) = _
    rw [calibrateDone_refuses hr hbad, calNext_eq (by simp [calStopped, hw])
      (startedFlights_finish hfu { status := St.calRef } hs)]
  refine happens_of_done he hl ?_ (by decide) ⟨?_, by simp [calStopped]⟩
  · exact ((withTherm_onlyIn _ s).mono (by simp)).trans
      ((finish_onlyIn hfu { status := St.calRef } rfl).mono (by simp))
  · exact (finish_finished_of_hif (u := calStopped s) hf rfl { status := St.calRef }).settle

end

/-! ### RAYMAP_LOAD (R43) -/

/-- The image that a load leaves in its slot: its data when the checks pass. -/
def loadedImage (s : State) (p : Pkt) : List Byte := if raymapImageCheck (pdata s p) = 0 then pdata s p else []

/-- What a load answers. -/
def loadEnding (s : State) (p : Pkt) : Ending :=
  { status := raymapImageCheck (pdata s p)
    result := if raymapImageCheck (pdata s p) = St.ok then [] else slotNamed (pf p 0x14 1) }

/-- The state with the image of a load in its slot. -/
def imageLoaded (s : State) (p : Pkt) : State :=
  { s with rmap := { s.rmap with image := s.rmap.image.set (pf p 0x14 1) (loadedImage s p) } }

theorem raymapAfter_alone {n : Nat} {s : State}
    (h : ∀ g ∈ s.hif.flights, ¬ (g.op = 0x0210 ∧ pf g.p 0x14 1 = n)) :
    raymapAfter n false s = { s with rmap := {
      state := s.rmap.state.set n (if (s.rmap.image.getD n []).isEmpty then .empty else .ready)
      image := s.rmap.image.set n (s.rmap.image.getD n []) } } := by
  have hany : s.hif.flights.any (fun f => f.op == 0x0210 && pf f.p 0x14 1 == n) = false := by
    rw [List.any_eq_false]
    intro g hg hb
    exact h g hg (by simpa using hb)
  simp [raymapAfter, hany]

section
variable {s : State} {tg : Nat} {f : Flight} (hf : Flying s tg f) (hop : f.op = 0x0210)
  (hs : slotLoads s (pf f.p 0x14 1) = [tg])
include hf hs

/-- The only load of its slot has ended: none is left. -/
theorem finish_slotLoads {u : State} (hh : u.hif = s.hif) (e : Ending) :
    ∀ g ∈ (finish tg e u).hif.flights, ¬ (g.op = 0x0210 ∧ pf g.p 0x14 1 = pf f.p 0x14 1) := by
  rintro g hg ⟨hgop, hgslot⟩
  rw [finish_flights (hf.of_hif hh) e] at hg
  obtain ⟨x, hx, hxop, hxp, -, htag⟩ := depDone_mem hg
  have hmem : ptag x.p ∈ slotLoads s (pf f.p 0x14 1) :=
    List.mem_map.mpr ⟨x, List.mem_filter.mpr ⟨hh ▸ hx, by simp [hxop, hxp, hgop, hgslot]⟩, rfl⟩
  rw [hs, List.mem_singleton] at hmem
  exact htag hmem

include hop

/-- The oldest load of a slot ends with the verdict of its image. -/
theorem raymapLoadCompletion_happens (hl : LightInv s) (hst : f.started = true) (hlenS : s.rmap.state.length = 4)
    (hlenI : s.rmap.image.length = 4) (hn : pf f.p 0x14 1 < 4) :
    Happens (.raymapLoadCompletion tg) s [.rmap, .books, .blt] (fun t =>
      Finished s t f (raymapImageCheck (pdata s f.p)) ∧
      t.rmap.image = s.rmap.image.set (pf f.p 0x14 1) (loadedImage s f.p) ∧
      t.rmap.state.getD (pf f.p 0x14 1) .empty = (if (loadedImage s f.p).isEmpty then .empty else .ready) ∧
      ∀ n, n ≠ pf f.p 0x14 1 → t.rmap.state.getD n .empty = s.rmap.state.getD n .empty) := by
  have hhif : (imageLoaded s f.p).hif = s.hif := rfl
  have hrun : raymapDone tg s =
      raymapAfter (pf f.p 0x14 1) false (finish tg (loadEnding s f.p) (imageLoaded s f.p)) := by
    simp only [raymapDone, hf.1, hop, hst, hs, List.head?_cons, and_self, if_true]
    rfl
  have hloads := finish_slotLoads hf hs hhif (loadEnding s f.p)
  have hfin := finish_finished_of_hif hf hhif (loadEnding s f.p)
  have honly := OnlyIn.trans ((withRmap_onlyIn _ s).mono (qs := [.events, .rmap, .books, .blt]) (by simp))
    ((finish_onlyIn (hf.of_hif hhif) (loadEnding s f.p) rfl).mono (by simp))
  have hrmap : (finish tg (loadEnding s f.p) (imageLoaded s f.p)).rmap = (imageLoaded s f.p).rmap := by simp
  generalize finish tg (loadEnding s f.p) (imageLoaded s f.p) = u at *
  have himg : u.rmap.image.getD (pf f.p 0x14 1) [] = loadedImage s f.p := by
    simp [hrmap, imageLoaded, List.getD_eq_getElem?_getD, hlenI, hn]
  rw [raymapAfter_alone hloads, himg] at hrun
  refine happens_of_done (congrArg done hrun) hl (honly.trans ((withRmap_onlyIn _ u).mono (by simp))) (by decide)
    ⟨Finished.settle ?_, ?_, ?_, fun n hne => ?_⟩
  · exact hfin.of_hif rfl rfl
  · simp [hrmap, imageLoaded]
  · simp [hrmap, imageLoaded, List.getD_eq_getElem?_getD, hlenS, hn]
  · simp [hrmap, imageLoaded, List.getD_eq_getElem?_getD, List.getElem?_set_ne hne.symm]

end

/-! ### FW_STAGE (R423) -/

/-- The signature of the image decides. -/
theorem fwStageCompletion_happens {s : State} (hl : LightInv s) (hlive : live s = true) {tg n : Nat} {img : List Byte}
    {f : Flight} (hfw : s.pwr.fwTag = some (tg, n, img)) (hf : Flying s tg f) (hs : startedFlights s 0x0B01 = [f]) :
    Happens .fwStageCompletion s [.pwr, .books, .blt] (fun t =>
      Finished s t f (if Config.sigOk img then 0 else St.fwSignature) ∧
      t.pwr = { s.pwr with fwTag := none, slots := s.pwr.slots.set n (img, Config.sigOk img) }) := by
  generalize he0 : ({ status := if Config.sigOk img then St.ok else St.fwSignature } : Ending) = e
  generalize hu : ({ s with pwr := { s.pwr with
    fwTag := none, slots := s.pwr.slots.set n (img, Config.sigOk img) } } : State) = u
  have hhif : u.hif = s.hif := by rw [← hu]
  have hfu : Flying u tg f := hf.of_hif hhif
  have he : exec .fwStageCompletion s = done (finish tg e u) := by
    show done (if live s then stageEnd s else s) = _
    have hnone : startedFlights (finish tg e u) 0x0B01 = [] :=
      startedFlights_finish hfu e (by simpa [startedFlights, hhif] using hs)
    simp only [hlive, if_true, stageEnd, hfw, finishSt, he0, hu, hnone, List.foldl_nil]
  refine happens_of_done he hl ?_ (by decide) ⟨?_, by simp [← hu]⟩
  · exact ((hu ▸ withPwr_onlyIn _ s : OnlyIn [.pwr] s u).mono (by simp)).trans
      ((finish_onlyIn hfu e (by rw [← he0])).mono (by simp))
  · have h := (finish_finished_of_hif hf hhif e).settle
    rw [← he0] at h ⊢
    exact h

/-! ### MEM_TEST (R422) -/

/-- An undefined range leaves what every byte outside it reads as. -/
theorem memRead_memUndef_other (s : State) {a n x : Nat} (hx : x < a ∨ a + n ≤ x) :
    memRead (memUndef a n s).mem x = memRead s.mem x := by
  have hout : (decide (a ≤ x) && decide (x < a + n)) = false := by
    simp only [Bool.and_eq_false_iff, decide_eq_false_iff_not]; omega
  simp only [memRead, undefStamp, memUndef, List.find?_cons, hout, undefSub_find s.mem.undef a n x hx]

/-- What a memory test answers: how many bytes failed, and the first. -/
def testEnding (fails first : Nat) : Ending :=
  { status := if fails = 0 then St.ok else St.memTest
    result := leBytes 4 (min fails 0xFFFFFFFF) ++ leBytes 8 (if fails = 0 then 0 else first) }

/-- The oldest memory test ends. -/
theorem memTestDone_happens {s : State} (hl : LightInv s) {f : Flight} {rest : List Flight}
    (hs : startedFlights s 0x0803 = f :: rest) (hf : Flying s (ptag f.p) f) (n a : Nat) :
    Happens (.memTestDone n a) s [.mem, .freeCtr, .books, .blt] (fun t =>
      Finished s t f (if n = 0 then 0 else St.memTest) ∧ Raised 74 t ∧ t.mem.cells = s.mem.cells ∧
      MemOutside s t (pf f.p 0x18 8) (pf f.p 0x20 8)) := by
  have hundef := memUndef_onlyIn (pf f.p 0x18 8) (pf f.p 0x20 8) s
  have hread := fun x hx => memRead_memUndef_other s (a := pf f.p 0x18 8) (n := pf f.p 0x20 8) (x := x) hx
  have hcells : (memUndef (pf f.p 0x18 8) (pf f.p 0x20 8) s).mem.cells = s.mem.cells := rfl
  have he : exec (.memTestDone n a) s =
      done (raise 74 (finish (ptag f.p) (testEnding n a) (memUndef (pf f.p 0x18 8) (pf f.p 0x20 8) s))) := by
    show done (memTestDone n a s) = _
    simp only [memTestDone, hs]
    rfl
  generalize memUndef (pf f.p 0x18 8) (pf f.p 0x20 8) s = u at *
  have hhif : u.hif = s.hif := hundef.hif_eq (by simp) (by simp)
  have hmem : (settle (raise 74 (finish (ptag f.p) (testEnding n a) u))).mem = u.mem := by
    simp [finish_mem (hf.of_hif hhif) (testEnding n a) rfl]
  refine happens_of_done he hl ?_ (by decide) ⟨?_, (raise_raised 74 _).settle, by rw [hmem, hcells], fun x hx => ?_⟩
  · exact (hundef.mono (by simp)).trans (((finish_onlyIn (hf.of_hif hhif) (testEnding n a) rfl).mono (by simp)).trans
      ((raise_onlyIn 74 _).mono (by simp)))
  · exact ((finish_finished_of_hif hf hhif (testEnding n a)).of_hif rfl (by simp)).settle
  · rw [hmem, hread x hx]

/-! ### The flush of the Recorder (R526, R528) -/

/-- The Recorder once the segment of a flush stands at the head of the log. -/
def silFlushed (j : FlushJob) (s : State) : Sil :=
  { s.sil with
    flush := none, nand := j.bytes :: s.sil.nand, segSeq := (s.sil.segSeq + 1) % 2 ^ 32
    flushed := j.lastRseq
    flushedAll := decide (s.sil.rseq = j.lastRseq)
    records := s.sil.records.filter (fun r => !seqReached (BitVec.ofNat 32 j.lastRseq) (BitVec.ofNat 32 r.rseq))
    kept := s.sil.kept.filter (fun t => !seqReached (BitVec.ofNat 32 j.lastRseq) (BitVec.ofNat 32 t.1)) }

/-- An event counted, raised and entered in the black box, in this order: what a report of a flush is. -/
def reported (c : Ctr) (n code source : Nat) (d : Word) (s : State) : State :=
  blackBox code source d (raise n (count c s))

theorem reported_frame (c : Ctr) (n code source : Nat) (d : Word) (s : State) :
    (reported c n code source d s).sil = s.sil ∧ (reported c n code source d s).hif = s.hif ∧
    (reported c n code source d s).bb.second = s.bb.second := by
  simp [reported, blackBox]

theorem reported_onlyIn (c : Ctr) (n code source : Nat) (d : Word) (s : State) :
    OnlyIn [.ctrs, .events, .bb] s (reported c n code source d s) :=
  ((count_onlyIn c s).mono (by simp)).trans
    (((raise_onlyIn n _).mono (by simp)).trans ((blackBox_onlyIn code source d _).mono (by simp)))

theorem reported_raised (c : Ctr) (n code source : Nat) (d : Word) (s : State) :
    Raised n (reported c n code source d s) :=
  (raise_raised n (count c s)).kept (.of_intc (by simp [reported]))

theorem reported_counted (c : Ctr) (n code source : Nat) (d : Word) (s : State) :
    Counted c 1 s (reported c n code source d s) :=
  (count_counted c s).of_ctrs rfl (by simp [reported])

theorem flushDone_eq (j : FlushJob) (s : State) :
    flushDone j s = reported .silFlush 245 0x0230 245 (BitVec.ofNat 32 ((s.sil.segSeq + 1) % 2 ^ 32))
      { s with sil := silFlushed j s } := rfl

theorem flushFailed_eq (s : State) :
    flushFailed s = reported .silNandErr 246 0x0100 246 0 (tearFlush s) := rfl

theorem tearFlush_onlyIn (s : State) : OnlyIn [.freeCtr, .sil, .pwr] s (tearFlush s) := by
  simp only [tearFlush]
  split
  · exact OnlyIn.refl _ s
  · intro q hq; cases q <;> simp_all [Part.Same, takeFree]

/-- A torn flush is over, and no record is flushed by it. -/
theorem tearFlush_sil {s : State} {j : FlushJob} (hj : s.sil.flush = some j) :
    (tearFlush s).sil.flush = none ∧ (tearFlush s).sil.records = s.sil.records := by
  simp [tearFlush, hj, takeFree]

/-- With no SILLAGE_FLUSH waiting nothing follows the end of a flush. -/
theorem flushNext_eq {s : State} (h : startedFlights s 0x0904 = []) : flushNext s = s := by
  simp [flushNext, h]

section
variable {s : State} (hl : LightInv s) (hlive : live s = true) {j : FlushJob} (hj : s.sil.flush = some j)
include hl hlive hj

/-- A flush without a command ends with its segment at the head of the log. -/
theorem silFlushEnd_happens (htag : j.tag = none) (hs : startedFlights s 0x0904 = []) :
    Happens (.silFlushEnd true) s [.sil, .ctrs, .bb] (fun t =>
      Counted .silFlush 1 s t ∧ Raised 245 t ∧ t.sil = silFlushed j s) := by
  have hflights : startedFlights (flushDone j s) 0x0904 = [] := by
    simpa [startedFlights, flushDone_eq, reported_frame] using hs
  have he : exec (.silFlushEnd true) s = done (flushDone j s) := by
    show done (if live s then silFlushEnd true s else s) = _
    simp [hlive, silFlushEnd, hj, htag, flushNext_eq hflights]
  rw [flushDone_eq] at he
  refine happens_of_done he hl ?_ (by decide) ⟨?_, (reported_raised _ _ _ _ _ _).settle, by simp [reported_frame]⟩
  · exact ((withSil_onlyIn _ s).mono (by simp)).trans ((reported_onlyIn _ _ _ _ _ _).mono (by simp))
  · exact ((reported_counted .silFlush 245 _ _ _ { s with sil := silFlushed j s }).of_ctrs rfl rfl).settle

/-- The flush of a SILLAGE_FLUSH ends, well or not: `u` is the state before that is counted, reported and answered. -/
theorem silFlushEnd_command_happens {f : Flight} (htag : j.tag = some (ptag f.p)) (hf : Flying s (ptag f.p) f)
    (hs : startedFlights s 0x0904 = [f]) {ok : Bool} {c : Ctr} {n code source : Nat} {d : Word} {u : State}
    {ps : List Part} (hrun : (if ok then flushDone j s else flushFailed s) = reported c n code source d u)
    (hu : OnlyIn (.events :: ps) s u) (hhif : u.hif = s.hif) (hctrs : u.ctrs = s.ctrs)
    (hin : ∀ q ∈ [Part.ctrs, .bb, .books, .blt], q ∈ ps) (hd : ∀ q ∈ lightReads, q ∉ Part.events :: ps) :
    Happens (.silFlushEnd ok) s ps (fun t =>
      Finished s t f (if ok then 0 else St.nand) ∧ Counted c 1 s t ∧ Raised n t ∧ t.sil = u.sil) := by
  generalize hE : ({ status := if ok then St.ok else St.nand
                     result := leBytes 4 (if ok then j.bytes.length else 0) } : Ending) = e
  have hrep : (reported c n code source d u).hif = s.hif := (reported_frame c n code source d u).2.1.trans hhif
  have hfu := hf.of_hif hrep
  have he : exec (.silFlushEnd ok) s = done (finish (ptag f.p) e (reported c n code source d u)) := by
    have hflights := startedFlights_finish hfu e (op := 0x0904) (by simpa [startedFlights, hrep] using hs)
    show done (if live s then silFlushEnd ok s else s) = _
    simp only [hlive, if_true, silFlushEnd, hj, htag, hrun, hE, flushNext_eq hflights]
  have hreport : ∀ q ∈ [Part.ctrs, .events, .bb], q ∈ Part.events :: ps := by
    simp [hin .ctrs (by decide), hin .bb (by decide)]
  have hbooks : ∀ q ∈ [Part.books, .blt, .events], q ∈ Part.events :: ps := by
    simp [hin .books (by decide), hin .blt (by decide)]
  refine happens_of_done he hl ?_ hd ⟨?_, ?_, ?_, by simp [reported_frame]⟩
  · exact hu.trans (((reported_onlyIn c n code source d u).mono hreport).trans
      ((finish_onlyIn hfu e (by rw [← hE])).mono hbooks))
  · have h := (finish_finished_of_hif hf hrep e).settle
    rw [← hE] at h ⊢
    exact h
  · exact ((reported_counted c n code source d u).of_ctrs hctrs (by simp)).settle
  · exact ((reported_raised c n code source d u).kept (finish_kept _ e _)).settle

end

/-! ### The periodic seal (R522) -/

theorem silPeriodicSeal_happens {s : State} (hl : LightInv s) (hlive : live s = true) (hrec : Records s)
    (hdue : s.sil.freeNs + 1000000000 ≤ s.clock) :
    Happens .silPeriodicSeal s [.sil] (fun t => t.sil = { s.sil with sealNext := true }) := by
  have he : exec .silPeriodicSeal s = done { s with sil := { s.sil with sealNext := true } } := by
    show execSilPeriodicSeal s = _
    simp [execSilPeriodicSeal, hlive, hrec.1, hrec.2, hdue]
  exact happens_of_done he hl ((withSil_onlyIn _ s).mono (by simp)) (by decide) (by simp)

/-! ### The black-box second (R532) -/

/-- A ring flushed goes to the head of the slots, and is reported. -/
theorem bbFlushSlot_eq {s : State} (cause : Nat) (hrel : 2 ≤ s.pwr.released) : ∃ v d,
    v.bbSlots.tail = s.sil.bbSlots.take 511 ∧
    bbFlushSlot cause s = reported .bbFlush 248 0x0230 248 d { s with sil := v } := by
  simp only [bbFlushSlot, if_neg (Nat.not_lt.mpr hrel)]
  exact ⟨_, _, List.tail_cons, rfl⟩

section
variable {s : State} (hl : LightInv s) (hlive : live s = true) (hsec : s.bb.second = true)
include hl hlive hsec

/-- With nothing held back the second is over. -/
theorem bbFlushSecondEnd_happens (hagain : s.bb.again = false) :
    Happens .bbFlushSecondEnd s [.bb] (fun t => t.bb = { s.bb with second := false }) := by
  have he : exec .bbFlushSecondEnd s = done { s with bb := { s.bb with second := false, again := false } } := by
    show done (if live s then bbSecondEnd s else s) = _
    simp [hlive, bbSecondEnd, hsec, hagain]
  exact happens_of_done he hl ((withBb_onlyIn _ s).mono (by simp)) (by decide) (by simp [hagain])

/-- What was held back is flushed, and another second begins. -/
theorem bbFlushSecondEnd_again_happens (hagain : s.bb.again = true) (hcoast : s.cond.coast = false)
    (hrel : 2 ≤ s.pwr.released) :
    Happens .bbFlushSecondEnd s [.bb, .sil, .ctrs] (fun t => Counted .bbFlush 1 s t ∧ Raised 248 t ∧
      t.bb.again = false ∧ t.bb.second = true ∧ t.sil.bbSlots.tail = s.sil.bbSlots.take 511) := by
  obtain ⟨v, d, htail, hslot⟩ := bbFlushSlot_eq 2 hrel
  have hrun : bbSecondEnd s = { bbFlushSlot 2 s with bb := { (bbFlushSlot 2 s).bb with again := false } } := by
    simp [bbSecondEnd, hsec, hagain, hcoast]
  have he : exec .bbFlushSecondEnd s =
      done { bbFlushSlot 2 s with bb := { (bbFlushSlot 2 s).bb with again := false } } := by
    show done (if live s then bbSecondEnd s else s) = _
    rw [hlive, if_pos rfl, hrun]
  have honly := OnlyIn.trans ((withSil_onlyIn v s).mono (qs := [.events, .bb, .sil, .ctrs]) (by simp))
    ((reported_onlyIn .bbFlush 248 0x0230 248 d _).mono (by simp))
  have hcnt := (reported_counted .bbFlush 248 0x0230 248 d { s with sil := v }).of_ctrs (s' := s) rfl rfl
  have hraise := reported_raised .bbFlush 248 0x0230 248 d { s with sil := v }
  obtain ⟨hsil, -, hbb⟩ := reported_frame .bbFlush 248 0x0230 248 d { s with sil := v }
  rw [← hslot] at honly hcnt hraise hsil hbb
  generalize bbFlushSlot 2 s = u at *
  refine happens_of_done he hl (honly.trans ((withBb_onlyIn _ u).mono (by simp))) (by decide)
    ⟨Counted.settle ?_, Raised.settle ?_, by simp, ?_, ?_⟩
  · exact hcnt.of_ctrs rfl rfl
  · exact hraise.kept (.of_intc rfl)
  · simpa [hsec] using hbb
  · simpa [hsil] using htail

end

/-! ### All of them -/

/-- Settles O43: each end is its own lemma above, and what is left is to read its effect off. -/
theorem longCommandsEnd : Obligations.LongCommandsEnd := by
  intro s hl
  refine ⟨fun r f hr hw hf hs => ⟨fun uv uohm ms hok hz => ?_, fun uv uohm ms hok hz => ?_, fun uv uohm ms hbad => ?_⟩,
    fun tg f hf hop hst hs hlenS hlenI hn => ?_,
    fun tg n img f hlive hfw hf hs => fwStageCompletion_happens hl hlive hfw hf hs,
    fun f rest n a hs hf => memTestDone_happens hl hs hf n a,
    fun hlive j hj => ⟨fun htag hs => ?_, fun f htag hf hs => ⟨?_, ?_⟩⟩,
    fun hlive hrec hdue => silPeriodicSeal_happens hl hlive hrec hdue,
    fun hlive hsec => ⟨bbFlushSecondEnd_happens hl hlive hsec, bbFlushSecondEnd_again_happens hl hlive hsec⟩⟩
  case refine_1 =>
    refine (calibrateDone_happens hl hr hw hf hs hok hz ms).imp ?_
    rintro t ⟨hfin, hraise, hrun, hcfg, happly⟩
    refine ⟨hfin, hraise, hrun, hcfg, fun h0 hn i k v hi hv => ?_, fun h0 hn i k v hk hi hv => ?_⟩
    · have h := happly hn i k v hi (fun h1 => absurd h0 h1) (by rw [calValue, if_pos h0]; exact hv)
      rwa [calPn, if_pos h0] at h
    · have h := happly hn i k _ hi (fun _ => hk) (by rw [calValue, if_neg h0, hv]; rfl)
      rwa [calPn, if_neg h0] at h
  case refine_2 => exact nothing_of_done (congrArg done (calibrateDone_waits hr hok hz ms)) hl
  case refine_3 => exact calibrateDone_refused_happens hl hr hw hf hs hbad ms
  case refine_4 =>
    refine (raymapLoadCompletion_happens hf hop hs hl hst hlenS hlenI hn).imp ?_
    rintro t ⟨hfin, himage, hstate, hother⟩
    refine ⟨hfin, himage, fun hok hne => ?_, fun hbad => ?_, hother⟩
    · rw [hstate, loadedImage, if_pos hok]; simp [hne]
    · rw [hstate, loadedImage, if_neg hbad]; rfl
  case refine_5 =>
    refine (silFlushEnd_happens hl hlive hj htag hs).imp ?_
    rintro t ⟨hcnt, hraise, hsil⟩
    exact ⟨hcnt, hraise, by rw [hsil]; exact ⟨rfl, rfl, rfl⟩⟩
  case refine_6 =>
    refine (silFlushEnd_command_happens hl hlive hj htag hf hs (ok := true) (flushDone_eq j s)
      ((withSil_onlyIn _ s).mono (by simp)) rfl rfl (by decide) (by decide)).imp ?_
    rintro t ⟨hfin, hcnt, hraise, hsil⟩
    exact ⟨hfin, hcnt, hraise, by rw [hsil]; exact ⟨rfl, rfl⟩⟩
  case refine_7 =>
    have htear := tearFlush_onlyIn s
    refine (silFlushEnd_command_happens hl hlive hj htag hf hs (ok := false) (flushFailed_eq s)
      (htear.mono (by simp)) (htear.hif_eq (by simp) (by simp)) (htear .ctrs (by simp)) (by decide) (by decide)).imp ?_
    rintro t ⟨hfin, hcnt, hraise, hsil⟩
    exact ⟨hfin, hcnt, hraise, by rw [hsil]; exact tearFlush_sil hj⟩

end Sys2Proof.Machine
end

section
/-! SUPPORT. The scene commands that stage a plane or move a cache entry (R63, R67 to R69): what a command does that ends
at once with a change of the configuration alone, and each command by its cases. -/
namespace Sys2Proof.Machine

/-! ### Commands whose effect is on the configuration alone -/

theorem onFlight_onlyIn (tag : Nat) (f : Flight → Flight) (s : State) : OnlyIn [.books] s (onFlight tag f s) := by
  intro q hq; cases q <;> simp_all [Part.Same, onFlight]

theorem EndsWith.imp {c : Instr} {s : State} {op st : Nat} {p : Pkt} {result : List Byte} {ps : List Part}
    {P Q : State → Prop} (h : EndsWith c s op p st result ps P) (hPQ : ∀ t, P t → Q t) :
    EndsWith c s op p st result ps Q := by
  obtain ⟨t, he, ho, ha, hp⟩ := h
  exact ⟨t, he, ho, ha, hPQ t hp⟩

/-- An accepted command without a hook starts on the configuration and the decoder as they were. -/
theorem begun_scene (s : State) {op : Nat} (hk : hooked op = false) (p : Pkt) :
    (begun s op p).cfg = s.cfg ∧ (begun s op p).sdec = s.sdec :=
  ⟨begun_onlyIn hk .cfg (by simp), begun_onlyIn hk .sdec (by simp)⟩

section
variable {s : State} {op : Nat} {p : Pkt} {e : Ending} {start : Nat → Pkt → State → State} {c : Instr}
  (hc : exec c s = done (submit op p start s)) (hl : LightInv s) (ha : Accepts s op p) (hk : hooked op = false)
  (hi : e.image = [])
include hc hl ha hk hi

/-- A command that sets the configuration and ends. -/
theorem cfg_ends_at_once {v : Cfg}
    (hst : start (ptag p) p (begun s op p) = finish (ptag p) e { begun s op p with cfg := v }) :
    EndsWith c s op p e.status e.result [.cfg] (fun t => t.cfg = v) := by
  have hb := begun_onlyIn (s := s) (p := p) hk
  have hpnl : (begun s op p).pnl = s.pnl := hb .pnl (by simp)
  exact ends_at_once hc hl ha hst rfl (hb .blt (by simp)) (.inl hi)
    ((hb.mono (by simp)).trans ((withCfg_onlyIn v _).mono (by simp))) (by decide) (by decide) (by decide) (by decide)
    (by decide) (congrArg (·.state) hpnl) (by simp)

/-- A command that ends and changes nothing. -/
theorem refusal_ends_at_once (hst : start (ptag p) p (begun s op p) = finish (ptag p) e (begun s op p)) :
    EndsWith c s op p e.status e.result [] (fun _ => True) := by
  have hb := begun_onlyIn (s := s) (p := p) hk
  have hpnl : (begun s op p).pnl = s.pnl := hb .pnl (by simp)
  exact ends_at_once hc hl ha hst rfl (hb .blt (by simp)) (.inl hi) (hb.mono (by simp)) (by decide) (by decide)
    (by decide) (by decide) (by decide) (congrArg (·.state) hpnl) trivial

end

/-! ### PLANE_DEFINE (R63, R101) -/

theorem length_padTo (n : Nat) (bs : List Byte) : (padTo n bs).length = n := by
  simp only [padTo, List.length_take, List.length_append, List.length_replicate]; omega

/-- A plane staged reads its descriptor, and every other plane reads as before; a descriptor of zeros is what a plane
without one reads. -/
theorem planeOf_descPut (c : ConfigSet) (k j : Nat) {d : List Byte} (hd : d.length = 32) :
    planeOf { c with planes := descPut c.planes k d } j = if j = k then d else planeOf c j := by
  simp only [planeOf, descPut]
  split
  · rename_i hz
    have hzero : d = List.replicate 32 0 :=
      List.eq_replicate_iff.mpr ⟨hd, fun b hb => by simpa using List.all_eq_true.mp hz b hb⟩
    rw [tget_tdel, ← hzero]
  · rw [tget_tset]

/-- The configuration with the damage records of some buffers cleared. -/
def damageCleared (bs : List Nat) (v : Cfg) : Cfg := { v with damage := bs.foldl tdel v.damage }

theorem foldl_damageSet_nil (bs : List Nat) (s : State) :
    bs.foldl (fun t b => damageSet b [] t) s = { s with cfg := damageCleared bs s.cfg } := by
  induction bs generalizing s with
  | nil => rfl
  | cons b bs ih => rw [List.foldl_cons, ih]; rfl

theorem tget_foldl_tdel {α : Type} (bs : List Nat) (t : Table α) (j : Nat) (d : α) :
    tget (bs.foldl tdel t) j d = if j ∈ bs then d else tget t j d := by
  induction bs generalizing t with
  | nil => simp
  | cons b bs ih =>
    rw [List.foldl_cons, ih, tget_tdel]
    by_cases hb : j = b <;> simp [hb]

/-- The configuration once a PLANE_DEFINE has taken effect. -/
def planeStaged (k : Nat) (d : List Byte) (v : Cfg) : Cfg :=
  damageCleared (planeBufs d) { v with draft := { v.draft with planes := descPut v.draft.planes k d } }

theorem planeDefined_eq (tag k : Nat) (d : List Byte) (s : State) :
    planeDefined tag k d s = finish tag { status := St.ok } { s with cfg := planeStaged k d s.cfg } := by
  rw [planeDefined, foldl_damageSet_nil]
  rfl

section
variable {s : State} {p : Pkt}

theorem begun_boundBlocks (k : Nat) : boundBlocks (begun s 0x0202 p) k = boundBlocks s k := by
  simp only [boundBlocks, (begun_scene s (op := 0x0202) rfl p).2]

/-- With no block bound to its plane PLANE_DEFINE takes effect at once. -/
theorem planeDefine_stages (hl : LightInv s) (ha : Accepts s 0x0202 p) (hb : boundBlocks s (pf p 0x14 1) = []) :
    EndsWith (.planeDefine p) s 0x0202 p 0 [] [.cfg] (fun t =>
      t.cfg = planeStaged (pf p 0x14 1) (pbytes p 0x18 32) s.cfg) := by
  refine cfg_ends_at_once (e := { status := St.ok }) (start := startPlaneDefine) rfl hl ha rfl rfl ?_
  rw [startPlaneDefine, begun_boundBlocks, hb]
  dsimp only
  rw [planeDefined_eq, (begun_scene s rfl p).1]

/-- With blocks bound to its plane PLANE_DEFINE notes them and goes on. -/
theorem planeDefine_waits (hl : LightInv s) (ha : Accepts s 0x0202 p) (hb : boundBlocks s (pf p 0x14 1) ≠ []) :
    GoesOn (.planeDefine p) s 0x0202 p [] (fun _ => True) := by
  obtain ⟨x, xs, hx⟩ := List.exists_cons_of_ne_nil hb
  generalize hu : onFlight (ptag p) (fun f => { f with aux := x :: xs }) (begun s 0x0202 p) = u
  have he : exec (.planeDefine p) s = done u := by
    show done (submit 0x0202 p startPlaneDefine s) = _
    rw [submit_accepts ha, startPlaneDefine, begun_boundBlocks, hx, ← hu]
  have honly : OnlyIn [.books, .events] s u := by
    rw [← hu]
    exact (begun_onlyIn rfl).trans ((onFlight_onlyIn _ _ _).mono (by simp))
  have hpnl : u.pnl = s.pnl := honly .pnl (by simp)
  have hflights : u.hif.replies = s.hif.replies ∧
      u.hif.flights = s.hif.flights ++ [{ startedFlight s 0x0202 p with aux := x :: xs }] := by
    have hfree := free_ne ha.tag_free
    have hold : s.hif.flights.map (fun f => if ptag f.p == ptag p then { f with aux := x :: xs } else f) =
        s.hif.flights :=
      (List.map_congr_left (g := id) fun f hf => by simp [hfree f hf]).trans (List.map_id _)
    simp only [← hu, onFlight, begun_hif ha, List.map_append, List.map_cons, List.map_nil, hold]
    exact ⟨trivial, by simp [startedFlight]⟩
  refine runs_of_done he honly (by simp)
    (hl.of_onlyIn honly (by decide) (by decide) (by decide) (by decide) (by decide) (congrArg (·.state) hpnl))
    ⟨?_, trivial⟩
  exact ⟨by simp [hflights.1], { startedFlight s 0x0202 p with aux := x :: xs }, by simp [hflights.2], rfl, rfl, rfl⟩

end

/-- Settles O13: the descriptor staged and the records cleared are read off the configuration it leaves. -/
theorem planeDefineStagesOrWaits : Obligations.PlaneDefineStagesOrWaits := by
  refine fun s p hl ha => ⟨fun hb => (planeDefine_stages hl ha hb).imp ?_, fun hb => planeDefine_waits hl ha hb⟩
  intro t ht
  have hread := fun k => planeOf_descPut s.cfg.draft (pf p 0x14 1) k (d := pbytes p 0x18 32) (length_padTo 32 _)
  refine ⟨?_, fun k hk => ?_, fun b => ?_, ?_⟩
  · rw [ht]; exact (hread _).trans (if_pos rfl)
  · rw [ht]; exact (hread k).trans (if_neg hk)
  · rw [damageOf, ht]; exact tget_foldl_tdel _ _ b []
  · rw [ht]; rfl

/-! ### The cache (R67 to R69) -/

theorem cachePlanes_congr {s t : State} (h : t.cfg = s.cfg) : cachePlanes t = cachePlanes s := by
  have hbuf (k : Nat) : commitBuf t k = commitBuf s k := by
    simp only [commitBuf, planeWritten, draftBuf, activeBuf, h]
    rfl
  simp only [cachePlanes, cachePlane, hbuf, h]

section
variable {s : State} {p : Pkt} (hl : LightInv s)
include hl

/-- CACHE_STORE of undamaged planes fills the entry. -/
theorem cacheStore_fills (ha : Accepts s 0x0204 p) (hgood : ∀ e ∈ cachePlanes s, damageOf s (dBase e.2) = []) :
    EndsWith (.cacheStore p) s 0x0204 p 0 [] [.cfg] (fun t => t.cfg = { s.cfg with
      cache := tset s.cfg.cache (pf p 0x14 1) {
        count := setParam s.cfg.draft 0x2000, planes := cachePlanes s, notes := s.cfg.draft.notes } }) := by
  have hcfg := (begun_scene s (op := 0x0204) rfl p).1
  have hnone : (cachePlanes s).find? (fun e => !(damageOf (begun s 0x0204 p) (dBase e.2)).isEmpty) = none := by
    refine List.find?_eq_none.mpr (fun e he => ?_)
    have hd := hgood e he
    simp only [damageOf] at hd
    simp [damageOf, hcfg, hd]
  refine cfg_ends_at_once (e := { status := St.ok }) (start := startCacheStore) rfl hl ha rfl rfl ?_
  simp only [startCacheStore, cachePlanes_congr hcfg, hnone, hcfg]
  rfl

/-- CACHE_STORE of a damaged plane names the first one. -/
theorem cacheStore_refuses (ha : Accepts s 0x0204 p) {pre post : Table (List Byte)} {k : Nat} {d : List Byte}
    (hsplit : cachePlanes s = pre ++ (k, d) :: post) (hgood : ∀ e ∈ pre, damageOf s (dBase e.2) = [])
    (hbad : damageOf s (dBase d) ≠ []) :
    EndsWith (.cacheStore p) s 0x0204 p 0x0247 (objResult 1 k) [] (fun _ => True) := by
  have hcfg := (begun_scene s (op := 0x0204) rfl p).1
  have hfirst : (cachePlanes s).find? (fun e => !(damageOf (begun s 0x0204 p) (dBase e.2)).isEmpty) = some (k, d) := by
    refine List.find?_eq_some_iff_append.mpr ⟨?_, pre, post, hsplit, fun e he => ?_⟩
    · simp only [damageOf] at hbad
      simp [damageOf, hcfg, hbad]
    · have hd := hgood e he
      simp only [damageOf] at hd
      simp [damageOf, hcfg, hd]
  refine refusal_ends_at_once (e := { status := St.planeDamaged, result := objResult 1 k }) (start := startCacheStore)
    rfl hl ha rfl rfl ?_
  simp only [startCacheStore, cachePlanes_congr hcfg, hfirst]

/-- CACHE_RECALL of an empty entry changes nothing. -/
theorem cacheRecall_refuses (ha : Accepts s 0x0205 p) (hnone : tget? s.cfg.cache (pf p 0x14 1) = none) :
    EndsWith (.cacheRecall p) s 0x0205 p 0x0311 [] [] (fun _ => True) := by
  refine refusal_ends_at_once (e := { status := St.cacheEmpty }) (start := startCacheRecall) rfl hl ha rfl rfl ?_
  simp only [startCacheRecall, (begun_scene s (op := 0x0205) rfl p).1, hnone]
  rfl

/-- CACHE_RECALL of a full entry stages what it holds. -/
theorem cacheRecall_stages (ha : Accepts s 0x0205 p) {e : CacheEntry} (he : tget? s.cfg.cache (pf p 0x14 1) = some e) :
    EndsWith (.cacheRecall p) s 0x0205 p 0 [] [.cfg] (fun t => t.cfg = { s.cfg with
      draft := { s.cfg.draft with planes := e.planes, notes := e.notes
                                  params := paramPut s.cfg.draft.params 0x2000 (BitVec.ofNat 32 e.count) } }) := by
  have hcfg := (begun_scene s (op := 0x0205) rfl p).1
  refine cfg_ends_at_once (e := { status := St.ok }) (start := startCacheRecall) rfl hl ha rfl rfl ?_
  simp only [startCacheRecall, hcfg, he, onDraft, draftParam]
  rfl

/-- CACHE_DROP takes the entry out of the table. -/
theorem cacheDrop_deletes (ha : Accepts s 0x0206 p) :
    EndsWith (.cacheDrop p) s 0x0206 p 0 [] [.cfg] (fun t =>
      t.cfg = { s.cfg with cache := tdel s.cfg.cache (pf p 0x14 1) }) := by
  refine cfg_ends_at_once (e := { status := St.ok }) (start := startCacheDrop) rfl hl ha rfl rfl ?_
  simp only [startCacheDrop, (begun_scene s (op := 0x0206) rfl p).1]
  rfl

end

/-- Settles O14: each command is its own lemma above, by its cases. -/
theorem sceneCacheEntries : Obligations.SceneCacheEntries := by
  refine ⟨fun s p hl ha => ⟨cacheStore_fills hl ha, fun pre post k d => cacheStore_refuses hl ha⟩,
    fun s p hl ha => ⟨cacheRecall_refuses hl ha, fun e => cacheRecall_stages hl ha⟩,
    fun s p hl ha => (cacheDrop_deletes hl ha).imp ?_⟩
  intro t ht
  rw [ht]
  exact ⟨by simp, fun n hn => by simp [hn], rfl⟩

end Sys2Proof.Machine
end

section
/-! SUPPORT. The Scene Decoder (R64, R66, R79, R95 to R101, R106): what its books change beside the blocks, what becomes
of a block that is parsed, dispatched or ends, and carry-forward. -/
namespace Sys2Proof.Machine

/-! ### What happens beside the blocks -/

/-- What leaves both parts of the Interrupt Controller leaves it whole. -/
theorem OnlyIn.intc_eq {ps : List Part} {s t : State} (h : OnlyIn ps s t) (he : Part.events ∉ ps)
    (hi : Part.intc ∉ ps) : t.intc = s.intc := by
  have hevents := h _ he
  have hrest := h _ hi
  simp only [Part.Same] at hevents hrest
  rw [hrest]; simp [hevents]

/-- Beside the controller's events no more than the named parts differs, no event is lost, the decoder's blocks stand as
they were, and no command has come into flight. -/
structure Bookkeeping (ps : List Part) (s t : State) : Prop where
  onlyIn : OnlyIn (.events :: ps) s t
  events : EventsKept s t
  blocks : t.sdec.blocks = s.sdec.blocks
  flights : ∀ f ∈ t.hif.flights, ∃ g ∈ s.hif.flights, g.op = f.op

namespace Bookkeeping
variable {ps qs : List Part} {s t u : State}

theorem refl (s : State) : Bookkeeping [] s s := ⟨OnlyIn.refl _ s, .of_intc rfl, rfl, fun f hf => ⟨f, hf, rfl⟩⟩

theorem mono (h : Bookkeeping ps s t) (hpq : ∀ q ∈ ps, q ∈ qs) : Bookkeeping qs s t :=
  ⟨h.onlyIn.mono (by simp +contextual [hpq]), h.events, h.blocks, h.flights⟩

theorem trans (h : Bookkeeping ps s t) (k : Bookkeeping qs t u) : Bookkeeping (ps ++ qs) s u := by
  refine ⟨(h.onlyIn.mono ?_).trans (k.onlyIn.mono ?_), h.events.trans k.events, k.blocks.trans h.blocks, fun f hf => ?_⟩
  · simp +contextual
  · simp +contextual
  · obtain ⟨g, hg, hgf⟩ := k.flights f hf
    obtain ⟨x, hx, hxg⟩ := h.flights g hg
    exact ⟨x, hx, hxg.trans hgf⟩

/-- What leaves the Host Interface. -/
theorem of_hif (h : OnlyIn (.events :: ps) s t) (he : EventsKept s t) (hb : t.sdec.blocks = s.sdec.blocks)
    (hh : t.hif = s.hif) : Bookkeeping ps s t :=
  ⟨h, he, hb, fun f hf => ⟨f, hh ▸ hf, rfl⟩⟩

/-- What leaves the Host Interface and the Interrupt Controller. -/
theorem of_onlyIn (h : OnlyIn ps s t) (hd : ∀ q ∈ [Part.events, .intc, .books, .hif], q ∉ ps)
    (hb : t.sdec.blocks = s.sdec.blocks) : Bookkeeping ps s t :=
  of_hif (h.mono fun _ hq => List.mem_cons_of_mem _ hq) (.of_intc (h.intc_eq (hd _ (by decide)) (hd _ (by decide)))) hb
    (h.hif_eq (hd _ (by decide)) (hd _ (by decide)))

theorem ctrs_eq (h : Bookkeeping ps s t) (hc : Part.ctrs ∉ ps) : t.ctrs = s.ctrs := h.onlyIn .ctrs (by simp [hc])

theorem mem_eq (h : Bookkeeping ps s t) (hm : Part.mem ∉ ps) : t.mem = s.mem := h.onlyIn .mem (by simp [hm])

end Bookkeeping

theorem withSdec_onlyIn (v : Sdec) (s : State) : OnlyIn [.sdec] s { s with sdec := v } := by
  intro q hq; cases q <;> simp_all [Part.Same]

theorem raise_bookkeeping (n : Nat) (s : State) : Bookkeeping [] s (raise n s) :=
  .of_hif (raise_onlyIn n s) (raise_kept n s) (by simp) (by simp)

theorem settle_bookkeeping (s : State) : Bookkeeping [] s (settle s) :=
  .of_hif (settle_onlyIn s) (settle_kept s) (by simp) (by simp)

theorem count_kept (c : Ctr) (s : State) : EventsKept s (count c s) := by
  have hset (v : Nat) : EventsKept s (ctrSet c v s) := .of_intc (by simp)
  simp only [count, countN, raiseIf]
  repeat' split
  · exact .of_intc rfl
  · exact (hset _).trans (raise_kept _ _)
  · exact hset _
  · exact hset _

theorem count_bookkeeping (c : Ctr) (s : State) : Bookkeeping [.ctrs] s (count c s) :=
  .of_hif ((count_onlyIn c s).mono (by simp)) (count_kept c s) (by simp) (by simp)

theorem onJob_bookkeeping (tag : Nat) (f : LoadJob → LoadJob) (s : State) : Bookkeeping [.sdec] s (onJob tag f s) :=
  .of_onlyIn (withSdec_onlyIn _ s) (by decide) rfl

theorem withCfg_bookkeeping (v : Cfg) (s : State) : Bookkeeping [.cfg] s { s with cfg := v } :=
  .of_onlyIn (withCfg_onlyIn v s) (by decide) rfl

theorem addErr_bookkeeping (e : ErrEntry) (s : State) : Bookkeeping [.sdec] s (addErr e s) := by
  have hset (v : Sdec) (hv : v.blocks = s.sdec.blocks) : Bookkeeping [.sdec] s { s with sdec := v } :=
    .of_onlyIn (withSdec_onlyIn v s) (by decide) hv
  simp only [addErr]
  repeat' split
  · exact hset _ rfl
  · exact (Bookkeeping.refl s).mono (by decide)
  · exact (hset { s.sdec with overflowed := true } rfl).trans (raise_bookkeeping 131 _)

theorem blackBox_bookkeeping (code source : Nat) (d : Word) (s : State) :
    Bookkeeping [.bb] s (blackBox code source d s) :=
  .of_onlyIn (blackBox_onlyIn code source d s) (by decide) (by simp)

/-! ### A failed block (R96, R106) -/

section
variable (tag i st eng id blk pl off : Nat) (s : State)

theorem blockFailed_bookkeeping :
    Bookkeeping [.sdec, .ctrs, .bb] s (blockFailed tag i st eng id blk pl off s) :=
  ((((onJob_bookkeeping tag _ s).trans (count_bookkeeping .blocksFail _)).trans (addErr_bookkeeping _ _)).trans
    (blackBox_bookkeeping 0x0100 _ 0 _)).mono (by decide)

/-- A failed block is counted. -/
theorem blockFailed_counted : Counted .blocksFail 1 s (blockFailed tag i st eng id blk pl off s) :=
  (count_counted .blocksFail (onJob tag (fun j => { j with
    failed := j.failed + 1, firstFail := firstFailure j.firstFail i st off blk pl }) s)).of_ctrs rfl
    (by simp [blockFailed])

/-- With room in the error queue a failed block is entered. -/
theorem blockFailed_errs (h : s.sdec.errs.length < 64) :
    (blockFailed tag i st eng id blk pl off s).sdec.errs = s.sdec.errs ++ [{
      status := st, tag := tag, engine := eng, sceneId := BitVec.ofNat 32 id, block := blk, plane := pl
      offset := off }] := by
  simp [blockFailed, addErr, onJob, h]

end

/-! ### The end of a SCENE_LOAD (R98) -/

/-- A command that ends without an image, whether its reply is written, discarded, or it is not in flight. -/
theorem finish_bookkeeping (tag : Nat) {e : Ending} (hi : e.image = []) (s : State) :
    Bookkeeping [.books, .blt, .bb] s (finish tag e s) := by
  cases hfl : flightOf s tag with
  | none => simpa only [finish, hfl] using (Bookkeeping.refl s).mono (by decide)
  | some f =>
    have hleft (g : Flight) (hg : g ∈ flightsLeft tag e s) : ∃ x ∈ s.hif.flights, x.op = g.op := by
      obtain ⟨x, hx, hop, -⟩ := depDone_mem hg
      exact ⟨x, hx, hop⟩
    cases hsil : f.silent with
    | false =>
      have hf : Flying s tag f := ⟨hfl, hsil⟩
      exact ⟨(finish_onlyIn hf e hi).mono (by decide), finish_kept tag e s, by simp,
        fun g hg => hleft g (finish_flights hf e ▸ hg)⟩
    | true =>
      have hrun : finish tag e s =
          blackBox 0x0204 0xFF (BitVec.ofNat 32 (tag + e.status * 65536)) (flightEnded tag e s) := by
        simp only [finish, hfl, hsil, if_true, writeImage, hi, List.isEmpty_nil, Bool.true_or]
        rfl
      have hended : Bookkeeping [.books, .blt] s (flightEnded tag e s) := by
        refine ⟨?_, .of_intc rfl, rfl, hleft⟩
        intro q hq; cases q <;> simp_all [Part.Same, flightEnded]
      rw [hrun]
      exact hended.trans (blackBox_bookkeeping _ _ _ _)

theorem loadDone_bookkeeping (tag : Nat) (s : State) : Bookkeeping [.sdec, .books, .blt, .bb] s (loadDone tag s) := by
  have hsame : Bookkeeping [.sdec, .books, .blt, .bb] s s := (Bookkeeping.refl s).mono (by decide)
  simp only [loadDone]
  repeat' split
  · refine Bookkeeping.trans (ps := [.sdec]) ?_ (finish_bookkeeping tag rfl _)
    exact .of_onlyIn (withSdec_onlyIn _ s) (by decide) rfl
  · exact hsame
  · exact hsame

@[simp] theorem loadDone_errs (tag : Nat) (s : State) : (loadDone tag s).sdec.errs = s.sdec.errs := by
  simp only [loadDone]; repeat' split
  all_goals simp

/-- A command with a block that is not complete goes on. -/
theorem loadDone_of_block {s : State} {tag : Nat} {b : BlockRec} (hb : b ∈ s.sdec.blocks) (ht : b.tag = tag) :
    loadDone tag s = s := by
  have hany : s.sdec.blocks.any (fun b => b.tag == tag) = true := List.any_eq_true.mpr ⟨b, hb, by simp [ht]⟩
  simp only [loadDone, hany, Bool.not_true, Bool.and_false, Bool.false_eq_true, if_false]
  split <;> rfl

/-! ### The end of a block (R70, R98) -/

/-- No PLANE_DEFINE is in flight. -/
def NoPlaneDefines (s : State) : Prop := ∀ f ∈ s.hif.flights, f.op ≠ 0x0202

theorem NoPlaneDefines.kept {ps : List Part} {s t : State} (h : NoPlaneDefines s) (k : Bookkeeping ps s t) :
    NoPlaneDefines t := by
  intro f hf
  obtain ⟨g, hg, hgf⟩ := k.flights f hf
  exact hgf ▸ h g hg

theorem planeDefines_eq {s : State} (h : NoPlaneDefines s) : planeDefines s = s := by
  have hnone : s.hif.flights.filter (fun f => f.op == 0x0202 && f.started &&
      !f.aux.any (fun b => (s.sdec.blocks.map blockKey).contains b)) = [] :=
    List.filter_eq_nil_iff.mpr fun f hf => by simp [h f hf]
  simp only [planeDefines, hnone, List.foldl_nil]

theorem sceneBlock_bookkeeping (id : Nat) (last : Bool) (s : State) : Bookkeeping [.cfg] s (sceneBlock id last s) := by
  simp only [sceneBlock]
  split
  · exact (withCfg_bookkeeping _ s).trans (raise_bookkeeping 130 _)
  · exact withCfg_bookkeeping _ s

/-- What follows a block's verdict: the count of its scene, the end of its command, the PLANE_DEFINEs that waited. -/
def blockEnded (b : BlockRec) (s : State) : State :=
  planeDefines (loadDone b.tag (sceneBlock (nzScene b.header) (nzLast b.header) s))

theorem blockEnded_bookkeeping (b : BlockRec) {s : State} (h : NoPlaneDefines s) :
    Bookkeeping [.cfg, .sdec, .books, .blt, .bb] s (blockEnded b s) := by
  have hdone := (sceneBlock_bookkeeping (nzScene b.header) (nzLast b.header) s).trans (loadDone_bookkeeping b.tag _)
  rw [blockEnded, planeDefines_eq (h.kept hdone)]
  exact hdone

theorem dropBlock_onlyIn (b : BlockRec) (s : State) : OnlyIn [.sdec] s (dropBlock b s) := withSdec_onlyIn _ s

/-- An event that takes a block from the decoder, and beside the other blocks does no more than keep books. -/
theorem happens_of_dropped {c : Instr} {s u : State} {b : BlockRec} {ps : List Part} {P : State → Prop}
    (he : exec c s = done u) (hl : LightInv s) (hu : Bookkeeping ps (dropBlock b s) u) (hs : Part.sdec ∈ ps)
    (hd : ∀ q ∈ lightReads, q ∉ Part.events :: ps) (hP : P (settle u)) :
    Happens c s ps (fun t => P t ∧ t.sdec.blocks = s.sdec.blocks.filter (fun x => x != b)) := by
  refine happens_of_done he hl (((dropBlock_onlyIn b s).mono ?_).trans hu.onlyIn) hd ⟨hP, ?_⟩
  · simp [hs]
  · rw [(settle_bookkeeping u).blocks, hu.blocks]; rfl

/-- A block refused at its engine or before it fails and writes nothing. -/
theorem refused_happens {c : Instr} {s : State} (hl : LightInv s) (hno : NoPlaneDefines s) {b : BlockRec}
    (i st eng id blk pl off : Nat)
    (he : exec c s = done (blockEnded b (blockFailed b.tag i st eng id blk pl off (dropBlock b s)))) :
    Happens c s [.sdec, .cfg, .books, .blt, .ctrs, .bb] (fun t =>
      Counted .blocksFail 1 s t ∧ t.sdec.blocks = s.sdec.blocks.filter (fun x => x != b)) := by
  have hfail := blockFailed_bookkeeping b.tag i st eng id blk pl off (dropBlock b s)
  have hend := blockEnded_bookkeeping b (NoPlaneDefines.kept (s := dropBlock b s) hno hfail)
  refine happens_of_dropped he hl ((hfail.trans hend).mono (by decide)) (by decide) (by decide) (Counted.settle ?_)
  exact (blockFailed_counted b.tag i st eng id blk pl off (dropBlock b s)).of_ctrs rfl (hend.ctrs_eq (by decide))

/-! ### Taking a SCENE_LOAD (R95) -/

theorem sceneLoadTaken_happens {s : State} (hl : LightInv s) (hruns : sdecRuns s = true) {tg : Nat} {f : Flight}
    (hroom : s.sdec.jobs.length < 8) (hold : oldestLoad s = some tg) (hf : flightOf s tg = some f) :
    Happens .sceneLoadTaken s [.sdec, .books] (fun t =>
      t.sdec.waiting = s.sdec.waiting.filter (· != tg) ∧ t.hif.replies = s.hif.replies ∧
      t.sdec.jobs = s.sdec.jobs ++ [{ tag := tg, stream := pdata s f.p }]) := by
  have hext : OnlyIn [.books] s (when (decide (3 ≤ s.mem.pressure)) (extend tg) s) := by
    simp only [when]; split
    · exact onFlight_onlyIn tg _ s
    · exact OnlyIn.refl _ s
  have hreplies : (when (decide (3 ≤ s.mem.pressure)) (extend tg) s).hif.replies = s.hif.replies := by
    simp only [when]; split <;> rfl
  have hsdec : (when (decide (3 ≤ s.mem.pressure)) (extend tg) s).sdec = s.sdec := hext .sdec (by decide)
  have he : exec .sceneLoadTaken s = done (loadTaken s) := by
    show execSceneLoadTaken s = _
    simp [execSceneLoadTaken, hruns, hroom]
  simp only [loadTaken, hold, hf] at he
  generalize when (decide (3 ≤ s.mem.pressure)) (extend tg) s = u at *
  refine happens_of_done he hl ((hext.mono (by decide)).trans ((withSdec_onlyIn _ u).mono (by decide))) (by decide) ?_
  simp [hsdec, hreplies]

/-! ### Parsing (R79, R95, R96) -/

/-- Of a command whose turn it is not no block is taken. -/
theorem sdecBlockParse_nothing {s : State} (hl : LightInv s) {tg : Nat} (hne : (turnJob s).map (·.tag) ≠ some tg) :
    Nothing (.sdecBlockParse tg) s := by
  refine nothing_of_done ?_ hl
  show execSdecBlockParse tg s = _
  cases hj : turnJob s with
  | none => simp only [execSdecBlockParse, hj]
  | some j =>
    have htag : ¬ j.tag = tg := by simpa [hj] using hne
    simp [execSdecBlockParse, hj, htag]

/-- The state in which the parser takes a block of a command: the next turn is that of the command accepted after it. -/
def turnTaken (tag : Nat) (s : State) : State := { s with sdec := { s.sdec with turn := flightSeq s tag + 1 } }

theorem sdecBlockParse_eq {s : State} (hruns : sdecRuns s = true) {j : LoadJob} (hturn : turnJob s = some j) :
    exec (.sdecBlockParse j.tag) s = done (loadDone j.tag (blockParse j (turnTaken j.tag s))) := by
  show execSdecBlockParse j.tag s = _
  simp [execSdecBlockParse, hturn, hruns, turnTaken]

theorem turnTaken_bookkeeping (tag : Nat) (s : State) : Bookkeeping [.sdec] s (turnTaken tag s) :=
  .of_onlyIn (withSdec_onlyIn _ s) (by decide) rfl

/-- The bytes at which the parser of a command stands. -/
def nextHeader (j : LoadJob) : List Byte := (j.stream.drop j.offset).take 32

/-- The header at which the parser stands is there whole, is read without an error, and its check holds. -/
structure HeaderSound (s : State) (j : LoadJob) : Prop where
  whole : (nextHeader j).length = 32
  clean : streamPoisoned s j.tag j.offset 32 = false
  check : (crc32c ((nextHeader j).take 28)).toNat = nzHcheck (nextHeader j)

/-- What the parser finds that ends the stream, with its status: no whole header, or one whose check is wrong. -/
def HeaderFails (s : State) (j : LoadJob) (st : Nat) : Prop :=
  (nextHeader j).length < 32 ∧ st = St.nzTruncated ∨
  (nextHeader j).length = 32 ∧ streamPoisoned s j.tag j.offset 32 = false ∧
    (crc32c ((nextHeader j).take 28)).toNat ≠ nzHcheck (nextHeader j) ∧ st = St.nzHdrCheck

theorem blockParse_ends {s : State} {j : LoadJob} {st : Nat} (h : HeaderFails s j st) :
    ∃ id blk pl, blockParse j s = streamEnds j st id blk pl s := by
  rcases h with ⟨hlen, rfl⟩ | ⟨hlen, hclean, hcheck, rfl⟩
  · exact ⟨0, 0, 0, if_pos hlen⟩
  · refine ⟨nzScene (nextHeader j), nzBlock (nextHeader j), nzPlane (nextHeader j), ?_⟩
    rw [nextHeader] at hlen hcheck
    simp only [blockParse, hlen, hclean, Nat.lt_irrefl, if_false, Bool.false_eq_true, if_pos hcheck]
    rfl

/-- A stream that ends at its header: a failed block, in the error queue with its status. -/
theorem sdecBlockParse_fails {s : State} (hl : LightInv s) (hruns : sdecRuns s = true) {j : LoadJob}
    (hturn : turnJob s = some j) {st : Nat} (h : HeaderFails s j st) :
    Happens (.sdecBlockParse j.tag) s [.sdec, .ctrs, .bb, .books, .blt] (fun t => Counted .blocksFail 1 s t ∧
      (s.sdec.errs.length < 64 → ∃ e, t.sdec.errs = s.sdec.errs ++ [e] ∧ e.status = st ∧ e.tag = j.tag ∧
        e.offset = j.offset)) := by
  obtain ⟨id, blk, pl, hparse⟩ := blockParse_ends (s := turnTaken j.tag s) h
  have he := sdecBlockParse_eq hruns hturn
  rw [hparse, streamEnds] at he
  have hprep := (turnTaken_bookkeeping j.tag s).trans
    (onJob_bookkeeping j.tag (fun j => { j with ended := true, next := j.next + 1 }) _)
  have herrs : (onJob j.tag (fun j => { j with ended := true, next := j.next + 1 }) (turnTaken j.tag s)).sdec.errs =
      s.sdec.errs := rfl
  generalize onJob j.tag (fun j => { j with ended := true, next := j.next + 1 }) (turnTaken j.tag s) = w at *
  have hfail := blockFailed_bookkeeping j.tag j.next st 0 id blk pl j.offset w
  have hdone := loadDone_bookkeeping j.tag (blockFailed j.tag j.next st 0 id blk pl j.offset w)
  refine happens_of_done he hl (((hprep.trans hfail).trans hdone).mono (by decide)).onlyIn (by decide)
    ⟨Counted.settle ?_, fun hroom => ?_⟩
  · exact (blockFailed_counted j.tag j.next st 0 id blk pl j.offset w).of_ctrs (hprep.ctrs_eq (by decide))
      (hdone.ctrs_eq (by decide))
  · rw [← herrs] at hroom ⊢
    have hentry := blockFailed_errs j.tag j.next st 0 id blk pl j.offset w hroom
    exact ⟨_, by simp only [settle_frame, loadDone_errs]; exact hentry, rfl, rfl, rfl⟩

/-- A header passes the binding (R60, R61): its plane is one of the draft set's and waits for no carry-forward, the
scene is the plane's, its bytes lie in the plane's extent and are not locked, and its payload is there. -/
structure Binds (s : State) (j : LoadJob) (h : List Byte) : Prop where
  free : carryPlane s (nzPlane h) = false
  plane : nzPlane h < 64
  counted : nzPlane h < planeCount s.cfg.draft
  scene : nzScene h = dScene (planeOf s.cfg.draft (nzPlane h))
  inside : nzDest h * 256 + nzUlen h ≤ dLen (planeOf s.cfg.draft (nzPlane h))
  unlocked : isLocked s (loadBuf s (nzPlane h) + nzDest h * 256) (nzUlen h) = false
  payload : j.offset + 32 + nzPlen h ≤ j.stream.length

/-- The block of a header, not bound yet. -/
def freshBlock (j : LoadJob) (h : List Byte) : BlockRec :=
  { tag := j.tag, index := j.next, offset := j.offset, header := h, plane := nzPlane h
    ulen := nzUlen h, plen := nzPlen h }

/-- The same bound to its plane. -/
def boundBlock (s : State) (j : LoadJob) (h : List Byte) : BlockRec :=
  { freshBlock j h with
    dst := loadBuf s (nzPlane h) + nzDest h * 256, desc := planeOf s.cfg.draft (nzPlane h)
    buf := loadBuf s (nzPlane h) }

/-- The job of a command once a block of `h` has been taken: `n` is its BLOCK_COUNT. -/
def blockTaken (n : Nat) (h : List Byte) (j : LoadJob) : LoadJob :=
  { j with next := j.next + 1, offset := align8 (j.offset + 32 + nzPlen h), ended := decide (n ≤ j.next + 1) }

/-- The state with a block waiting for an engine. -/
def blockQueued (b : BlockRec) (s : State) : State :=
  { s with sdec := { s.sdec with blocks := s.sdec.blocks ++ [b] } }

theorem mem_blockQueued (b : BlockRec) (s : State) : b ∈ (blockQueued b s).sdec.blocks := by simp [blockQueued]

/-- The job found under a tag is found, changed, where the jobs under that tag are. -/
theorem find?_onJob {s : State} {tag : Nat} {j : LoadJob} {f : LoadJob → LoadJob}
    (hj : s.sdec.jobs.find? (fun x => x.tag == tag) = some j) (hf : ∀ x, (f x).tag = x.tag) :
    (onJob tag f s).sdec.jobs.find? (fun x => x.tag == tag) = some (f j) := by
  have htag : j.tag = tag := by simpa using List.find?_some hj
  have hcomp : ((fun x : LoadJob => x.tag == tag) ∘ fun x => if x.tag = tag then f x else x) =
      fun x => x.tag == tag := by
    funext x
    by_cases hx : x.tag = tag <;> simp [hx, hf]
  simp only [onJob, List.find?_map, hcomp, hj, Option.map_some, htag, if_true]

/-- A block that passes the binding waits for an engine. -/
theorem bindBlock_queues {s : State} {j x : LoadJob} {h : List Byte} (hbinds : Binds s j h)
    (hx : s.sdec.jobs.find? (fun x => x.tag == j.tag) = some x) (hstream : x.stream = j.stream) :
    bindBlock (freshBlock j h) s = blockQueued (boundBlock s j h) s := by
  obtain ⟨-, hplane, hcount, hscene, hinside, hunlocked, hpayload⟩ := hbinds
  have hthere : payloadThere s (freshBlock j h) = true := by
    simp only [payloadThere, freshBlock, hx, hstream, decide_eq_true_eq]
    exact hpayload
  have hplaces : ¬ (64 ≤ nzPlane h ∨ planeCount s.cfg.draft ≤ nzPlane h ∨
      nzScene h ≠ dScene (planeOf s.cfg.draft (nzPlane h)) ∨
      dLen (planeOf s.cfg.draft (nzPlane h)) < nzDest h * 256 + nzUlen h) := by
    rintro (hbad | hbad | hbad | hbad)
    · omega
    · omega
    · exact hbad hscene
    · omega
  refine (if_neg hplaces).trans ((if_neg (Bool.eq_false_iff.mp hunlocked)).trans (if_neg ?_))
  simp [hthere]

/-- A sound header that passes the binding is a block that waits for an engine. -/
theorem blockParse_queues {s : State} {j : LoadJob} (hj : s.sdec.jobs.find? (fun x => x.tag == j.tag) = some j)
    (hsound : HeaderSound s j) (hwell : nzWellFormed (nextHeader j) = true) (hbinds : Binds s j (nextHeader j)) :
    blockParse j s = blockQueued (boundBlock s j (nextHeader j))
      (onJob j.tag (blockTaken (blockCount s j.tag) (nextHeader j)) s) := by
  obtain ⟨hlen, hclean, hcheck⟩ := hsound
  let s1 := onJob j.tag (blockTaken (blockCount s j.tag) (nextHeader j)) s
  have hbinds1 : Binds s1 j (nextHeader j) := { hbinds with }
  have hbound : bindBlock (freshBlock j (nextHeader j)) s1 = blockQueued (boundBlock s j (nextHeader j)) s1 :=
    bindBlock_queues hbinds1 (find?_onJob hj fun _ => rfl) rfl
  rw [← hbound]
  have hfree := hbinds.free
  rw [nextHeader] at *
  simp only [blockParse, hlen, hclean, hcheck, hwell, hfree, Nat.lt_irrefl, ne_eq, not_true_eq_false, Bool.not_true,
    Bool.false_eq_true, if_false]
  rfl

/-- The parser takes the block of such a header; the next turn is that of the command accepted after. -/
theorem sdecBlockParse_queues {s : State} (hl : LightInv s) (hruns : sdecRuns s = true) {j : LoadJob}
    (hturn : turnJob s = some j) (hj : s.sdec.jobs.find? (fun x => x.tag == j.tag) = some j) (hsound : HeaderSound s j)
    (hwell : nzWellFormed (nextHeader j) = true) (hbinds : Binds s j (nextHeader j)) :
    Happens (.sdecBlockParse j.tag) s [.sdec] (fun t =>
      t.sdec.blocks = s.sdec.blocks ++ [boundBlock s j (nextHeader j)] ∧ t.sdec.errs = s.sdec.errs ∧
      t.sdec.turn = flightSeq s j.tag + 1) := by
  have hparse := blockParse_queues (s := turnTaken j.tag s) hj { hsound with } hwell { hbinds with }
  have he := sdecBlockParse_eq hruns hturn
  rw [hparse, loadDone_of_block (tag := j.tag) (mem_blockQueued _ _) rfl] at he
  refine happens_of_done he hl ((withSdec_onlyIn _ s).mono (by decide)) (by decide) ?_
  simp only [settle_frame]
  exact ⟨rfl, rfl, rfl⟩

/-! ### Dispatch (R97) -/

/-- With no block held nothing is bound anew. -/
theorem bindHeld_eq {s : State} (h : ∀ x ∈ s.sdec.blocks, x.held = false) (tag : Nat) : bindHeld tag s = s := by
  have hnone : s.sdec.blocks.filter (fun b => b.held && b.tag == tag && !carryPlane s b.plane) = [] :=
    List.filter_eq_nil_iff.mpr fun b hb => by simp [h b hb]
  have hall : s.sdec.blocks.filter (fun _ => true) = s.sdec.blocks := List.filter_eq_self.mpr fun _ _ => rfl
  simp only [bindHeld, hnone, List.foldl_nil, List.contains_nil, Bool.not_false, hall]

theorem nextBlock_tag {s : State} {tg : Nat} {b : BlockRec}
    (hb : s.sdec.blocks.find? (fun b => b.tag == tg && b.engine.isNone && !b.held && !blockWaits s b) = some b) :
    b.tag = tg := by
  have hall := List.find?_some hb
  simp only [Bool.and_eq_true, beq_iff_eq] at hall
  obtain ⟨⟨⟨htag, -⟩, -⟩, -⟩ := hall
  exact htag

section
variable {s : State} (hl : LightInv s) (hruns : sdecRuns s = true) (hno : NoPlaneDefines s) {tg e : Nat} {b : BlockRec}
  (hheld : ∀ x ∈ s.sdec.blocks, x.held = false)
  (hb : s.sdec.blocks.find? (fun b => b.tag == tg && b.engine.isNone && !b.held && !blockWaits s b) = some b)
  (hfree : freeEngine s = some e)
include hl hruns hno hheld hb hfree

/-- The next block that may go takes the free engine. -/
theorem sdecBlockDispatch_takes (hlock : isLocked s b.dst b.ulen = false) :
    Happens (.sdecBlockDispatch tg) s [.sdec] (fun t => t.sdec = { s.sdec with
      blocks := s.sdec.blocks.map (fun x => if x = b then { x with engine := some e } else x) }) := by
  generalize hu : ({ s with sdec := { s.sdec with
    blocks := s.sdec.blocks.map (fun x => if x = b then { x with engine := some e } else x) } } : State) = u
  have htag := nextBlock_tag hb
  have hmem : { b with engine := some e } ∈ u.sdec.blocks := by
    rw [← hu]
    exact List.mem_map.mpr ⟨b, List.mem_of_find?_eq_some hb, if_pos rfl⟩
  have hdispatch : blockDispatch tg s = u := by
    simp only [blockDispatch, bindHeld_eq hheld, hb, hfree, hlock, Bool.false_eq_true, if_false]
    exact hu
  have he : exec (.sdecBlockDispatch tg) s = done u := by
    show execSdecBlockDispatch tg s = _
    have hnou : NoPlaneDefines u := by rw [← hu]; exact hno
    simp only [execSdecBlockDispatch, hruns, if_true, hdispatch, loadDone_of_block hmem htag, planeDefines_eq hnou]
  refine happens_of_done he hl (hu ▸ (withSdec_onlyIn _ s).mono (by decide)) (by decide) ?_
  simp [← hu]

/-- A block whose bytes have been locked since it was bound is refused (R61, R104). -/
theorem sdecBlockDispatch_refuses (hlock : isLocked s b.dst b.ulen = true) :
    Happens (.sdecBlockDispatch tg) s [.sdec, .cfg, .books, .blt, .ctrs, .bb] (fun t =>
      Counted .blocksFail 1 s t ∧ t.sdec.blocks = s.sdec.blocks.filter (fun x => x != b)) := by
  have htag := nextBlock_tag hb
  refine refused_happens hl hno b.index St.planeBusy 0 (nzScene b.header) (nzBlock b.header) b.plane b.offset ?_
  show execSdecBlockDispatch tg s = _
  simp only [execSdecBlockDispatch, hruns, if_true, blockDispatch, bindHeld_eq hheld, hb, hfree, hlock]
  rw [← htag]
  rfl

end

/-! ### The end of a block in its engine (R98 to R101) -/

theorem crossMark_onlyIn (m : WriteMark) (r : Nat × Nat) (s : State) : OnlyIn [.mem, .freeCtr] s (crossMark m r s) := by
  simp only [crossMark]; split
  · exact memUndef_onlyIn _ _ s
  · exact OnlyIn.refl _ s

theorem crossMark_cells (m : WriteMark) (r : Nat × Nat) (s : State) :
    (crossMark m r s).mem.cells = s.mem.cells := by
  simp only [crossMark]; split <;> rfl

/-- The marks of a command that the other kind of write has set. -/
def otherMarks (blit : Bool) (tag : Nat) (s : State) : List WriteMark :=
  (((flightOf s tag).map (·.marks)).getD []).filter (·.blit != blit)

/-- The state in which the bytes of a write that others have written without an order are undefined (R193). -/
def crossMarked (ranges : List (Nat × Nat)) (ms : List WriteMark) (s : State) : State :=
  ms.foldl (fun t m => ranges.foldl (fun u r => crossMark m r u) t) s

theorem crossMarked_onlyIn (ranges : List (Nat × Nat)) (ms : List WriteMark) (s : State) :
    OnlyIn [.mem, .freeCtr] s (crossMarked ranges ms s) :=
  foldl_onlyIn _ (fun t m => foldl_onlyIn _ (fun u r => crossMark_onlyIn m r u) ranges t) ms s

theorem crossMarked_cells (ranges : List (Nat × Nat)) (ms : List WriteMark) (s : State) :
    (crossMarked ranges ms s).mem.cells = s.mem.cells :=
  foldl_same (·.mem.cells) _ (fun t m => foldl_same (·.mem.cells) _ (fun u r => crossMark_cells m r u) ranges t) ms s

theorem unordered_eq (blit : Bool) (tag : Nat) (ranges : List (Nat × Nat)) (s : State) :
    unordered blit tag ranges s = { crossMarked ranges (otherMarks blit tag s) s with
      hif := { (crossMarked ranges (otherMarks blit tag s) s).hif with
        flights := noteRanges blit tag ranges (crossMarked ranges (otherMarks blit tag s) s).hif.flights } } := rfl

/-- A write noted among the commands in flight changes no opcode. -/
theorem noteRanges_mem {blit : Bool} {tag : Nat} {ranges : List (Nat × Nat)} {fs : List Flight} {f : Flight}
    (hf : f ∈ noteRanges blit tag ranges fs) : ∃ g ∈ fs, g.op = f.op := by
  obtain ⟨g, hg, rfl⟩ := List.mem_map.mp hf
  exact ⟨g, hg, by split <;> rfl⟩

theorem unordered_bookkeeping (blit : Bool) (tag : Nat) (ranges : List (Nat × Nat)) (s : State) :
    Bookkeeping [.mem, .freeCtr, .books] s (unordered blit tag ranges s) := by
  have hmarked := crossMarked_onlyIn ranges (otherMarks blit tag s) s
  rw [unordered_eq]
  generalize crossMarked ranges (otherMarks blit tag s) s = u at *
  have hhif : u.hif = s.hif := hmarked.hif_eq (by decide) (by decide)
  have hsdec : u.sdec = s.sdec := hmarked .sdec (by decide)
  refine ⟨(hmarked.mono (by decide)).trans ?_, .of_intc (hmarked.intc_eq (by decide) (by decide)), by simp [hsdec], ?_⟩
  · intro q hq; cases q <;> simp_all [Part.Same]
  · intro f hf
    rw [← hhif]
    exact noteRanges_mem hf

theorem unordered_cells (blit : Bool) (tag : Nat) (ranges : List (Nat × Nat)) (s : State) :
    (unordered blit tag ranges s).mem.cells = s.mem.cells := by
  rw [unordered_eq]; exact crossMarked_cells _ _ s

/-- Where no other kind of write has marked the command, memory is as written. -/
theorem unordered_mem {blit : Bool} {tag : Nat} {s : State} (h : MarksOf s tag blit) (ranges : List (Nat × Nat)) :
    (unordered blit tag ranges s).mem = s.mem := by
  have hnone : otherMarks blit tag s = [] := by
    refine List.filter_eq_nil_iff.mpr fun m hm => ?_
    cases hf : flightOf s tag with
    | none => simp [hf] at hm
    | some f => simp [h f hf m (by simpa [hf] using hm)]
  rw [unordered_eq, hnone]
  rfl

/-- The state in which what a block decodes to stands at its place, the block dropped from the books. -/
def blockStored (b : BlockRec) (out : List Byte) (s : State) : State :=
  noteWrite b out.length (unordered false b.tag [(b.dst, out.length)] (onMem (memStore b.dst out) (dropBlock b s)))

theorem noteWrite_bookkeeping (b : BlockRec) (n : Nat) (s : State) : Bookkeeping [.cfg] s (noteWrite b n s) := by
  simp only [noteWrite]; split
  · exact withCfg_bookkeeping _ s
  · exact (Bookkeeping.refl s).mono (by decide)

theorem onMem_onlyIn (f : Mem → Mem) (s : State) : OnlyIn [.mem] s (onMem f s) := by
  intro q hq; cases q <;> simp_all [Part.Same]

theorem blockStored_bookkeeping (b : BlockRec) (out : List Byte) (s : State) :
    Bookkeeping [.mem, .freeCtr, .books, .cfg] (dropBlock b s) (blockStored b out s) := by
  have hstore : Bookkeeping [.mem] (dropBlock b s) (onMem (memStore b.dst out) (dropBlock b s)) :=
    .of_onlyIn (onMem_onlyIn _ _) (by decide) rfl
  exact ((hstore.trans (unordered_bookkeeping _ _ _ _)).trans (noteWrite_bookkeeping b _ _)).mono (by decide)

theorem blockStored_cells (b : BlockRec) (out : List Byte) (s : State) :
    (blockStored b out s).mem.cells = (memStore b.dst out s.mem).cells := by
  rw [blockStored, (noteWrite_bookkeeping b _ _).mem_eq (by decide), unordered_cells]
  rfl

theorem blockStored_mem {b : BlockRec} {s : State} (h : MarksOf s b.tag false) (out : List Byte) :
    (blockStored b out s).mem = memStore b.dst out s.mem := by
  have hmarks : MarksOf (onMem (memStore b.dst out) (dropBlock b s)) b.tag false := h
  rw [blockStored, (noteWrite_bookkeeping b _ _).mem_eq (by decide), unordered_mem hmarks]
  rfl

theorem damageSet_bookkeeping (buf : Nat) (r : List (Nat × Nat)) (s : State) :
    Bookkeeping [.cfg] s (damageSet buf r s) :=
  withCfg_bookkeeping _ s

theorem engineFail_bookkeeping (b : BlockRec) (st : Nat) (s : State) :
    Bookkeeping [.cfg, .sdec, .ctrs, .bb] s (engineFail b st s) :=
  (damageSet_bookkeeping b.buf _ s).trans (blockFailed_bookkeeping b.tag b.index st _ _ _ _ _ _)

/-- A block that fails in its engine is counted. -/
theorem engineFail_counted (b : BlockRec) (st : Nat) (s : State) : Counted .blocksFail 1 s (engineFail b st s) :=
  (blockFailed_counted b.tag b.index st _ _ _ _ _ (damageAdd b.buf (dLen b.desc) b.dst b.ulen s)).of_ctrs rfl rfl

theorem blockPassed_bookkeeping (b : BlockRec) (s : State) :
    Bookkeeping [.cfg, .sdec, .ctrs, .bb] s (blockPassed b s) :=
  (((onJob_bookkeeping b.tag _ s).trans (damageSet_bookkeeping b.buf _ _)).trans (count_bookkeeping .blocksOk _)).mono
    (by decide)

/-- A block that passes is counted. -/
theorem blockPassed_counted (b : BlockRec) (s : State) : Counted .blocksOk 1 s (blockPassed b s) :=
  (count_counted .blocksOk (damageSub b.buf b.dst b.ulen
    (onJob b.tag (fun j => { j with passed := j.passed + 1 }) s))).of_ctrs rfl rfl

/-- A block whose content differs from its check value: counted, reported, and failed (R100). -/
def mismatched (b : BlockRec) (s : State) : State := engineFail b St.cvMismatch (raise 129 (count .cvuMismatch s))

theorem mismatched_bookkeeping (b : BlockRec) (s : State) : Bookkeeping [.cfg, .sdec, .ctrs, .bb] s (mismatched b s) :=
  (((count_bookkeeping .cvuMismatch s).trans (raise_bookkeeping 129 _)).trans (engineFail_bookkeeping b _ _)).mono
    (by decide)

theorem mismatched_raised (b : BlockRec) (s : State) : Raised 129 (mismatched b s) :=
  (raise_raised 129 _).kept (engineFail_bookkeeping b _ _).events

/-- Both counters of a mismatch advance. -/
theorem mismatched_advanced (b : BlockRec) (s : State) :
    Advanced .cvuMismatch 1 s (mismatched b s) ∧ Advanced .blocksFail 1 s (mismatched b s) := by
  obtain ⟨hcvu, hothers⟩ := count_counted .cvuMismatch s
  obtain ⟨hfail, hkept⟩ := (engineFail_counted b St.cvMismatch (raise 129 (count .cvuMismatch s))).of_ctrs
    (s' := count .cvuMismatch s) (t' := mismatched b s) (by simp) rfl
  refine ⟨?_, ?_⟩
  · rw [Advanced, hkept _ (by decide), hcvu]
  · rw [Advanced, hfail, hothers _ (by decide)]

/-- The verdict on a block whose decode has ended with a status. -/
def judged (b : BlockRec) (st : Nat) (out : List Byte) (s : State) : State :=
  if st ≠ St.ok then engineFail b st s
  else if (crc32c out).toNat ≠ nzDcheck b.header then mismatched b s
  else blockPassed b s

theorem judged_bookkeeping (b : BlockRec) (st : Nat) (out : List Byte) (s : State) :
    Bookkeeping [.cfg, .sdec, .ctrs, .bb] s (judged b st out s) := by
  simp only [judged]; repeat' split
  · exact engineFail_bookkeeping b st s
  · exact mismatched_bookkeeping b s
  · exact blockPassed_bookkeeping b s

theorem blockComplete_locked {b : BlockRec} {s : State} (hlock : isLocked s b.dst b.ulen = true) :
    blockComplete b s = blockEnded b (engineEntry b St.planeBusy (dropBlock b s)) := by
  simp only [blockComplete, hlock, if_true]
  rfl

theorem blockComplete_decoded {b : BlockRec} {s : State} (hlock : isLocked s b.dst b.ulen = false)
    (hclean : streamPoisoned s b.tag (b.offset + 32) b.plen = false) {st : Nat} {out : List Byte}
    (hdec : nzDecode (nzRaw b.header) b.ulen (blockPayload s b) = (st, out)) :
    blockComplete b s = blockEnded b (judged b st out (blockStored b out s)) := by
  simp only [blockComplete, hlock, hclean, hdec, Bool.false_eq_true, if_false]
  rfl

section
variable {s : State} (hl : LightInv s) (hruns : sdecRuns s = true) (hno : NoPlaneDefines s) {e : Nat} {b : BlockRec}
  (hb : s.sdec.blocks.find? (fun b => b.engine == some e) = some b)
include hl hruns hno hb

/-- A block whose bytes have been locked meanwhile is refused and writes nothing (R61, R104). -/
theorem sdecBlockComplete_refuses (hlock : isLocked s b.dst b.ulen = true) :
    Happens (.sdecBlockComplete e) s [.sdec, .cfg, .books, .blt, .ctrs, .bb] (fun t =>
      Counted .blocksFail 1 s t ∧ t.sdec.blocks = s.sdec.blocks.filter (fun x => x != b)) := by
  refine refused_happens hl hno b.index St.planeBusy (b.engine.getD 0) (nzScene b.header) (nzBlock b.header) b.plane
    b.offset ?_
  show execSdecBlockComplete e s = _
  simp only [execSdecBlockComplete, hb, hruns, if_true, blockComplete_locked hlock]
  rfl

/-- A block that ends is written to its place, and judged. -/
theorem sdecBlockComplete_judges (hlock : isLocked s b.dst b.ulen = false)
    (hclean : streamPoisoned s b.tag (b.offset + 32) b.plen = false) {st : Nat} {out : List Byte}
    (hdec : nzDecode (nzRaw b.header) b.ulen (blockPayload s b) = (st, out)) :
    Happens (.sdecBlockComplete e) s [.sdec, .mem, .freeCtr, .cfg, .books, .blt, .ctrs, .bb] (fun t =>
      (t.mem.cells = (memStore b.dst out s.mem).cells ∧
        (MarksOf s b.tag false → t.mem = memStore b.dst out s.mem) ∧
        (st = St.ok → (crc32c out).toNat = nzDcheck b.header → Counted .blocksOk 1 s t) ∧
        (st = St.ok → (crc32c out).toNat ≠ nzDcheck b.header →
          Advanced .cvuMismatch 1 s t ∧ Advanced .blocksFail 1 s t ∧ Raised 129 t) ∧
        (st ≠ St.ok → Counted .blocksFail 1 s t)) ∧
      t.sdec.blocks = s.sdec.blocks.filter (fun x => x != b)) := by
  have hstored := blockStored_bookkeeping b out s
  have hmem : (blockStored b out s).mem.cells = (memStore b.dst out s.mem).cells := blockStored_cells b out s
  have hmarks : MarksOf s b.tag false → (blockStored b out s).mem = memStore b.dst out s.mem :=
    fun h => blockStored_mem h out
  have he : exec (.sdecBlockComplete e) s = done (blockEnded b (judged b st out (blockStored b out s))) := by
    show execSdecBlockComplete e s = _
    simp only [execSdecBlockComplete, hb, hruns, if_true, blockComplete_decoded hlock hclean hdec]
  generalize blockStored b out s = w at *
  have hctrs : s.ctrs = w.ctrs := (hstored.ctrs_eq (by decide)).symm
  have hjudged := judged_bookkeeping b st out w
  have hall := hstored.trans hjudged
  have hend := blockEnded_bookkeeping b (NoPlaneDefines.kept (s := dropBlock b s) hno hall)
  have hlast := hend.trans (settle_bookkeeping (blockEnded b (judged b st out w)))
  refine happens_of_dropped he hl ((hall.trans hend).mono (by decide)) (by decide) (by decide) ?_
  generalize settle (blockEnded b (judged b st out w)) = t at *
  have hsame : t.mem = w.mem := (hlast.mem_eq (by decide)).trans (hjudged.mem_eq (by decide))
  have hcounts : t.ctrs = (judged b st out w).ctrs := hlast.ctrs_eq (by decide)
  refine ⟨by rw [hsame, hmem], fun h => by rw [hsame, hmarks h], fun hok hcrc => ?_, fun hok hcrc => ?_, fun hst => ?_⟩
  · rw [judged, if_neg (by simp [hok]), if_neg (by simp [hcrc])] at hcounts
    exact (blockPassed_counted b w).of_ctrs hctrs.symm hcounts
  · have hrun : judged b st out w = mismatched b w := by rw [judged, if_neg (by simp [hok]), if_pos hcrc]
    obtain ⟨hcvu, hfail⟩ := mismatched_advanced b w
    rw [hrun] at hcounts hlast
    simp only [Advanced, ctrVal_congr hcounts, ctrVal_congr hctrs]
    exact ⟨hcvu, hfail, (mismatched_raised b w).kept hlast.events⟩
  · rw [judged, if_pos hst] at hcounts
    exact (engineFail_counted b st w).of_ctrs hctrs.symm hcounts

end

/-! ### Carry-forward (R66) -/

theorem carryCopy_onlyIn (c : CarryJob) (s : State) : OnlyIn [.mem] s (carryCopy c s) :=
  foldl_onlyIn _ (fun t _ => onMem_onlyIn _ t) c.ranges s

section
variable {s : State} (hl : LightInv s) (hruns : sdecRuns s = true)
include hl hruns

/-- Carry-forward starts once the outgoing epoch is released. -/
theorem carryForwardStart_happens (hcarry : s.cfg.carry ≠ []) (hout : s.cfg.outgoing = none)
    (hidle : s.cfg.carryRun = false) :
    Happens .carryForwardStart s [.cfg] (fun t => t.cfg = { s.cfg with carryRun := true }) := by
  have he : exec .carryForwardStart s = done { s with cfg := { s.cfg with carryRun := true } } := by
    show execCarryForwardStart s = _
    simp [execCarryForwardStart, hruns, hcarry, hout, hidle]
  exact happens_of_done he hl ((withCfg_onlyIn _ s).mono (by decide)) (by decide) (by simp)

variable {c : CarryJob} {rest : List CarryJob} (hcarry : s.cfg.carry = c :: rest) (hrun : s.cfg.carryRun = true)
include hcarry hrun

omit hruns hrun in
/-- A plane that the outgoing epoch still reads waits. -/
theorem carryForwardEnd_waits (hfree : c.free = false) (hout : s.cfg.outgoing.isSome = true) :
    Nothing .carryForwardEnd s := by
  refine nothing_of_done ?_ hl
  show execCarryForwardEnd s = _
  have hnone : s.cfg.outgoing.isNone = false := by simpa using hout
  simp [execCarryForwardEnd, hcarry, hfree, hnone]

/-- The copy of a plane ends and the next plane follows. -/
theorem carryForwardEnd_happens (hgo : c.free = true ∨ s.cfg.outgoing = none) :
    Happens .carryForwardEnd s [.cfg, .mem] (fun t =>
      t.cfg = { s.cfg with carry := rest, carryRun := !rest.isEmpty } ∧ t.mem = (carryCopy c s).mem) := by
  have hcopy := carryCopy_onlyIn c s
  have hcfg : (carryCopy c s).cfg = s.cfg := hcopy .cfg (by decide)
  have hcond : (c.free || s.cfg.outgoing.isNone) = true := by simpa using hgo
  have he : exec .carryForwardEnd s = done { carryCopy c s with cfg := { (carryCopy c s).cfg with
      carry := rest, carryRun := !rest.isEmpty } } := by
    show execCarryForwardEnd s = _
    simp only [execCarryForwardEnd, hcarry, hruns, hrun, hcond, Bool.and_self, if_true]
  exact happens_of_done he hl ((hcopy.mono (by decide)).trans ((withCfg_onlyIn _ _).mono (by decide))) (by decide)
    (by simp [hcfg])

end

/-! ### All of them -/

/-- Settles O41: each event is its own lemma above, by its cases. -/
theorem sceneDecoderTakesBlocks : Obligations.SceneDecoderTakesBlocks := by
  intro s hl hruns
  refine ⟨fun tg f hroom hold hf => ?_, fun tg => sdecBlockParse_nothing hl, fun tg j h hturn hj hgo hh => ?_,
    fun hno => ⟨fun tg b e hheld hb hfree =>
      ⟨sdecBlockDispatch_takes hl hruns hno hheld hb hfree, sdecBlockDispatch_refuses hl hruns hno hheld hb hfree⟩,
      fun e b hb => ⟨sdecBlockComplete_refuses hl hruns hno hb, fun st out hlock hclean hdec => ?_⟩⟩,
    carryForwardStart_happens hl hruns,
    fun c rest hcarry hrun => ⟨carryForwardEnd_waits hl hcarry, carryForwardEnd_happens hl hruns hcarry hrun⟩⟩
  case refine_1 =>
    refine (sceneLoadTaken_happens hl hruns hroom hold hf).imp ?_
    rintro t ⟨hwait, hreplies, hjobs⟩
    exact ⟨hwait, hreplies, _, hjobs, rfl, rfl, rfl, rfl, rfl⟩
  case refine_2 =>
    obtain rfl : j.tag = tg := by simpa using List.find?_some hj
    subst hh
    refine ⟨fun st hst => sdecBlockParse_fails hl hruns hturn hst,
      fun hlen hclean hcheck hwell hcarry hplane hcount hscene hinside hlock hpay => ?_⟩
    refine (sdecBlockParse_queues hl hruns hturn hj ⟨hlen, hclean, hcheck⟩ hwell
      ⟨hcarry, hplane, hcount, hscene, hinside, hlock, hpay⟩).imp ?_
    rintro t ⟨hblocks, herrs, hnext⟩
    exact ⟨_, hblocks, rfl, rfl, rfl, rfl, rfl, rfl, rfl, rfl, rfl, herrs, hnext⟩
  case refine_3 =>
    refine (sdecBlockComplete_judges hl hruns hno hb hlock hclean hdec).imp ?_
    rintro t ⟨⟨hcells, hmem, hpassed, hmismatch, hfailed⟩, hblocks⟩
    exact ⟨hcells, hmem, hblocks, hpassed, hmismatch, hfailed⟩

end Sys2Proof.Machine
end

section
/-! SUPPORT. The host commands that are queued and go on (R43, R95, R191, R421, R422): what acceptance itself does for
the opcodes with a hook, and each command's place. -/
namespace Sys2Proof.Machine

/-! ### What acceptance does (R43, R191, R421) -/

theorem acceptHook_blit {op : Nat} (h : 0x0501 ≤ op ∧ op ≤ 0x0504) (p : Pkt) (d : DepState) (s : State) :
    acceptHook op p d s = { s with blt := { s.blt with queue := s.blt.queue ++ [{
      tag := ptag p, op := op, desc := if op = 0x0504 then pbytes p 0x14 16 else pbytes p 0x18 40, dep := d }] } } :=
  if_pos h

theorem acceptHook_exchange {op : Nat} (h : op = 0x0412 ∨ op = 0x0413) (p : Pkt) (d : DepState) (s : State) :
    acceptHook op p d s = { s with gcl := { s.gcl with host := s.gcl.host ++ [hostExchange op p] } } :=
  (if_neg (by omega)).trans (if_pos h)

theorem acceptHook_raymap (p : Pkt) (d : DepState) (s : State) :
    acceptHook 0x0210 p d s =
      { s with rmap := { s.rmap with state := s.rmap.state.set (pf p 0x14 1) .loading } } := rfl

theorem withBlt_onlyIn (v : Blt) (s : State) : OnlyIn [.blt] s { s with blt := v } := by
  intro q hq; cases q <;> simp_all [Part.Same]

theorem withGcl_onlyIn (v : Gcl) (s : State) : OnlyIn [.gcl] s { s with gcl := v } := by
  intro q hq; cases q <;> simp_all [Part.Same]

/-- A command that starts changes its books and what its hook changes. -/
theorem begun_onlyIn_hook {s : State} {op : Nat} {p : Pkt} {ps : List Part}
    (hk : ∀ u, OnlyIn ps u (acceptHook op p .met u)) : OnlyIn (.books :: .events :: ps) s (begun s op p) := by
  have hbooks (u : State) (fs : List Flight) (n : Nat) :
      OnlyIn [.books] u { u with hif := { u.hif with flights := fs, nextSeq := n } } := by
    intro q hq; cases q <;> simp_all [Part.Same]
  have hhif : (wakeDomain s).hif = s.hif := by simp
  rw [begun, ← hhif]
  exact ((wakeDomain_onlyIn s).mono (by simp)).trans (((hbooks _ _ _).mono (by simp)).trans
    (((hk _).mono (by simp +contextual)).trans ((onFlight_onlyIn _ _ _).mono (by simp))))

/-! ### A command that goes on (R396) -/

section
variable {c : Instr} {s : State} {op : Nat} {p : Pkt} {start : Nat → Pkt → State → State} {ps : List Part}
  {P : State → Prop} (hc : exec c s = done (submit op p start s)) (hl : LightInv s) (ha : Accepts s op p)
  (hd : ∀ q ∈ lightReads, q ∉ Part.books :: .events :: ps)
include hc hl ha hd

/-- A command whose start leaves the books goes on. -/
theorem goes_on {u : State} (hst : start (ptag p) p (begun s op p) = u) (hh : u.hif = (begun s op p).hif)
    (hu : OnlyIn (.books :: .events :: ps) s u) (hP : P (settle u)) : GoesOn c s op p ps P := by
  have hpnl : u.pnl = s.pnl := hu .pnl (hd _ (by decide))
  refine runs_of_done (by rw [hc, submit_accepts ha, hst]) hu (by simp)
    (hl.of_onlyIn hu (hd _ (by decide)) (hd _ (by decide)) (hd _ (by decide)) (hd _ (by decide)) (hd _ (by decide))
      (congrArg (·.state) hpnl)) ⟨⟨?_, startedFlight s op p, ?_, rfl, rfl, rfl⟩, hP⟩
  · simp [hh, begun_hif ha]
  · simp [hh, begun_hif ha]

/-- A command that takes its place at acceptance, and whose start does no more, goes on. -/
theorem hooked_goes_on (hst : ∀ n q u, start n q u = u) (hk : ∀ u, OnlyIn ps u (acceptHook op p .met u))
    (hP : P (settle (begun s op p))) : GoesOn c s op p ps P :=
  goes_on hc hl ha hd (hst _ _ _) rfl (begun_onlyIn_hook hk) hP

end

/-! ### The commands one by one -/

section
variable {s : State} {p : Pkt} (hl : LightInv s)
include hl

/-- SCENE_LOAD waits to be taken (R95). -/
theorem sceneLoad_waits (ha : Accepts s 0x0201 p) : GoesOn (.sceneLoad p) s 0x0201 p [.sdec] (fun t =>
    t.sdec = { s.sdec with waiting := s.sdec.waiting ++ [ptag p] }) := by
  refine goes_on (start := startSceneLoad) rfl hl ha (by decide) rfl rfl ?_ ?_
  · exact ((begun_onlyIn rfl).mono (by simp)).trans ((withSdec_onlyIn _ _).mono (by simp))
  · simp [startSceneLoad, (begun_scene s (op := 0x0201) rfl p).2]

/-- RAYMAP_LOAD makes its slot LOADING (R43). -/
theorem raymapLoad_loads (ha : Accepts s 0x0210 p) : GoesOn (.raymapLoad p) s 0x0210 p [.rmap] (fun t =>
    t.rmap = { s.rmap with state := s.rmap.state.set (pf p 0x14 1) .loading }) := by
  refine hooked_goes_on (start := startRaymapLoad) rfl hl ha (by decide) (fun _ _ _ => rfl) (fun u => ?_) ?_
  · rw [acceptHook_raymap]; exact withRmap_onlyIn _ u
  · simp [begun, acceptHook_raymap]

/-- An exchange of the host waits behind those before it (R421). -/
theorem exchange_waits {c : Instr} {op : Nat} {start : Nat → Pkt → State → State} (hop : op = 0x0412 ∨ op = 0x0413)
    (hc : exec c s = done (submit op p start s)) (hst : ∀ n q u, start n q u = u) (ha : Accepts s op p) :
    GoesOn c s op p [.gcl] (fun t => t.gcl = { s.gcl with host := s.gcl.host ++ [hostExchange op p] }) := by
  refine hooked_goes_on hc hl ha (by decide) hst (fun u => ?_) ?_
  · rw [acceptHook_exchange hop]; exact withGcl_onlyIn _ u
  · simp [begun, acceptHook_exchange hop]

/-- A Blitter command waits behind those before it, with its descriptor (R191). -/
theorem blit_waits {c : Instr} {op : Nat} (hop : 0x0501 ≤ op ∧ op ≤ 0x0504)
    (hc : exec c s = done (submit op p startBlit s)) (ha : Accepts s op p) :
    GoesOn c s op p [.blt] (fun t => t.blt = { s.blt with queue := s.blt.queue ++ [{
      tag := ptag p, op := op, desc := if op = 0x0504 then pbytes p 0x14 16 else pbytes p 0x18 40
      dep := .met }] }) := by
  refine hooked_goes_on hc hl ha (by decide) (fun _ _ _ => rfl) (fun u => ?_) ?_
  · rw [acceptHook_blit hop]; exact withBlt_onlyIn _ u
  · simp [begun, acceptHook_blit hop]

/-- MEM_TEST goes on (R422). -/
theorem memTest_goes_on (ha : Accepts s 0x0803 p) : GoesOn (.memTest p) s 0x0803 p [] (fun _ => True) := by
  refine hooked_goes_on (start := startMemTest) rfl hl ha (by decide) (fun _ _ _ => rfl) (fun u => ?_) trivial
  rw [acceptHook_none rfl]
  exact OnlyIn.refl _ u

end

/-- Settles O19: each command takes its place at acceptance or at its start, and does no more. -/
theorem queuedCommandsTakeTheirPlace : Obligations.QueuedCommandsTakeTheirPlace :=
  ⟨fun _ _ hl ha => sceneLoad_waits hl ha, fun _ _ hl ha => raymapLoad_loads hl ha,
    fun _ _ hl ha => exchange_waits hl (.inl rfl) rfl (fun _ _ _ => rfl) ha,
    fun _ _ hl ha => exchange_waits hl (.inr rfl) rfl (fun _ _ _ => rfl) ha,
    fun _ _ hl ha => blit_waits hl (by decide) rfl ha, fun _ _ hl ha => blit_waits hl (by decide) rfl ha,
    fun _ _ hl ha => blit_waits hl (by decide) rfl ha, fun _ _ hl ha => blit_waits hl (by decide) rfl ha,
    fun _ _ hl ha => memTest_goes_on hl ha⟩

end Sys2Proof.Machine
end

section
/-! SUPPORT. The Capture Encoder (R112, R116, R117, R119): a block written and counted, and the two ends of a job. -/
namespace Sys2Proof.Machine

/-! ### What is done only under a condition -/

theorem when_bookkeeping {ps : List Part} {f : State → State} {s : State} (c : Bool) (h : Bookkeeping ps s (f s)) :
    Bookkeeping ps s (when c f s) := by
  cases c
  · exact (Bookkeeping.refl s).mono (by simp)
  · exact h

/-- What counts one event, done under a condition: it counts where the condition holds, and nothing else ever. -/
theorem when_counted {c : Ctr} {f : State → State} {s : State} (b : Bool) (h : Counted c 1 s (f s)) :
    (b = true → Advanced c 1 s (when b f s)) ∧ (b = false → ctrVal (when b f s) c = ctrVal s c) ∧
    ∀ d, d ≠ c → ctrVal (when b f s) d = ctrVal s d := by
  obtain ⟨hcount, hothers⟩ := h
  cases b
  · exact ⟨by simp, fun _ => rfl, fun _ _ => rfl⟩
  · exact ⟨fun _ => hcount, by simp, hothers⟩

/-! ### A verify that fails (R108, R117) -/

theorem verifyFailed_bookkeeping (s : State) : Bookkeeping [.ctrs, .bb] s (verifyFailed s) :=
  (((count_bookkeeping .cencVerifyFail s).trans (raise_bookkeeping 133 _)).trans (raise_bookkeeping 129 _)).trans
    (blackBox_bookkeeping _ _ _ _)

theorem verifyFailed_counted (s : State) : Counted .cencVerifyFail 1 s (verifyFailed s) :=
  (count_counted .cencVerifyFail s).of_ctrs rfl (by simp [verifyFailed])

theorem verifyFailed_raised (s : State) : Raised 129 (verifyFailed s) ∧ Raised 133 (verifyFailed s) := by
  have hbox : EventsKept (raise 129 (raise 133 (count .cencVerifyFail s))) (verifyFailed s) := .of_intc rfl
  exact ⟨(raise_raised 129 _).kept hbox, ((raise_raised 133 _).kept (raise_kept 129 _)).kept hbox⟩

/-! ### A block (R112, R116, R117) -/

/-- The next block of a job shrinks under compression. -/
def cencSmall (j : CencJob) : Bool := !j.raw && decide ((cencPayload j).length < (cencData j).length)

/-- Its verify passes: the hardware does not err, and the payload decodes to the data. -/
def cencPasses (sound : Bool) (j : CencJob) : Bool := sound && nzVerified (cencData j) (cencPayload j)

/-- The block is stored raw. -/
def cencStoresRaw (sound : Bool) (j : CencJob) : Bool := !cencSmall j || !cencPasses sound j

/-- The verify refuses a block that shrinks. -/
def cencRefused (sound : Bool) (j : CencJob) : Bool := cencSmall j && !cencPasses sound j

theorem cencRefused_of_packed {sound : Bool} {j : CencJob} (h : cencStoresRaw sound j = false) :
    cencRefused sound j = false := by
  obtain ⟨-, hpasses⟩ : cencSmall j = true ∧ cencPasses sound j = true := by simpa [cencStoresRaw] using h
  simp [cencRefused, hpasses]

/-- A block that shrinks is stored raw for its verify alone. -/
theorem cencRefused_of_small {sound : Bool} {j : CencJob} (h : cencStoresRaw sound j = true)
    (hsmall : cencSmall j = true) : cencRefused sound j = true := by
  simpa [cencStoresRaw, cencRefused, hsmall] using h

/-- The bytes written: zeros up to the block's place (R79, log 74), and the block. -/
def cencBytes (raw : Bool) (j : CencJob) : List Byte :=
  List.replicate (align8 j.out.length - j.out.length) 0 ++
    nzBlockBytes raw (decide (j.input.length ≤ j.pos + (cencData j).length)) j.sceneId j.region j.block (j.pos / 256)
      (cencData j) (if raw then cencData j else cencPayload j)

/-- The job behind that block. -/
def cencNext (raw : Bool) (j : CencJob) : CencJob :=
  { j with pos := j.pos + (cencData j).length, block := j.block + 1, out := j.out ++ cencBytes raw j }

/-- The state with the block in the thumbnail ring. -/
def cencWritten (raw : Bool) (j : CencJob) (rest : List CencJob) (s : State) : State :=
  let u := onMem (thumbStore j.start j.out.length (cencBytes raw j)) s
  { u with
    sdec := { u.sdec with cenc := cencNext raw j :: rest }
    sil := { u.sil with thumbHead := thumbNext j.start (cencNext raw j).out.length } }

/-- The block counted, and what is counted of its kind. -/
def cencCounted (raw refused : Bool) (s : State) : State :=
  count .cencBlocks (when raw (count .cencRaw) (when refused verifyFailed s))

theorem cencBlock_eq (sound : Bool) (j : CencJob) (rest : List CencJob) (s : State) :
    cencBlock sound j rest s = cencCounted (cencStoresRaw sound j) (cencRefused sound j)
      (cencWritten (cencStoresRaw sound j) j rest s) := by
  rfl

/-- What the counters and the sources tell of a block. -/
structure BlockTold (raw refused : Bool) (s t : State) : Prop where
  written : Advanced .cencBlocks 1 s t
  storedRaw : raw = true → Advanced .cencRaw 1 s t
  storedPacked : raw = false → ctrVal t .cencRaw = ctrVal s .cencRaw
  verifyFails : refused = true → Advanced .cencVerifyFail 1 s t ∧ Raised 129 t ∧ Raised 133 t
  verifyPasses : refused = false → ctrVal t .cencVerifyFail = ctrVal s .cencVerifyFail

theorem cencCounted_bookkeeping (raw refused : Bool) (s : State) :
    Bookkeeping [.ctrs, .bb] s (cencCounted raw refused s) :=
  (((when_bookkeeping refused (verifyFailed_bookkeeping s)).trans
    (when_bookkeeping raw (count_bookkeeping .cencRaw _))).trans (count_bookkeeping .cencBlocks _)).mono (by decide)

theorem cencCounted_told (raw refused : Bool) (s : State) : BlockTold raw refused s (cencCounted raw refused s) := by
  have hraised : refused = true →
      Raised 129 (when refused verifyFailed s) ∧ Raised 133 (when refused verifyFailed s) := by
    rintro rfl; exact verifyFailed_raised s
  obtain ⟨hfail, hpass, hv⟩ := when_counted refused (verifyFailed_counted s)
  rw [cencCounted]
  generalize when refused verifyFailed s = v at *
  obtain ⟨hraw, hpacked, hx⟩ := when_counted raw (count_counted .cencRaw v)
  have hkept : EventsKept v (count .cencBlocks (when raw (count .cencRaw) v)) :=
    (when_bookkeeping raw (count_bookkeeping .cencRaw v)).events.trans (count_kept .cencBlocks _)
  generalize when raw (count .cencRaw) v = x at *
  obtain ⟨hblock, ht⟩ := count_counted .cencBlocks x
  refine ⟨?_, fun h => ?_, fun h => ?_, fun h => ⟨?_, (hraised h).1.kept hkept, (hraised h).2.kept hkept⟩, fun h => ?_⟩
  · rw [Advanced, hblock, hx _ (by decide), hv _ (by decide)]
  · rw [Advanced, ht _ (by decide), hraw h, hv _ (by decide)]
  · rw [ht _ (by decide), hpacked h, hv _ (by decide)]
  · rw [Advanced, ht _ (by decide), hx _ (by decide), hfail h]
  · rw [ht _ (by decide), hx _ (by decide), hpass h]

theorem Advanced.of_ctrs {c : Ctr} {n : Nat} {s t s' t' : State} (h : Advanced c n s t) (hs : s.ctrs = s'.ctrs)
    (ht : t'.ctrs = t.ctrs) : Advanced c n s' t' := by
  simpa only [Advanced, ctrVal_congr ht, ctrVal_congr hs] using h

theorem BlockTold.of_states {raw refused : Bool} {s t s' t' : State} (h : BlockTold raw refused s t)
    (hs : s.ctrs = s'.ctrs) (ht : t'.ctrs = t.ctrs) (k : EventsKept t t') : BlockTold raw refused s' t' where
  written := h.written.of_ctrs hs ht
  storedRaw hraw := (h.storedRaw hraw).of_ctrs hs ht
  storedPacked hraw := (ctrVal_congr ht _).trans ((h.storedPacked hraw).trans (ctrVal_congr hs _))
  verifyFails hrefused := by
    obtain ⟨hcount, hsrc129, hsrc133⟩ := h.verifyFails hrefused
    exact ⟨hcount.of_ctrs hs ht, hsrc129.kept k, hsrc133.kept k⟩
  verifyPasses hrefused := (ctrVal_congr ht _).trans ((h.verifyPasses hrefused).trans (ctrVal_congr hs _))

theorem onMem_mem (f : Mem → Mem) (s : State) : (onMem f s).mem = f s.mem := rfl

theorem cencWritten_mem (raw : Bool) (j : CencJob) (rest : List CencJob) (s : State) :
    (cencWritten raw j rest s).mem = thumbStore j.start j.out.length (cencBytes raw j) s.mem :=
  onMem_mem (thumbStore j.start j.out.length (cencBytes raw j)) s

theorem cencWritten_onlyIn (raw : Bool) (j : CencJob) (rest : List CencJob) (s : State) :
    OnlyIn [.sdec, .mem, .sil] s (cencWritten raw j rest s) := by
  intro q hq; cases q <;> simp_all [Part.Same, cencWritten]

/-- An event that writes a block, counted. -/
theorem cencWritten_happens {c : Instr} {s : State} (hl : LightInv s) {j : CencJob} {rest : List CencJob}
    {raw refused : Bool} (he : exec c s = done (cencCounted raw refused (cencWritten raw j rest s))) :
    Happens c s [.sdec, .mem, .sil, .ctrs, .bb] (fun t => BlockTold raw refused s t ∧
      t.sdec = { s.sdec with cenc := cencNext raw j :: rest } ∧
      t.mem = thumbStore j.start j.out.length (cencBytes raw j) s.mem) := by
  have hwritten := cencWritten_onlyIn raw j rest s
  have hsdec : (cencWritten raw j rest s).sdec = { s.sdec with cenc := cencNext raw j :: rest } := by simp [cencWritten]
  have hmem := cencWritten_mem raw j rest s
  generalize cencWritten raw j rest s = w at *
  have hcounts := cencCounted_bookkeeping raw refused w
  have htold := cencCounted_told raw refused w
  generalize cencCounted raw refused w = u at *
  have hlast := hcounts.trans (settle_bookkeeping u)
  refine happens_of_done he hl ((hwritten.mono (by decide)).trans (hcounts.onlyIn.mono (by decide))) (by decide)
    ⟨htold.of_states (hwritten .ctrs (by decide)) (by simp) (settle_kept u), ?_, ?_⟩
  · rw [← hsdec]; exact hlast.onlyIn .sdec (by decide)
  · rw [← hmem]; exact hlast.mem_eq (by decide)

/-! ### The job that runs -/

theorem cencBegin_eq {s : State} {j : CencJob} {rest : List CencJob} (hcenc : s.sdec.cenc = j :: rest)
    (hunits : j.units ≠ 0) : cencBegin s = s := by
  simp only [cencBegin, hcenc, if_neg hunits]

theorem cencBegin_onlyIn (s : State) : OnlyIn [.sdec] s (cencBegin s) := by
  simp only [cencBegin]
  repeat' split
  · exact withSdec_onlyIn _ s
  · exact OnlyIn.refl _ s
  · exact OnlyIn.refl _ s

/-- A job that starts takes its parameters, and is no other job. -/
theorem cencBegin_jobs (s : State) : (cencBegin s).sdec.cenc.map (·.region) = s.sdec.cenc.map (·.region) ∧
    (cencBegin s).sdec.thumbs = s.sdec.thumbs := by
  simp only [cencBegin]
  split
  · rename_i j rest hcenc
    split <;> simp [hcenc]
  · exact ⟨rfl, rfl⟩

/-- The state in which the job at the head has left, its thumbnail waiting with a status. -/
def cencEnded (j : CencJob) (rest : List CencJob) (st : Nat) (s : State) : State :=
  { s with sdec := { s.sdec with cenc := rest, thumbs := s.sdec.thumbs ++ [{
      region := j.region, status := st, rseq := j.sceneId.toNat, offset := j.start, stream := j.out }] } }

theorem cencBlockVerify_eq {s : State} (hruns : sdecRuns s = true) {j : CencJob} {rest : List CencJob}
    (hcenc : s.sdec.cenc = j :: rest) (hunits : j.units ≠ 0) (sound : Bool) (hmore : j.pos < j.input.length)
    (hclean : cencPoisoned s j = false) :
    exec (.cencBlockVerify sound) s = done (cencBlock sound j rest s) := by
  show execCencBlockVerify sound s = _
  simp only [execCencBlockVerify, hruns, if_true, cencBegin_eq hcenc hunits, hcenc, if_pos hmore, hclean,
    Bool.false_eq_true, if_false]

section
variable {s : State} (hl : LightInv s) (hruns : sdecRuns s = true) {j : CencJob} {rest : List CencJob}
  (hcenc : s.sdec.cenc = j :: rest) (hunits : j.units ≠ 0)
include hl hruns hcenc hunits

/-- The running job writes its next block. -/
theorem cencBlockVerify_writes (sound : Bool) (hmore : j.pos < j.input.length) (hclean : cencPoisoned s j = false) :
    Happens (.cencBlockVerify sound) s [.sdec, .mem, .sil, .ctrs, .bb] (fun t =>
      BlockTold (cencStoresRaw sound j) (cencRefused sound j) s t ∧
      t.sdec = { s.sdec with cenc := cencNext (cencStoresRaw sound j) j :: rest } ∧
      t.mem = thumbStore j.start j.out.length (cencBytes (cencStoresRaw sound j) j) s.mem) :=
  cencWritten_happens hl ((cencBlockVerify_eq hruns hcenc hunits sound hmore hclean).trans
    (congrArg done (cencBlock_eq sound j rest s)))

/-- A job that reads a poisoned granule is abandoned (R119). -/
theorem cencBlockVerify_abandons (sound : Bool) (hmore : j.pos < j.input.length) (hbad : cencPoisoned s j = true) :
    Happens (.cencBlockVerify sound) s [.sdec] (fun t =>
      t.sdec.cenc.map (·.region) = rest.map (·.region) ∧
      t.sdec.thumbs = s.sdec.thumbs ++ [{ region := j.region, status := 1, rseq := j.sceneId.toNat, offset := j.start
                                          stream := j.out }]) := by
  have habandon : cencAbandon s = cencEnded j rest 1 s := by simp only [cencAbandon, hcenc]; rfl
  have he : exec (.cencBlockVerify sound) s = done (cencBegin (cencEnded j rest 1 s)) := by
    show execCencBlockVerify sound s = _
    simp only [execCencBlockVerify, hruns, if_true, cencBegin_eq hcenc hunits, hcenc, if_pos hmore, hbad, habandon]
  refine happens_of_done he hl (((withSdec_onlyIn _ s).trans (cencBegin_onlyIn _)).mono (by decide)) (by decide) ?_
  simp only [settle_frame]
  exact cencBegin_jobs (cencEnded j rest 1 s)

/-- A job whose input is used up ends (R112). -/
theorem cencJobDone_ends (hend : j.input.length ≤ j.pos) :
    Happens .cencJobDone s [.sdec] (fun t => Raised 132 t ∧
      t.sdec.cenc.map (·.region) = rest.map (·.region) ∧
      t.sdec.thumbs = s.sdec.thumbs ++ [{ region := j.region, status := 0, rseq := j.sceneId.toNat, offset := j.start
                                          stream := j.out }]) := by
  have he : exec .cencJobDone s = done (cencBegin (raise 132 (cencEnded j rest 0 s))) := by
    show execCencJobDone s = _
    simp only [execCencJobDone, hcenc, hruns, bne_iff_ne.mpr hunits, hend, decide_true, Bool.and_self, if_true]
    rfl
  have hended : OnlyIn [.sdec] s (cencEnded j rest 0 s) := withSdec_onlyIn _ s
  have hsdec : (raise 132 (cencEnded j rest 0 s)).sdec = (cencEnded j rest 0 s).sdec := by simp
  have hraised := raise_raised 132 (cencEnded j rest 0 s)
  have hraise := raise_onlyIn 132 (cencEnded j rest 0 s)
  generalize raise 132 (cencEnded j rest 0 s) = u at *
  have hbegin := cencBegin_onlyIn u
  have hjobs := cencBegin_jobs u
  rw [hsdec] at hjobs
  refine happens_of_done he hl ((hended.mono (by decide)).trans ((hraise.mono (by decide)).trans
    (hbegin.mono (by decide)))) (by decide) ⟨Raised.settle ?_, by simp only [settle_frame]; exact hjobs⟩
  exact hraised.kept (.of_intc (hbegin.intc_eq (by decide) (by decide)))

end

end Sys2Proof.Machine
end

section
/-! SUPPORT. The operations of the Blitter (R191, R193, R195, R203, R209): the start of the one at the head of the queue,
its end, and the command in flight under its tag. -/
namespace Sys2Proof.Machine

/-! ### The end of the operation at the head (R209) -/

theorem bltDepDone_tags (fs : List Flight) (q : List BlitOp) : (bltDepDone fs q).map (·.tag) = q.map (·.tag) := by
  rw [bltDepDone, List.map_map]
  refine List.map_congr_left fun b _ => ?_
  simp only [Function.comp_apply]
  split <;> rfl

/-- The end of a command leaves the Blitter, but for what its queue knows of dependencies. -/
theorem finish_blt {s : State} {tag : Nat} {f : Flight} (hf : Flying s tag f) (e : Ending) :
    (finish tag e s).blt = { s.blt with queue := bltDepDone (flightsLeft tag e s) s.blt.queue } := by
  simp [finish_flying hf e, flightEnded]

theorem raiseIf_bookkeeping (c : Bool) (n : Nat) (s : State) : Bookkeeping [] s (raiseIf c n s) := by
  simp only [raiseIf]; split
  · exact raise_bookkeeping n s
  · exact .refl s

/-- The counter of an operation that ends with a status. -/
def bltCtr (st : Nat) : Ctr := if st = St.ok then .bltOps else .bltFail

/-- The operation at the head has left the queue and is counted. -/
def bltLeft (rest : List BlitOp) (st : Nat) (s : State) : State :=
  count (bltCtr st) { s with blt := { s.blt with queue := rest, running := false, staging := false } }

theorem bltEnd_eq {s : State} {b : BlitOp} {rest : List BlitOp} (hq : s.blt.queue = b :: rest) (st : Nat) :
    bltEnd st s = raiseIf rest.isEmpty 241 (finishSt b.tag st (raiseIf (bltNotify b) 240 (bltLeft rest st s))) := by
  simp only [bltEnd, hq]
  rfl

/-- The operation under a command in flight has ended: it is counted, its command has its reply, nothing runs and the
rest of the queue stands, and an empty one is told of. -/
structure OpEnded (rest : List BlitOp) (f : Flight) (st : Nat) (s t : State) : Prop where
  counted : Counted (bltCtr st) 1 s t
  finished : Finished s t f st
  stopped : t.blt.running = false
  queue : t.blt.queue.map (·.tag) = rest.map (·.tag)
  idle : rest = [] → Raised 241 t

theorem Finished.of_replies {s s' t : State} {f : Flight} {st : Nat} (h : Finished s t f st)
    (hs : s.hif.replies = s'.hif.replies) : Finished s' t f st := by
  simpa only [Finished, hs] using h

/-- An event that ends the operation at the head: `u` is the state before that is counted, reported and answered. -/
theorem happens_of_bltEnd {c : Instr} {s u : State} {b : BlitOp} {rest : List BlitOp} {f : Flight} {st : Nat}
    {ps : List Part} (he : exec c s = done (bltEnd st u)) (hl : LightInv s) (hu : OnlyIn (.events :: ps) s u)
    (hin : ∀ q ∈ [Part.blt, .books, .ctrs], q ∈ ps) (hd : ∀ q ∈ lightReads, q ∉ Part.events :: ps)
    (hq : u.blt.queue = b :: rest) (hf : Flying u b.tag f) (hctrs : u.ctrs = s.ctrs)
    (hreplies : u.hif.replies = s.hif.replies) :
    Happens c s ps (fun t => OpEnded rest f st s t ∧ t.blt.clip = u.blt.clip ∧ t.mem = u.mem) := by
  have hleft : OnlyIn (.events :: ps) u (bltLeft rest st u) :=
    ((withBlt_onlyIn _ u).mono (by simp [hin])).trans ((count_onlyIn _ _).mono (by simp [hin]))
  have hcounted : Counted (bltCtr st) 1 s (bltLeft rest st u) := (count_counted (bltCtr st) { u with blt := { u.blt with
    queue := rest, running := false, staging := false } }).of_ctrs hctrs rfl
  have hblt : (bltLeft rest st u).blt = { u.blt with queue := rest, running := false, staging := false } := by
    simp [bltLeft]
  have hhif : (bltLeft rest st u).hif = u.hif := by simp [bltLeft]
  have hmem : (bltLeft rest st u).mem = u.mem := by simp [bltLeft]
  rw [bltEnd_eq hq] at he
  generalize bltLeft rest st u = v at *
  have hnotify := (raiseIf_bookkeeping (bltNotify b) 240 v).onlyIn
  have hfw : Flying (raiseIf (bltNotify b) 240 v) b.tag f := hf.of_hif (by simp [hhif])
  have hfin := finish_finished hfw { status := st }
  have honly := finish_onlyIn hfw { status := st } rfl
  have hfblt := finish_blt hfw { status := st }
  have hfmem := finish_mem hfw { status := st } rfl
  rw [finishSt] at he
  generalize hx : finish b.tag { status := st } (raiseIf (bltNotify b) 240 v) = x at *
  have hidle := (raiseIf_bookkeeping rest.isEmpty 241 x).onlyIn
  refine happens_of_done he hl ?_ hd
    ⟨⟨Counted.settle ?_, Finished.settle ?_, ?_, ?_, fun hrest => Raised.settle ?_⟩, ?_, ?_⟩
  · exact hu.trans (hleft.trans ((hnotify.mono (by simp)).trans ((honly.mono (by simp [hin])).trans
      (hidle.mono (by simp)))))
  · exact hcounted.of_ctrs rfl (by simp [← hx])
  · refine (hfin.of_replies ?_).of_hif rfl (by simp)
    simp [hhif, hreplies]
  · simp [hfblt, hblt]
  · simp [hfblt, hblt, bltDepDone_tags]
  · subst hrest
    exact raise_raised 241 x
  · simp [hfblt, hblt]
  · simp [hfmem, hmem]

/-! ### The start (R191, R203) -/

/-- The checks of Table 8-3 refuse with a status of their own. -/
theorem bltCheck_ne_ok {s : State} {op st : Nat} {d : List Byte} (h : bltCheck s op d = some st) : st ≠ St.ok := by
  simp only [bltCheck] at h
  repeat' split at h
  all_goals (cases h <;> decide)

/-- The operation at the head runs. -/
def bltRunning (b : BlitOp) (s : State) : State :=
  { s with blt := { s.blt with running := true, staging := bltStaged b.op b.desc } }

theorem extend_onlyIn (tag : Nat) (s : State) : OnlyIn [.books] s (extend tag s) := onFlight_onlyIn tag _ s

theorem whenExtend_onlyIn (c : Bool) (tag : Nat) (s : State) : OnlyIn [.books] s (when c (extend tag) s) := by
  cases c
  · exact OnlyIn.refl _ s
  · exact extend_onlyIn tag s

theorem whenExtend_replies (c : Bool) (tag : Nat) (s : State) :
    (when c (extend tag) s).hif.replies = s.hif.replies := by
  cases c <;> rfl

/-! ### Pixels written, and writes without an order (R193, R195, R208) -/

theorem noteRanges_find? (blit : Bool) (tag : Nat) (ranges : List (Nat × Nat)) (fs : List Flight) :
    (noteRanges blit tag ranges fs).find? (fun f => ptag f.p == tag) = fs.find? (fun f => ptag f.p == tag) := by
  induction fs with
  | nil => rfl
  | cons f fs ih =>
    simp only [noteRanges, List.map_cons, List.find?_cons] at ih ⊢
    by_cases htag : ptag f.p = tag
    · simp [htag]
    · have hsame : (ptag (if ptag f.p = tag ∨ namesTag f tag = true then f else { f with
          marks := f.marks ++ ranges.map fun r => { blit := blit, first := r.1, len := r.2 } }).p == tag) = false := by
        split <;> simpa using htag
      rw [hsame, ih, beq_eq_false_iff_ne.mpr htag]

/-- A write of the command under a tag leaves that command and the replies as they were. -/
theorem unordered_flying {u : State} {tag : Nat} {f : Flight} (hf : Flying u tag f) (blit : Bool)
    (ranges : List (Nat × Nat)) : Flying (unordered blit tag ranges u) tag f ∧
      (unordered blit tag ranges u).hif.replies = u.hif.replies := by
  have hhif := (crossMarked_onlyIn ranges (otherMarks blit tag u) u).hif_eq (by decide) (by decide)
  simp only [unordered_eq, Flying, flightOf, noteRanges_find?, hhif]
  exact ⟨hf, trivial⟩

theorem bltRun_onlyIn (op : Nat) (d : List Byte) (u : State) : OnlyIn [.mem] u (bltRun op d u) := by
  rw [bltRun]
  exact onMem_onlyIn _ u

theorem bltUndef_onlyIn (d : List Byte) (u : State) : OnlyIn [.mem, .freeCtr] u (bltUndef d u) :=
  foldl_onlyIn _ (fun t (r : Nat × Nat) => memUndef_onlyIn r.1 r.2 t) _ u

theorem bltUndef_cells (d : List Byte) (u : State) : (bltUndef d u).mem.cells = u.mem.cells :=
  foldl_same (·.mem.cells) (fun t (r : Nat × Nat) => memUndef r.1 r.2 t) (fun _ _ => rfl) _ u

/-! ### The events of the operation at the head (R191, R203, R209) -/

section
variable {s : State} (hl : LightInv s) {b : BlitOp} {rest : List BlitOp} (hq : s.blt.queue = b :: rest)
include hl hq

/-- While stacked memory takes no requests, no operation starts or ends. -/
theorem bltOps_wait (hclosed : memOpen s = false) : Nothing .bltOpStart s ∧ Nothing .bltOpEnd s := by
  refine ⟨nothing_of_done (congrArg done ?_) hl, nothing_of_done (congrArg done ?_) hl⟩
  · simp [bltStart, hq, hclosed]
  · simp [bltFinish, hq, hclosed]

section
variable (hready : (s.blt.running || b.dep != .met || s.cond.coast || !memOpen s) = false)
include hready

/-- While the controller gives its traffic nothing, an operation that passes its checks waits. -/
theorem bltOpStart_waits (hpass : bltCheck s b.op b.desc = none) (hmoves : bltMoves s b.op b.desc = true)
    (hcap : requesterCap s 5 = some 0) :
    Happens .bltOpStart s [.books] (fun t => t.hif.replies = s.hif.replies) := by
  have he : exec .bltOpStart s = done (extend b.tag s) := by
    show done (bltStart s) = _
    simp [bltStart, hq, hready, hpass, hmoves, hcap]
  exact happens_of_done he hl ((extend_onlyIn b.tag s).mono (by decide)) (by decide) (by simp [extend, onFlight])

/-- Otherwise it starts. -/
theorem bltOpStart_starts (hpass : bltCheck s b.op b.desc = none)
    (hgiven : ¬ (bltMoves s b.op b.desc = true ∧ requesterCap s 5 = some 0)) :
    Happens .bltOpStart s [.blt, .books] (fun t =>
      t.blt = { s.blt with running := true, staging := bltStaged b.op b.desc } ∧ t.hif.replies = s.hif.replies) := by
  have hnot : (bltMoves s b.op b.desc && requesterCap s 5 == some 0) = false := by
    simpa [← Bool.not_eq_true] using hgiven
  have he : exec .bltOpStart s =
      done (when (bltExtended s && bltMoves s b.op b.desc) (extend b.tag) (bltRunning b s)) := by
    show done (bltStart s) = _
    simp only [bltStart, bltRunning, hq, hready, hpass, Option.isNone_none, Bool.true_and, hnot, Bool.false_eq_true,
      if_false]
  have hruns : OnlyIn [.blt] s (bltRunning b s) := withBlt_onlyIn _ s
  have hext := whenExtend_onlyIn (bltExtended s && bltMoves s b.op b.desc) b.tag (bltRunning b s)
  have hreplies := whenExtend_replies (bltExtended s && bltMoves s b.op b.desc) b.tag (bltRunning b s)
  generalize when (bltExtended s && bltMoves s b.op b.desc) (extend b.tag) (bltRunning b s) = u at *
  refine happens_of_done he hl ((hruns.mono (by decide)).trans (hext.mono (by decide))) (by decide) ⟨?_, ?_⟩
  · simp only [settle_frame]; exact hext .blt (by decide)
  · simp only [settle_frame]; exact hreplies

/-- An operation that fails a check ends with its status. -/
theorem bltOpStart_refuses {st : Nat} {f : Flight} (hfail : bltCheck s b.op b.desc = some st)
    (hf : Flying s b.tag f) :
    Happens .bltOpStart s [.blt, .books, .ctrs] (fun t => OpEnded rest f st s t) := by
  have he : exec .bltOpStart s = done (bltEnd st (bltRunning b s)) := by
    show done (bltStart s) = _
    simp only [bltStart, bltRunning, hq, hready, hfail, Option.isNone_some, Bool.false_and, Bool.false_eq_true,
      if_false]
  exact (happens_of_bltEnd he hl ((withBlt_onlyIn _ s).mono (by decide)) (by decide) (by decide) hq
    (hf.of_hif rfl) rfl rfl).imp fun _ h => h.1

end

section
variable (hrun : s.blt.running = true) (hopen : memOpen s = true) {f : Flight} (hf : Flying s b.tag f)
include hrun hopen hf

/-- A BLIT_CLIP_SET sets its rectangle. -/
theorem bltOpEnd_clips (hop : b.op = 0x0504) :
    Happens .bltOpEnd s [.blt, .books, .ctrs] (fun t => OpEnded rest f 0 s t ∧
      t.blt.clip = tset s.blt.clip (field b.desc 0 1)
        (field b.desc 4 2, field b.desc 6 2, field b.desc 8 2, field b.desc 10 2)) := by
  have he : exec .bltOpEnd s = done (bltEnd St.ok { s with blt := { s.blt with
      clip := tset s.blt.clip (field b.desc 0 1)
        (field b.desc 4 2, field b.desc 6 2, field b.desc 8 2, field b.desc 10 2) } }) := by
    show done (bltFinish s) = _
    simp [bltFinish, hq, hrun, hopen, hop]
  exact (happens_of_bltEnd he hl ((withBlt_onlyIn _ s).mono (by decide)) (by decide) (by decide) hq
    (hf.of_hif rfl) rfl rfl).imp fun _ h => ⟨h.1, h.2.1⟩

/-- An operation whose source holds no error writes its pixels. -/
theorem bltOpEnd_writes (hop : b.op ≠ 0x0504)
    (hclean : ¬ (b.op = 0x0502 ∧ (bltSrcRows b.desc).any (fun r => memPoisoned s.mem r.1 r.2) = true)) :
    Happens .bltOpEnd s [.blt, .books, .ctrs, .mem, .freeCtr] (fun t => OpEnded rest f 0 s t ∧
      t.mem.cells = (bltRun b.op b.desc s).mem.cells ∧
      (MarksOf s b.tag true → t.mem = (bltRun b.op b.desc s).mem) ∧ t.blt.clip = s.blt.clip) := by
  have he : exec .bltOpEnd s =
      done (bltEnd St.ok (unordered true b.tag (bltRanges s b.op b.desc) (bltRun b.op b.desc s))) := by
    show done (bltFinish s) = _
    simp only [bltFinish, hq, hrun, hopen, if_neg hop, if_neg hclean]
    rfl
  have hwrite := bltRun_onlyIn b.op b.desc s
  have hhif : (bltRun b.op b.desc s).hif = s.hif := hwrite.hif_eq (by decide) (by decide)
  generalize bltRun b.op b.desc s = w at *
  generalize bltRanges s b.op b.desc = ranges at *
  have hbooks := (unordered_bookkeeping true b.tag ranges w).onlyIn
  obtain ⟨hflying, hreplies⟩ := unordered_flying (hf.of_hif hhif) true ranges
  have hcells := unordered_cells true b.tag ranges w
  have hmarks (h : MarksOf s b.tag true) : (unordered true b.tag ranges w).mem = w.mem :=
    unordered_mem (by simpa only [MarksOf, flightOf, hhif] using h) ranges
  generalize unordered true b.tag ranges w = u at *
  have hall : OnlyIn [.events, .mem, .freeCtr, .books] s u := (hwrite.mono (by decide)).trans hbooks
  have hblt : u.blt = s.blt := hall .blt (by decide)
  refine (happens_of_bltEnd he hl (hall.mono (by decide)) (by decide) (by decide) (hblt ▸ hq) hflying
    (hall .ctrs (by decide)) (hreplies.trans (congrArg (·.replies) hhif))).imp ?_
  rintro t ⟨hended, hclip, hmem⟩
  exact ⟨hended, by rw [hmem, hcells], fun h => by rw [hmem, hmarks h], by rw [hclip, hblt]⟩

/-- A copy from a poisoned source writes nothing. -/
theorem bltOpEnd_poisoned (hop : b.op = 0x0502)
    (hbad : (bltSrcRows b.desc).any (fun r => memPoisoned s.mem r.1 r.2) = true) :
    Happens .bltOpEnd s [.blt, .books, .ctrs, .mem, .freeCtr] (fun t =>
      OpEnded rest f St.memUncorr s t ∧ t.mem.cells = s.mem.cells) := by
  have he : exec .bltOpEnd s = done (bltEnd St.memUncorr (bltUndef b.desc s)) := by
    show done (bltFinish s) = _
    have hcopy : b.op ≠ 0x0504 := by omega
    simp only [bltFinish, hq, hrun, hopen, if_neg hcopy, if_pos (And.intro hop hbad)]
    rfl
  have hundef := bltUndef_onlyIn b.desc s
  have hcells := bltUndef_cells b.desc s
  generalize bltUndef b.desc s = u at *
  have hhif : u.hif = s.hif := hundef.hif_eq (by decide) (by decide)
  have hblt : u.blt = s.blt := hundef .blt (by decide)
  refine (happens_of_bltEnd he hl (hundef.mono (by decide)) (by decide) (by decide) (hblt ▸ hq) (hf.of_hif hhif)
    (hundef .ctrs (by decide)) (congrArg (·.replies) hhif)).imp ?_
  rintro t ⟨hended, -, hmem⟩
  exact ⟨hended, by rw [hmem, hcells]⟩

end

end

/-! ### All of them -/

/-- Settles O42: each event of the Capture Encoder and of the Blitter is its own lemma above, by its cases. -/
theorem encoderAndBlitterRun : Obligations.EncoderAndBlitterRun := by
  intro s hl
  refine ⟨fun hruns j rest hcenc hunits => ⟨fun sound raw hmore hclean hraw => ?_,
      cencBlockVerify_abandons hl hruns hcenc hunits, cencJobDone_ends hl hruns hcenc hunits⟩,
    fun b rest hq => ⟨bltOps_wait hl hq,
      fun hidle hdep hcoast hopen =>
        have hready : (s.blt.running || b.dep != .met || s.cond.coast || !memOpen s) = false := by
          simp [hidle, hdep, hcoast, hopen]
        ⟨bltOpStart_waits hl hq hready, bltOpStart_starts hl hq hready, fun st f hfail hf => ?_⟩,
      fun hrun hopen f hf => ⟨fun hop => ?_, fun hop hclean => ?_, fun hop hbad => ?_⟩⟩⟩
  case refine_1 =>
    obtain rfl : raw = cencStoresRaw sound j := by
      rw [hraw, cencStoresRaw, ← Bool.not_and, cencSmall, cencPasses, Bool.and_assoc]
    refine (cencBlockVerify_writes hl hruns hcenc hunits sound hmore hclean).imp ?_
    rintro t ⟨htold, hsdec, hmem⟩
    exact ⟨htold.written, htold.storedRaw,
      fun hpacked => ⟨htold.storedPacked hpacked, htold.verifyPasses (cencRefused_of_packed hpacked)⟩,
      fun hstored hraw hsmall => htold.verifyFails (cencRefused_of_small hstored (by simp [cencSmall, hraw, hsmall])),
      _, _, hsdec, rfl, rfl, rfl, rfl, rfl, hmem⟩
  case refine_2 =>
    refine (bltOpStart_refuses hl hq hready hfail hf).imp ?_
    rintro t ⟨hcounted, hfin, hstopped, hqueue, hempty⟩
    rw [bltCtr, if_neg (bltCheck_ne_ok hfail)] at hcounted
    exact ⟨hcounted, hfin, hstopped, hqueue, hempty⟩
  case refine_3 =>
    refine (bltOpEnd_clips hl hq hrun hopen hf hop).imp ?_
    rintro t ⟨hended, hclip⟩
    exact ⟨hended.counted, hended.finished, hclip, hended.stopped, hended.idle⟩
  case refine_4 =>
    refine (bltOpEnd_writes hl hq hrun hopen hf hop hclean).imp ?_
    rintro t ⟨hended, hcells, hmem, hclip⟩
    exact ⟨hended.counted, hended.finished, hcells, hmem, hclip, hended.stopped, hended.idle⟩
  case refine_5 =>
    refine (bltOpEnd_poisoned hl hq hrun hopen hf hop hbad).imp ?_
    rintro t ⟨hended, hcells⟩
    exact ⟨hended.counted, hended.finished, hcells, hended.stopped⟩

end Sys2Proof.Machine
end

section
/-! SUPPORT. The refusals of host commands (R192, R395, R398): what a refused command does, said once for all statuses,
and the full queue of the Blitter, the last check of Table 15-4. -/
namespace Sys2Proof.Machine

/-! ### A refused command (R395, R398) -/

/-- The state in which a refusal is counted: HIF_REFUSED_CNT and, for a tag in flight, the duplicates. -/
def refusalCounted (st : Nat) (s : State) : State := when (st == St.tagInUse) (count .dupTag) (count .refused s)

theorem whenCount_onlyIn (b : Bool) (c : Ctr) (s : State) : OnlyIn [.ctrs, .events] s (when b (count c) s) := by
  cases b
  · exact OnlyIn.refl _ s
  · exact count_onlyIn c s

theorem refusalCounted_onlyIn (st : Nat) (s : State) : OnlyIn [.ctrs, .events] s (refusalCounted st s) :=
  (count_onlyIn .refused s).trans (whenCount_onlyIn _ .dupTag _)

theorem refusalCounted_hif (st : Nat) (s : State) : (refusalCounted st s).hif = s.hif := by simp [refusalCounted]

/-- The count of duplicates leaves that of the refusals. -/
theorem refusalCounted_advanced (st : Nat) (s : State) : Advanced .refused 1 s (refusalCounted st s) := by
  have hrefused := (count_counted .refused s).1
  cases hdup : st == St.tagInUse with
  | false => simpa [Advanced, refusalCounted, hdup, when] using hrefused
  | true =>
    have hkept := (count_counted .dupTag (count .refused s)).2 .refused (by decide)
    simpa [Advanced, refusalCounted, hdup, when, hkept] using hrefused

/-- A refusal: one reply without a RESULT, one more refused, and the commands in flight as before. -/
theorem refuse_replied (op : Nat) (p : Pkt) (st : Nat) (s : State) :
    Replied s (refuse op p st s) op p st [] ∧ (refuse op p st s).hif.flights = s.hif.flights ∧
      Advanced .refused 1 s (refuse op p st s) := by
  obtain ⟨hreply, hflights⟩ := writeReply_replied op p
    { status := st, rflags := if st == St.tagInUse then rfDupTag else 0 } (refusalCounted st s)
  refine ⟨?_, hflights.trans (by rw [refusalCounted_hif]), (refusalCounted_advanced st s).of_ctrs rfl ?_⟩
  · rw [Replied, refusalCounted_hif] at hreply
    exact hreply
  · exact writeReply_onlyIn op p _ _ .ctrs (by decide)

theorem refuse_onlyIn (op : Nat) (p : Pkt) (st : Nat) (s : State) :
    OnlyIn [.books, .events, .ctrs] s (refuse op p st s) := by
  have hreply : OnlyIn [.books, .events] (refusalCounted st s) (refuse op p st s) := by
    intro q hq
    by_cases hmem : q = .mem
    · subst hmem
      exact writeReply_mem rfl
    · exact writeReply_onlyIn op p _ _ q (by simpa [hmem] using hq)
  exact ((refusalCounted_onlyIn st s).mono (by simp)).trans (hreply.mono (by simp))

/-- A refused command is answered and counted, and does nothing else. -/
theorem refused_runs {c : Instr} {s : State} {op : Nat} {p : Pkt} {st : Nat} {start : Nat → Pkt → State → State}
    (hc : exec c s = done (submit op p start s)) (hl : LightInv s) (hr : Refuses s op p st) :
    RunsTo c s [.books, .events, .ctrs] (fun t => Replied s t op p st [] ∧ t.hif.flights = s.hif.flights ∧
      Advanced .refused 1 s t) := by
  have hhif : (wakeDomain s).hif = s.hif := by simp
  have honly : OnlyIn [.books, .events, .ctrs] s (refuse op p st (wakeDomain s)) :=
    ((wakeDomain_onlyIn s).mono (by simp)).trans (refuse_onlyIn op p st _)
  have hpnl : (refuse op p st (wakeDomain s)).pnl = s.pnl := honly .pnl (by decide)
  obtain ⟨hreply, hflights, hcount⟩ := refuse_replied op p st (wakeDomain s)
  refine runs_of_done (by rw [hc, submit_refuses hr]) honly (by simp)
    (hl.of_onlyIn honly (by decide) (by decide) (by decide) (by decide) (by decide) (by rw [hpnl])) ⟨?_, ?_, ?_⟩
  · simpa only [Replied, settle_frame, hhif] using hreply
  · simpa only [settle_frame, hhif] using hflights
  · exact hcount.of_ctrs (by simp) (by simp)

/-! ### The full queue of the Blitter (R192) -/

/-- The state with nothing in the Blitter's queue. -/
def bltEmptied (s : State) : State := { s with blt := { s.blt with queue := [] } }

/-- The full queue is the last thing check 6 looks at. -/
theorem check6_of_bltEmptied (s : State) (op : Nat) (p : Pkt) :
    check6 s op p = (check6 (bltEmptied s) op p).or
      (if 0x0501 ≤ op ∧ op ≤ 0x0504 ∧ 64 ≤ s.blt.queue.length then some St.bltQueueFull else none) := by
  have hroom : ¬ (0x0501 ≤ op ∧ op ≤ 0x0504 ∧ 64 ≤ (bltEmptied s).blt.queue.length) := by simp [bltEmptied]
  have hrange : memRangeBad (bltEmptied s) op p = memRangeBad s op p := rfl
  have hslot : slotInUse (bltEmptied s) (pf p 0x14 1) = slotInUse s (pf p 0x14 1) := rfl
  have hgcl : (bltEmptied s).gcl = s.gcl := rfl
  simp only [check6, if_neg hroom, hrange, hslot, hgcl]
  repeat' split
  all_goals rfl

/-- The full queue is the last check of Table 15-4. -/
theorem acceptCheck_of_bltEmptied (s : State) (op : Nat) (p : Pkt) :
    acceptCheck s op p = (acceptCheck (bltEmptied s) op p).or
      (if 0x0501 ≤ op ∧ op ≤ 0x0504 ∧ 64 ≤ s.blt.queue.length then some St.bltQueueFull else none) := by
  have hflight : flightOf (bltEmptied s) (ptag p) = flightOf s (ptag p) := rfl
  have hhif : (bltEmptied s).hif = s.hif := rfl
  have hcond : (bltEmptied s).cond = s.cond := rfl
  have hcheck5 (m : Nat) : check5 (bltEmptied s) op p m = check5 s op p m := rfl
  simp only [acceptCheck, hflight, hhif, hcond, hcheck5, check6_of_bltEmptied s op p]
  repeat' split
  all_goals rfl

/-- A Blitter command refused by nothing else is refused for the full queue. -/
theorem acceptCheck_bltQueueFull {s : State} {op : Nat} {p : Pkt} (hop : 0x0501 ≤ op ∧ op ≤ 0x0504)
    (hfull : 64 ≤ s.blt.queue.length) (hpass : acceptCheck (bltEmptied s) op p = none) :
    acceptCheck s op p = some St.bltQueueFull := by
  rw [acceptCheck_of_bltEmptied, hpass, if_pos ⟨hop.1, hop.2, hfull⟩, Option.none_or]

/-- Settles O57: with the queue full the check of R192 is the one that refuses, and a refusal has no other effect. -/
theorem blitterQueueFullIsRefused : Obligations.BlitterQueueFullIsRefused := by
  intro s hl hfull p c op hmem hopen heth hpass
  have hrefuses (hop : 0x0501 ≤ op ∧ op ≤ 0x0504) : Refuses s op p 0x0116 :=
    ⟨hopen, heth, acceptCheck_bltQueueFull hop hfull hpass⟩
  simp only [List.mem_cons, List.not_mem_nil, or_false, Prod.mk.injEq] at hmem
  rcases hmem with ⟨rfl, rfl⟩ | ⟨rfl, rfl⟩ | ⟨rfl, rfl⟩ | ⟨rfl, rfl⟩
  all_goals exact refused_runs (start := startBlit) rfl hl (hrefuses (by decide))

end Sys2Proof.Machine
end

section
/-! SUPPORT. FAULT as an event enters it (R236, R559): what its parts leave of the state, the events and the bytes of
memory, so that an event that sets FAULT names the parts it touches once. -/
namespace Sys2Proof.Machine

/-! ### Updates of one part -/

theorem withPnl_onlyIn (v : Pnl) (s : State) : OnlyIn [.pnl] s { s with pnl := v } := by
  intro q hq; cases q <;> simp_all [Part.Same]

theorem withPlt_onlyIn (v : Plt) (s : State) : OnlyIn [.plt] s { s with plt := v } := by
  intro q hq; cases q <;> simp_all [Part.Same]

theorem withSco_onlyIn (v : Sco) (s : State) : OnlyIn [.sco] s { s with sco := v } := by
  intro q hq; cases q <;> simp_all [Part.Same]

theorem withRay_onlyIn (v : Ray) (s : State) : OnlyIn [.ray] s { s with ray := v } := by
  intro q hq; cases q <;> simp_all [Part.Same]

theorem withRot_onlyIn (v : Rot) (s : State) : OnlyIn [.rot, .light] s { s with rot := v } := by
  intro q hq; cases q <;> simp_all [Part.Same]

theorem withCond_onlyIn (v : Cond) (s : State) : OnlyIn [.cond] s { s with cond := v } := by
  intro q hq; cases q <;> simp_all [Part.Same]

theorem withFly_onlyIn (v : Fly) (s : State) : OnlyIn [.fly] s { s with fly := v } := by
  intro q hq; cases q <;> simp_all [Part.Same]

/-! ### What FAULT may do -/

/-- What the conditions may touch of `faultParts`, beside memory, the conditions and the panel's own state. -/
def plainParts : List Part :=
  [.books, .blt, .freeCtr, .ctrs, .bb, .sil, .ray, .sco, .cfg, .gcl, .plt, .light, .rot, .therm, .fly]

/-- A stretch of what FAULT does (R236, R559): within `faultParts`, with no event lost and no byte of memory written, the
conditions and the marks of panel faults as they were, and a panel on its way up or down stays on its way. -/
structure FaultStep (s t : State) : Prop where
  books : Bookkeeping faultParts s t
  cells : t.mem.cells = s.mem.cells
  fault : t.cond.fault = s.cond.fault
  bivouac : t.cond.bivouac = s.cond.bivouac
  coast : t.cond.coast = s.cond.coast
  cause : t.pnl.cause = s.pnl.cause
  tripped : t.pnl.crkTripped = s.pnl.crkTripped
  discharging : s.pnl.state = .discharging → t.pnl.state = .discharging
  powering : s.pnl.state = .powering → t.pnl.state = .powering ∨ t.pnl.state = .discharging

namespace FaultStep
variable {ps : List Part} {s t u : State}

theorem refl (s : State) : FaultStep s s :=
  ⟨(Bookkeeping.refl s).mono (by simp), rfl, rfl, rfl, rfl, rfl, rfl, id, .inl⟩

theorem trans (h : FaultStep s t) (k : FaultStep t u) : FaultStep s u where
  books := (h.books.trans k.books).mono (by simp)
  cells := k.cells.trans h.cells
  fault := k.fault.trans h.fault
  bivouac := k.bivouac.trans h.bivouac
  coast := k.coast.trans h.coast
  cause := k.cause.trans h.cause
  tripped := k.tripped.trans h.tripped
  discharging := fun hd => k.discharging (h.discharging hd)
  powering := fun hp => (h.powering hp).elim k.powering fun hd => .inr (k.discharging hd)

/-- The same composition with the later stretch first, in the order in which nested operations are written. -/
theorem after (k : FaultStep t u) (h : FaultStep s t) : FaultStep s u := h.trans k

/-- What keeps its books within the plain parts. -/
theorem of_plain (h : Bookkeeping ps s t) (hp : ∀ q ∈ ps, q ∈ plainParts) : FaultStep s t := by
  have hplain := h.mono hp
  have hcond : t.cond = s.cond := hplain.onlyIn .cond (by decide)
  have hpnl : t.pnl = s.pnl := hplain.onlyIn .pnl (by decide)
  refine ⟨hplain.mono (by decide), by rw [hplain.mem_eq (by decide)], ?_, ?_, ?_, ?_, ?_, ?_, ?_⟩
  all_goals simp +contextual [hcond, hpnl]

/-- A change of the panel's own state alone. -/
theorem of_panel (v : Pnl) (hc : v.cause = s.pnl.cause) (ht : v.crkTripped = s.pnl.crkTripped)
    (hd : s.pnl.state = .discharging → v.state = .discharging)
    (hp : s.pnl.state = .powering → v.state = .powering ∨ v.state = .discharging) :
    FaultStep s { s with pnl := v } :=
  ⟨(Bookkeeping.of_onlyIn (withPnl_onlyIn v s) (by decide) rfl).mono (by decide), rfl, rfl, rfl, rfl, hc, ht, hd, hp⟩

/-- A change of the conditions that keeps the flags. -/
theorem of_cond (v : Cond) (hf : v.fault = s.cond.fault) (hb : v.bivouac = s.cond.bivouac)
    (hc : v.coast = s.cond.coast) : FaultStep s { s with cond := v } :=
  ⟨(Bookkeeping.of_onlyIn (withCond_onlyIn v s) (by decide) rfl).mono (by decide), rfl, hf, hb, hc, rfl, rfl, id,
    .inl⟩

/-- Several commands end. -/
theorem foldl {α : Type} {f : State → α → State} (h : ∀ t x, FaultStep t (f t x)) (l : List α) (s : State) :
    FaultStep s (l.foldl f s) := by
  induction l generalizing s with
  | nil => exact refl s
  | cons x l ih => exact (h s x).trans (ih _)

end FaultStep

/-! ### Its parts -/

theorem finish_faultStep (tag : Nat) {e : Ending} (hi : e.image = []) (s : State) : FaultStep s (finish tag e s) :=
  .of_plain (finish_bookkeeping tag hi s) (by decide)

theorem finishAll_bookkeeping (tags : List Nat) {e : Ending} (hi : e.image = []) (s : State) :
    Bookkeeping [.books, .blt, .bb] s (finishAll tags e s) := by
  induction tags generalizing s with
  | nil => exact (Bookkeeping.refl s).mono (by decide)
  | cons tag tags ih => exact ((finish_bookkeeping tag hi s).trans (ih _)).mono (by decide)

theorem finishAll_faultStep (tags : List Nat) {e : Ending} (hi : e.image = []) (s : State) :
    FaultStep s (finishAll tags e s) :=
  .of_plain (finishAll_bookkeeping tags hi s) (by decide)

theorem blank_faultStep (s : State) : FaultStep s (blank s) :=
  .of_plain (.of_onlyIn (blank_onlyIn s) (by decide) rfl) (by decide)

theorem reported_bookkeeping (c : Ctr) (n code source : Nat) (d : Word) (s : State) :
    Bookkeeping [.ctrs, .bb] s (reported c n code source d s) :=
  ((count_bookkeeping c s).trans (raise_bookkeeping n _)).trans (blackBox_bookkeeping code source d _)

theorem bbFlushSlot_bookkeeping (cause : Nat) (s : State) : Bookkeeping [.sil, .ctrs, .bb] s (bbFlushSlot cause s) := by
  by_cases hrel : 2 ≤ s.pwr.released
  · obtain ⟨v, d, -, hslot⟩ := bbFlushSlot_eq cause hrel
    rw [hslot]
    exact (Bookkeeping.of_onlyIn (withSil_onlyIn v s) (by decide) rfl).trans (reported_bookkeeping _ _ _ _ _ _)
  · rw [bbFlushSlot, if_pos (Nat.not_le.mp hrel)]
    exact (Bookkeeping.refl s).mono (by decide)

theorem withBb_faultStep (v : Bb) (s : State) : FaultStep s { s with bb := v } :=
  .of_plain (.of_onlyIn (withBb_onlyIn v s) (by decide) rfl) (by decide)

theorem bbFaultFlush_faultStep (s : State) : FaultStep s (bbFaultFlush s) := by
  simp only [bbFaultFlush]
  split
  · exact .refl s
  · split
    · exact withBb_faultStep _ s
    · exact (FaultStep.of_plain (bbFlushSlot_bookkeeping 2 s) (by decide)).trans (withBb_faultStep _ _)

/-- A render that is cut leaves its buffer and its statistics undefined, and writes no byte (R174). -/
theorem stopRender_faultStep (s : State) : FaultStep s (stopRender s) := by
  have hundef (a n : Nat) (u : State) : FaultStep u (memUndef a n u) :=
    ⟨(Bookkeeping.of_onlyIn (memUndef_onlyIn a n u) (by decide) rfl).mono (by decide), rfl, rfl, rfl, rfl, rfl, rfl, id,
      .inl⟩
  have hray (v : Ray) (w : Sco) (u : State) : FaultStep u { u with ray := v, sco := w } :=
    .of_plain (.of_onlyIn (((withRay_onlyIn v u).mono (qs := [.ray, .sco]) (by decide)).trans
      ((withSco_onlyIn w _).mono (by decide))) (by decide) rfl) (by decide)
  have hfree (n : Nat) (u : State) : FaultStep u (takeFrees n u).2 :=
    .of_plain (ps := [.freeCtr]) (.of_onlyIn (by intro q hq; cases q <;> simp_all [Part.Same, takeFrees]) (by decide) rfl)
      (by decide)
  simp only [stopRender]
  split
  · exact .refl s
  · exact (hfree 18 s).trans (((hundef _ _ _).trans (hundef _ _ _)).trans (hray _ _ _))

theorem stopRay_faultStep (s : State) : FaultStep s (stopRay s) := by
  refine (stopRender_faultStep s).trans (.of_plain (ps := [.ray, .sco, .cfg]) (.of_onlyIn ?_ (by decide) rfl) (by decide))
  intro q hq; cases q <;> simp_all [Part.Same, stopRay]

/-! ### The links (R283, R286) -/

theorem withPlt_faultStep (v : Plt) (s : State) : FaultStep s { s with plt := v } :=
  .of_plain (.of_onlyIn (withPlt_onlyIn v s) (by decide) rfl) (by decide)

theorem darkNow_faultStep (s : State) : FaultStep s (darkNow s) :=
  (blank_faultStep _).after (.of_plain (.of_onlyIn (withSco_onlyIn _ s) (by decide) rfl) (by decide))

theorem beginLoop_faultStep (tag : Nat) (s : State) : FaultStep s (beginLoop tag s) := by
  simp only [beginLoop]
  split
  · exact (withPlt_faultStep _ _).after ((darkNow_faultStep _).after (withPlt_faultStep _ s))
  · exact (darkNow_faultStep _).after (withPlt_faultStep _ s)

theorem loopFinish_faultStep (st : Nat) (bad : BitVec 256) (errs : Nat) (s : State) :
    FaultStep s (loopFinish st bad errs s) := by
  simp only [loopFinish]
  split
  · exact .refl s
  · have hended (v : Plt) (tag : Nat) (result : List Byte) : FaultStep s
        (raise 50 (finish tag { status := st, result := result } { s with plt := v })) :=
      (FaultStep.of_plain (raise_bookkeeping 50 _) (by decide)).after
        ((finish_faultStep tag rfl _).after (withPlt_faultStep v s))
    split
    · exact (beginLoop_faultStep _ _).after (hended _ _ _)
    · exact hended _ _ _

theorem loopCut_faultStep (s : State) : FaultStep s (loopCut s) := by
  simp only [loopCut]
  split
  · exact loopFinish_faultStep _ _ _ s
  · exact .refl s

theorem cutTraining_faultStep (s : State) : FaultStep s (cutTraining s) := by
  simp only [cutTraining]
  split
  · exact (loopCut_faultStep _).after (withPlt_faultStep _ s)
  · exact .refl s

theorem linkTrainStop_faultStep (st : Nat) (s : State) : FaultStep s (linkTrainStop st s) :=
  (finishAll_faultStep _ rfl _).after (withPlt_faultStep _ s)

/-! ### The panel (R302, R304, R570) -/

theorem withGcl_faultStep (v : Gcl) (s : State) : FaultStep s { s with gcl := v } :=
  .of_plain (.of_onlyIn (withGcl_onlyIn v s) (by decide) rfl) (by decide)

/-- The panel at the begin of a discharge, at the row for 0 ms of Table 12-3. -/
def dischargePnl (s : State) : Pnl :=
  { s.pnl with state := .discharging, dischStep := 1, dischLevel := par s 0x4502, step := 0, waitReady := false
               delay := false, waitCrack := false }

/-- The state in which a discharge that starts blanks the panel and ends the training. -/
def dischargeBegun (s : State) : State :=
  { s with gcl := { s.gcl with own := s.gcl.own.filter (fun e => !e.power) }, pnl := dischargePnl s }

theorem dischargeBegun_faultStep (s : State) : FaultStep s (dischargeBegun s) :=
  (FaultStep.of_panel (dischargePnl s) rfl rfl (fun _ => rfl) (fun _ => .inr rfl)).trans (withGcl_faultStep _ _)

/-- What follows the begin of a discharge keeps the panel discharging. -/
theorem startDischarge_rest {s : State} (h : s.pnl.state = .powering ∨ s.pnl.state = .on) :
    FaultStep (dischargeBegun s) (startDischarge s) := by
  rw [startDischarge, if_pos h]
  exact (withGcl_faultStep _ _).after ((cutTraining_faultStep _).after ((linkTrainStop_faultStep _ _).after
    (blank_faultStep _)))

theorem startDischarge_faultStep (s : State) : FaultStep s (startDischarge s) := by
  by_cases h : s.pnl.state = .powering ∨ s.pnl.state = .on
  · exact (dischargeBegun_faultStep s).trans (startDischarge_rest h)
  · rw [startDischarge, if_neg h]
    exact .refl s

theorem dischargePanel_faultStep (s : State) : FaultStep s (dischargePanel s) := by
  simp only [dischargePanel]
  split
  · exact .refl s
  · exact startDischarge_faultStep s

theorem startPowerOn_faultStep (s : State) : FaultStep s (startPowerOn s) := by
  cases hstate : s.pnl.state with
  | off =>
    simp only [startPowerOn, hstate]
    split
    · exact .of_panel _ rfl rfl (by simp [hstate]) (by simp [hstate])
    · exact .of_panel _ rfl rfl (by simp [hstate]) (by simp [hstate])
  | discharging =>
    simp only [startPowerOn, hstate]
    exact .of_panel _ rfl rfl (by simp [hstate]) (by simp [hstate])
  | powering => simpa only [startPowerOn, hstate] using .refl s
  | on => simpa only [startPowerOn, hstate] using .refl s

theorem panelEnd_faultStep (tag st : Nat) (s : State) : FaultStep s (panelEnd tag st s) :=
  (finish_faultStep tag rfl _).after (.of_panel _ rfl rfl id .inl)

theorem extend_faultStep (tag : Nat) (s : State) : FaultStep s (extend tag s) := by
  refine .of_plain (ps := [.books])
    ⟨(extend_onlyIn tag s).mono (by simp), .of_intc (by simp), by simp, fun f hf => ?_⟩ (by decide)
  obtain ⟨g, hg, rfl⟩ := List.mem_map.mp hf
  exact ⟨g, hg, by split <;> rfl⟩

/-- The PANEL_POWER commands that act, one after the other. -/
theorem panelActs_faultStep (n : Nat) (s : State) : FaultStep s (panelActs n s) := by
  induction n generalizing s with
  | zero => exact .refl s
  | succ n ih =>
    have hend (tag st : Nat) : FaultStep s (panelActs n (panelEnd tag st s)) :=
      (panelEnd_faultStep tag st s).trans (ih _)
    simp only [panelActs]
    repeat' split
    · exact .refl s
    · exact hend _ _
    · exact hend _ _
    · exact startPowerOn_faultStep s
    · exact startPowerOn_faultStep s
    · exact .refl s
    · exact hend _ _
    · exact startDischarge_faultStep s
    · exact extend_faultStep _ s
    · exact .refl s

theorem panelStop_faultStep (st : Nat) (s : State) : FaultStep s (panelStop st s) := by
  simp only [panelStop]
  repeat' split
  · exact (panelEnd_faultStep _ st s).trans (panelActs_faultStep _ _)
  · exact .refl s
  · exact .refl s

/-! ### Sequences, CALIBRATE and the rotor (R566, R483, R484, R224) -/

theorem failEntry_faultStep (st : Nat) (s : State) : FaultStep s (failEntry st s) := by
  cases hseq : s.cond.seq with
  | none => simpa only [failEntry, hseq] using .refl s
  | some q =>
    have hstop (v : Ray) (w : Sil) : FaultStep s
        { s with cond := { s.cond with seq := none, parkNext := false }, ray := v, sil := w } := by
      refine FaultStep.trans (t := { s with ray := v, sil := w }) ?_ (.of_cond _ rfl rfl rfl)
      refine .of_plain (ps := [.ray, .sil]) (.of_onlyIn ?_ (by decide) rfl) (by decide)
      intro q hq; cases q <;> simp_all [Part.Same]
    simp only [failEntry, hseq]
    split
    · exact (finish_faultStep _ rfl _).after (hstop _ _)
    · exact hstop _ _

theorem withCfg_faultStep (v : Cfg) (s : State) : FaultStep s { s with cfg := v } :=
  .of_plain (.of_onlyIn (withCfg_onlyIn v s) (by decide) rfl) (by decide)

theorem withTherm_faultStep (v : Therm) (s : State) : FaultStep s { s with therm := v } :=
  .of_plain (.of_onlyIn (withTherm_onlyIn v s) (by decide) rfl) (by decide)

theorem calLoad_faultStep (tag : Nat) (bs : List Byte) (s : State) : FaultStep s (calLoad tag bs s) := by
  have hvalues (u : State) : FaultStep u (calValues bs u) :=
    (FaultStep.foldl (fun _ _ => withCfg_faultStep _ _) _ _).after (.foldl (fun _ _ => withCfg_faultStep _ _) _ u)
  simp only [calLoad]
  split
  · exact (finish_faultStep tag rfl _).after ((hvalues _).after (withTherm_faultStep _ s))
  · exact finish_faultStep tag rfl s

theorem runCalLoads_faultStep (s : State) : FaultStep s (runCalLoads s) := by
  refine (FaultStep.foldl (fun t n => ?_) _ _).after (withTherm_faultStep _ s)
  split
  · exact calLoad_faultStep _ _ _
  · exact .refl t

theorem endCalibrate_faultStep {e : Ending} (hi : e.image = []) (s : State) : FaultStep s (endCalibrate e s) := by
  simp only [endCalibrate]
  split
  · exact (runCalLoads_faultStep _).after ((finishAll_faultStep _ hi _).after (withTherm_faultStep _ s))
  · exact .refl s

theorem rotorStartEnd_faultStep (st : Nat) (s : State) : FaultStep s (rotorStartEnd st s) :=
  finishAll_faultStep _ rfl s

theorem withRot_faultStep (v : Rot) (s : State) : FaultStep s { s with rot := v } :=
  .of_plain (.of_onlyIn (withRot_onlyIn v s) (by decide) rfl) (by decide)

theorem raise_faultStep (n : Nat) (s : State) : FaultStep s (raise n s) := .of_plain (raise_bookkeeping n s) (by decide)

theorem when_faultStep (c : Bool) {f : State → State} (h : ∀ t, FaultStep t (f t)) (s : State) :
    FaultStep s (when c f s) := by
  cases c
  · exact .refl s
  · exact h s

theorem refreshLit_faultStep (s : State) : FaultStep s (refreshLit s) := by
  simp only [refreshLit]
  repeat' split
  · exact .refl s
  · exact (raise_faultStep 23 _).after (withRot_faultStep _ s)
  · exact (blank_faultStep _).after ((raise_faultStep 23 _).after (withRot_faultStep _ s))

theorem latchSpin_faultStep (s : State) : FaultStep s (latchSpin s) := withRot_faultStep _ s

theorem setRotState_faultStep (n : RotState) (s : State) : FaultStep s (setRotState n s) := by
  have hlost (t : State) : FaultStep t (count .lockLoss (raise 22 t)) :=
    (FaultStep.of_plain (count_bookkeeping .lockLoss _) (by decide)).after (raise_faultStep 22 t)
  simp only [setRotState]
  split
  · exact .refl s
  · refine (refreshLit_faultStep _).after ((when_faultStep _ hlost _).after ?_)
    refine (FaultStep.of_plain (raiseIf_bookkeeping _ 24 _) (by decide)).after ((raise_faultStep 20 _).after ?_)
    refine (withRot_faultStep _ _).after ((when_faultStep _ (fun t => ?_) _).after
      (when_faultStep _ latchSpin_faultStep s))
    exact withRot_faultStep _ t

theorem brakeRotor_faultStep (s : State) : FaultStep s (brakeRotor s) := by
  simp only [brakeRotor]
  split
  · exact setRotState_faultStep .brake s
  · exact setRotState_faultStep .brake s
  · exact withRot_faultStep _ s
  · exact setRotState_faultStep .stopped s
  all_goals exact .refl s

/-! ### Flysheet requests (R319, R320) -/

theorem withFly_bookkeeping (v : Fly) (s : State) : Bookkeeping [.fly] s { s with fly := v } :=
  .of_onlyIn (withFly_onlyIn v s) (by decide) rfl

/-- What the requests and the ends of Flysheet updates may touch. -/
def flyParts : List Part := [.fly, .ctrs, .bb, .books, .blt]

theorem flySkip_bookkeeping (s : State) : Bookkeeping [.ctrs, .bb] s (flySkip s) :=
  reported_bookkeeping .flySkip 62 _ _ _ s

/-- The Flysheet once its request is dropped. -/
def flyDropped (s : State) : Fly :=
  { s.fly with state := if s.fly.state = .redriveWaiting then .redriveWaiting else .idle
               requested := false, pend := false, tags := [], causes := [] }

theorem flyDrop_eq (st : Nat) (s : State) : flyDrop st s =
    finishAll s.fly.tags { status := st, result := [BitVec.ofNat 8 s.fly.reqBand] }
      (flySkip { s with fly := flyDropped s }) := rfl

theorem flyDrop_bookkeeping (st : Nat) (s : State) : Bookkeeping flyParts s (flyDrop st s) := by
  rw [flyDrop_eq]
  exact ((withFly_bookkeeping (flyDropped s) s).trans ((flySkip_bookkeeping _).trans
    (finishAll_bookkeeping _ rfl _))).mono (by decide)

theorem flyConsider_bookkeeping (s : State) : Bookkeeping flyParts s (flyConsider s) := by
  have hdrop (v : Fly) (st : Nat) : Bookkeeping flyParts s (flyDrop st { s with fly := v }) :=
    ((withFly_bookkeeping v s).trans (flyDrop_bookkeeping st _)).mono (by decide)
  simp only [flyConsider]
  repeat' split
  · exact flyDrop_bookkeeping _ s
  · exact hdrop _ _
  · exact (withFly_bookkeeping _ s).mono (by decide)
  · exact hdrop _ _
  · exact (withFly_bookkeeping _ s).mono (by decide)
  · exact (Bookkeeping.refl s).mono (by decide)

theorem flyRequest_bookkeeping (c : FlyCause) (tag : Option Nat) (s : State) :
    Bookkeeping flyParts s (flyRequest c tag s) := by
  have hskip := (flySkip_bookkeeping s).mono (qs := flyParts) (by decide)
  simp only [flyRequest]
  repeat' split
  · exact (hskip.trans (finish_bookkeeping _ rfl _)).mono (by decide)
  · exact hskip
  · exact (withFly_bookkeeping _ s).mono (by decide)
  · exact ((withFly_bookkeeping _ s).trans (flyConsider_bookkeeping _)).mono (by decide)

theorem flyEnd_bookkeeping (st : Nat) (u : FlyUpdate) (s : State) : Bookkeeping flyParts s (flyEnd st u s) :=
  (((withFly_bookkeeping _ s).trans (finishAll_bookkeeping _ rfl _)).trans (flyConsider_bookkeeping _)).mono (by decide)

theorem flyAbort_bookkeeping (s : State) : Bookkeeping flyParts s (flyAbort s) := by
  simp only [flyAbort]
  repeat' split
  · exact (withFly_bookkeeping _ s).mono (by decide)
  · exact flyDrop_bookkeeping _ s
  · exact flyConsider_bookkeeping s

/-! ### FAULT (R236, R559) -/

/-- The state in which FAULT has come, and nothing it does is done; under BIVOUAC it does not come. -/
def faultFlagged (s : State) : State :=
  { s with cond := { s.cond with fault := s.cond.fault || !s.cond.bivouac } }

theorem faultFlagged_of_bivouac {s : State} (h : s.cond.bivouac = true) : faultFlagged s = s := by
  have hfault : (s.cond.fault || !s.cond.bivouac) = s.cond.fault := by simp [h]
  rw [faultFlagged, hfault]

/-- What is left of setting FAULT once the panel discharges. -/
def faultStops (fresh : Bool) (s : State) : State :=
  when fresh (flyRequest .fault none) (endCalibrate { status := St.faultActive } (failEntry St.faultActive
    (panelStop St.faultActive { s with pnl := { s.pnl with powerAfter := false, waitCrack := false } })))

/-- What comes before the panel discharges. -/
def faultDarkens (s : State) : State :=
  linkTrainStop St.faultActive (stopRay (blank (bbFaultFlush (blackBox 0x0205 0xFF (causeWord s) s))))

theorem setFault_eq {s : State} (h : s.cond.bivouac = false) :
    setFault s = faultStops (!s.cond.fault) (dischargePanel (faultDarkens (faultFlagged s))) := by
  have hflag : faultFlagged s = { s with cond := { s.cond with fault := true } } := by simp [faultFlagged, h]
  rw [setFault, h, hflag]
  rfl

theorem faultStops_faultStep (fresh : Bool) (s : State) : FaultStep s (faultStops fresh s) := by
  refine (when_faultStep fresh (fun t => .of_plain (flyRequest_bookkeeping .fault none t) (by decide)) _).after
    ((endCalibrate_faultStep rfl _).after ((failEntry_faultStep _ _).after ((panelStop_faultStep _ _).after ?_)))
  exact .of_panel { s.pnl with powerAfter := false, waitCrack := false } rfl rfl id .inl

theorem blackBox_faultStep (code source : Nat) (d : Word) (s : State) : FaultStep s (blackBox code source d s) :=
  .of_plain (blackBox_bookkeeping code source d s) (by decide)

theorem faultDarkens_faultStep (s : State) : FaultStep s (faultDarkens s) :=
  (linkTrainStop_faultStep _ _).after ((stopRay_faultStep _).after ((blank_faultStep _).after
    ((bbFaultFlush_faultStep _).after (blackBox_faultStep _ _ _ s))))

theorem setFault_faultStep (s : State) : FaultStep (faultFlagged s) (setFault s) := by
  cases h : s.cond.bivouac with
  | true =>
    rw [faultFlagged_of_bivouac h, setFault, if_pos h]
    exact blackBox_faultStep _ _ _ s
  | false =>
    rw [setFault_eq h]
    exact (faultStops_faultStep _ _).after ((dischargePanel_faultStep _).after (faultDarkens_faultStep _))

/-- FAULT discharges a panel that is powering on, outside COAST (R300). -/
theorem setFault_discharges {s : State} (hb : s.cond.bivouac = false) (hc : s.cond.coast = false)
    (hp : s.pnl.state = .powering ∨ s.pnl.state = .discharging) : (setFault s).pnl.state = .discharging := by
  have hdark := faultDarkens_faultStep (faultFlagged s)
  rw [setFault_eq hb]
  refine (faultStops_faultStep _ _).discharging ?_
  have hcoast : (faultDarkens (faultFlagged s)).cond.coast = false := hdark.coast.trans hc
  rw [dischargePanel, if_neg (by simp [hcoast])]
  have hstep := startDischarge_faultStep (faultDarkens (faultFlagged s))
  rcases hp with hp | hp
  · rcases hdark.powering hp with hd | hd
    · exact (startDischarge_rest (.inl hd)).discharging rfl
    · exact hstep.discharging hd
  · exact hstep.discharging (hdark.discharging hp)

/-- A fault whose action on the rotor is braking, once FAULT is set. -/
theorem faultBrake_setFault (s : State) : FaultStep (setFault s) (faultBrake s) :=
  (rotorStartEnd_faultStep _ _).after (brakeRotor_faultStep _)

theorem faultBrake_faultStep (s : State) : FaultStep (faultFlagged s) (faultBrake s) :=
  (setFault_faultStep s).trans (faultBrake_setFault s)

/-! ### Events that set FAULT -/

/-- While something forbids light the interlocks leave no row in a pulse. -/
theorem interlock_dark {s : State} (h : (s.cond.fault || s.cond.bivouac) = true) :
    (interlock s).bl.lit = List.replicate 8 false := by
  have hdark : mayLight (refreshLit s) = false := by
    simp only [mayLight, anyStop, refreshLit_frame]
    rcases Bool.or_eq_true _ _ |>.mp h with hf | hf <;> simp [hf]
  simp only [interlock, hdark, Bool.false_eq_true, if_false]
  split <;> rfl

theorem interlock_kept (s : State) : EventsKept s (interlock s) := by
  simp only [interlock]
  repeat' split
  · exact (refreshLit_faultStep s).books.events
  · exact (refreshLit_faultStep s).books.events.trans (.of_intc (by simp))
  · exact (refreshLit_faultStep s).books.events.trans (.of_intc rfl)

/-- An event that sets FAULT: `v` is the state in which FAULT comes, and `u` the one that the event leaves to the
interlocks. -/
theorem happens_of_fault {c : Instr} {s v u : State} {P : State → Prop} (he : exec c s = done u)
    (hv : OnlyIn (.events :: faultParts) s v) (hfault : v.cond.fault = s.cond.fault)
    (hbiv : v.cond.bivouac = s.cond.bivouac) (hcells : v.mem.cells = s.mem.cells)
    (hu : FaultStep (faultFlagged v) u) (hP : P (settle (interlock u))) :
    Happens c s faultParts (fun t => FaultSet s t ∧ P t) := by
  have hflag : OnlyIn (.events :: faultParts) v (faultFlagged v) := (withCond_onlyIn _ v).mono (by decide)
  have hset : u.cond.fault = (s.cond.fault || !s.cond.bivouac) := by rw [hu.fault, ← hfault, ← hbiv]; rfl
  have hkept : u.cond.bivouac = s.cond.bivouac := hu.bivouac.trans hbiv
  have hdark : (u.cond.fault || u.cond.bivouac) = true := by
    rw [hset, hkept]; cases s.cond.fault <;> cases s.cond.bivouac <;> rfl
  exact runs_of_done_light he (hv.trans (hflag.trans hu.books.onlyIn)) (by decide) (by decide)
    ⟨⟨by simpa using interlock_dark hdark, by simpa using hu.cells.trans hcells, by simpa using hset,
      by simpa using hkept⟩, hP⟩

end Sys2Proof.Machine
end

section
/-! SUPPORT. The panel's sequences and its crack loops (R302 to R308): the polls and steps of power-on, the rows of the
discharge, the samples of a loop, and the two events that set FAULT. -/
namespace Sys2Proof.Machine

/-! ### Events on the panel's own state -/

/-- The interlocks ask of the panel only whether it is ON. -/
theorem LightInv.of_panel {ps : List Part} {s t : State} (h : LightInv s) (ho : OnlyIn ps s t)
    (hd : ∀ q ∈ [Part.light, .rot, .bl, .cond, .hif], q ∉ ps) (hon : t.pnl.state = .on ↔ s.pnl.state = .on) :
    LightInv t := by
  have hl := ho .light (hd _ (by decide)); have hr := ho .rot (hd _ (by decide)); have hb := ho .bl (hd _ (by decide))
  have hc : t.cond = s.cond := ho .cond (hd _ (by decide)); have hh := ho .hif (hd _ (by decide))
  simp only [Part.Same] at hl hr hb hh
  have hrot : t.rot = s.rot := by rw [hr]; simp [hl]
  have hbl : t.bl = s.bl := by rw [hb]; simp [hl]
  have hready : t.hif.ready = s.hif.ready := by rw [hh]
  have hlit : (t.pnl.state == .on) = (s.pnl.state == .on) := by
    rw [Bool.eq_iff_iff, beq_iff_eq, beq_iff_eq, hon]
  simpa only [LightInv, litCond, mayLight, anyStop, hrot, hbl, hc, hready, hlit] using h

/-- An event on the panel, the lanes and the links that leaves whether the panel is ON. -/
theorem panel_happens {c : Instr} {s u : State} {ps : List Part} {P : State → Prop} (hl : LightInv s)
    (he : exec c s = done u) (hu : OnlyIn (.events :: ps) s u) (hps : ∀ q ∈ ps, q ∈ [Part.pnl, .gcl, .plt])
    (hon : u.pnl.state = .on ↔ s.pnl.state = .on) (hP : P (settle u)) : Happens c s ps P := by
  refine runs_of_done he hu (by simp) (hl.of_panel (hu.mono (qs := [.events, .pnl, .gcl, .plt]) ?_) (by decide) hon) hP
  exact fun q hq => (List.mem_cons.mp hq).elim (fun h => by simp [h]) (fun h => List.mem_cons_of_mem _ (hps q h))

/-! ### The steps of power-on (Table 12-2) -/

theorem setRails_onlyIn (v : Nat) (s : State) : OnlyIn [.pnl, .gcl] s (setRails v s) :=
  ((withPnl_onlyIn _ s).mono (by decide)).trans ((withGcl_onlyIn _ _).mono (by decide))

theorem powerStep_onlyIn (n : Nat) (s : State) : OnlyIn [.pnl, .gcl] s (powerStep n s) := by
  have hpnl := (withPnl_onlyIn { s.pnl with step := n, waitReady := decide (n < 7), delay := false } s).mono
    (qs := [.pnl, .gcl]) (by decide)
  simp only [powerStep]
  split
  · exact hpnl.trans ((withGcl_onlyIn _ _).mono (by decide))
  · refine hpnl.trans (OnlyIn.trans ?_ (setRails_onlyIn _ _))
    cases n == 6
    · exact .refl _ _
    · exact (withGcl_onlyIn _ _).mono (by decide)

/-- A step with a wait for READY writes its rails to the PMIC, behind all else. -/
theorem powerStep_waits {n : Nat} (h : n < 7) (s : State) :
    (powerStep n s).pnl = { s.pnl with step := n, waitReady := true, delay := false, rails := stepRails n } ∧
    (powerStep n s).gcl.own.getLast? = some (ownWrite true 0x10 (stepRails n) (0, 2)) := by
  have hne : n ≠ 7 := by omega
  constructor
  · cases hvcom : n == 6 <;> simp [powerStep, hne, h, setRails, pushPower, when, hvcom, pushVcom]
  · simp [powerStep, hne, setRails, pushPower]

/-- The READ of the PMIC's STATUS. -/
def statusRead (s : State) : State := gcSend 0 (exchBody { link := 0, addr := 2, reg := 1 }) s

theorem statusRead_onlyIn (s : State) : OnlyIn [.gcl] s (statusRead s) := withGcl_onlyIn _ s

/-- A PMIC that is not powered or not READY is polled, and no more. -/
theorem pmicPoll_unready {s : State} {ready : Bool} (h : ready = false ∨ s.pnl.auxPnl = false) :
    pmicPoll ready s = statusRead s := by
  have hno : (!ready || !s.pnl.auxPnl) = true := by rcases h with h | h <;> simp [h]
  rw [pmicPoll, if_pos hno]
  rfl

theorem pmicPoll_ready {s : State} (h : s.pnl.auxPnl = true) : pmicPoll true s =
    if s.pnl.step = 2 then powerStep 3 (statusRead s)
    else { statusRead s with pnl := { s.pnl with waitReady := false, delay := true } } := by
  rw [pmicPoll, if_neg (by simp [h])]
  rfl

section
variable {s : State} (hl : LightInv s) (hlive : live s = true) (hp : s.pnl.state = .powering)

include hl in
/-- A poll while no step waits does nothing. -/
theorem pmicReadyPoll_idle (ready : Bool) (hw : s.pnl.waitReady = false) : Nothing (.pmicReadyPoll ready) s :=
  nothing_of_done (by show execPmicReadyPoll ready s = _; simp [execPmicReadyPoll, hw]) hl

include hl hlive hp

section
variable (hw : s.pnl.waitReady = true)
include hw

omit hl in
theorem pmicReadyPoll_eq (ready : Bool) : exec (.pmicReadyPoll ready) s = done (pmicPoll ready s) := by
  show execPmicReadyPoll ready s = _
  simp [execPmicReadyPoll, hlive, hp, hw]

theorem pmicReadyPoll_unready {ready : Bool} (h : ready = false ∨ s.pnl.auxPnl = false) :
    Happens (.pmicReadyPoll ready) s [.gcl] (fun t => t.gcl = (statusRead s).gcl) := by
  refine panel_happens (u := statusRead s) hl ?_ ((statusRead_onlyIn s).mono (by simp)) (by decide) Iff.rfl (by simp)
  rw [pmicReadyPoll_eq hlive hp hw, pmicPoll_unready h]

/-- READY in step 2 begins step 3. -/
theorem pmicReadyPoll_begins (haux : s.pnl.auxPnl = true) (hstep : s.pnl.step = 2) :
    Happens (.pmicReadyPoll true) s [.pnl, .gcl] (fun t =>
      t.pnl = { s.pnl with step := 3, waitReady := true, delay := false, rails := 1 } ∧
      t.gcl = { (statusRead s).gcl with own := s.gcl.own ++ [ownWrite true 0x10 1 (0, 2)] }) := by
  have hpnl := (powerStep_waits (n := 3) (by decide) (statusRead s)).1
  refine panel_happens (u := powerStep 3 (statusRead s)) hl ?_ ?_ (by decide) (by rw [hpnl]; rfl)
    ⟨?_, by simp only [settle_frame]; rfl⟩
  · rw [pmicReadyPoll_eq hlive hp hw, pmicPoll_ready haux, if_pos hstep]
  · exact ((statusRead_onlyIn s).mono (by simp)).trans ((powerStep_onlyIn 3 _).mono (by simp))
  · simp only [settle_frame]
    exact hpnl

/-- READY in a later step starts its 2 ms. -/
theorem pmicReadyPoll_delays (haux : s.pnl.auxPnl = true) (hstep : s.pnl.step ≠ 2) :
    Happens (.pmicReadyPoll true) s [.pnl, .gcl] (fun t =>
      t.pnl = { s.pnl with waitReady := false, delay := true } ∧ t.gcl = (statusRead s).gcl) := by
  refine panel_happens (u := { statusRead s with pnl := { s.pnl with waitReady := false, delay := true } }) hl ?_ ?_
    (by decide) Iff.rfl ⟨by simp, by simp⟩
  · rw [pmicReadyPoll_eq hlive hp hw, pmicPoll_ready haux, if_neg hstep]
  · exact ((statusRead_onlyIn s).mono (by simp)).trans ((withPnl_onlyIn _ _).mono (by simp))

end

section
variable (hd : s.pnl.delay = true)
include hd

omit hl in
theorem powerOnDelayEnd_eq : exec .powerOnDelayEnd s = done (powerStep (s.pnl.step + 1) s) := by
  show execPowerOnDelayEnd s = _
  simp [execPowerOnDelayEnd, hlive, hp, hd]

/-- The end of the 2 ms begins the next step, with its rails. -/
theorem powerOnDelayEnd_begins (hstep : s.pnl.step + 1 < 7) : Happens .powerOnDelayEnd s [.pnl, .gcl] (fun t =>
    t.pnl = { s.pnl with
      step := s.pnl.step + 1, waitReady := true, delay := false, rails := stepRails (s.pnl.step + 1) } ∧
    t.gcl.own.getLast? = some (ownWrite true 0x10 (stepRails (s.pnl.step + 1)) (0, 2))) := by
  obtain ⟨hpnl, hown⟩ := powerStep_waits hstep s
  refine panel_happens hl (powerOnDelayEnd_eq hlive hp hd) ((powerStep_onlyIn _ s).mono (by simp)) (by decide)
    (by rw [hpnl]) ⟨by simpa using hpnl, by simpa using hown⟩

/-- Behind step 6 the drivers are written. -/
theorem powerOnDelayEnd_drivers (hstep : s.pnl.step = 6) : Happens .powerOnDelayEnd s [.pnl, .gcl] (fun t =>
    t.pnl = { s.pnl with step := 7, waitReady := false, delay := false } ∧
    t.gcl = { s.gcl with
      own := s.gcl.own ++ (gateDrivers.map (ownWrite true 0x10 0) ++ colDrivers.map (ownWrite true 0x10 0)) }) := by
  have he := powerOnDelayEnd_eq hlive hp hd
  rw [hstep] at he
  exact panel_happens hl he ((powerStep_onlyIn 7 s).mono (by simp)) (by decide) Iff.rfl
    ⟨by simp only [settle_frame]; rfl, by simp only [settle_frame]; rfl⟩

end

end

/-! ### The time limit (R303) -/

/-- The state in which a wait for READY that timed out sets FAULT. -/
def readyFailed (s : State) : State :=
  failEntry St.panelPower (panelStop St.panelPower { s with pnl := { s.pnl with cause := s.pnl.cause ||| 4 } })

theorem readyFailed_faultStep (s : State) :
    FaultStep { s with pnl := { s.pnl with cause := s.pnl.cause ||| 4 } } (readyFailed s) :=
  (failEntry_faultStep _ _).after (panelStop_faultStep _ _)

/-- A wait for READY that times out is a panel fault, and outside COAST the panel discharges (R303). -/
theorem pmicReadyTimeout_faults {s : State} (hlive : live s = true) (hp : s.pnl.state = .powering)
    (hw : s.pnl.waitReady = true) : Happens .pmicReadyTimeout s faultParts (fun t =>
    FaultSet s t ∧ t.pnl.cause = s.pnl.cause ||| 4 ∧
    (s.cond.bivouac = false → s.cond.coast = false → t.pnl.state = .discharging)) := by
  have he : exec .pmicReadyTimeout s = done (faultBrake (readyFailed s)) := by
    show execPmicReadyTimeout s = _
    simp [execPmicReadyTimeout, hlive, hp, hw, readyTimeout, readyFailed]
  have hv := readyFailed_faultStep s
  have hu := faultBrake_faultStep (readyFailed s)
  refine happens_of_fault he (((withPnl_onlyIn _ s).mono (by decide)).trans hv.books.onlyIn) hv.fault hv.bivouac
    hv.cells hu ⟨?_, fun hbiv hcoast => ?_⟩
  · simpa using hu.cause.trans hv.cause
  · have hdis : (setFault (readyFailed s)).pnl.state = .discharging :=
      setFault_discharges (hv.bivouac.trans hbiv) (hv.coast.trans hcoast) (hv.powering hp)
    simpa using (faultBrake_setFault _).discharging hdis

/-! ### The discharge (Table 12-3) -/

/-- The panel without power, the module's exchanges for it withdrawn. -/
def panelOff (s : State) : State :=
  { s with pnl := { s.pnl with state := .off, dischStep := 8, rails := 0 }
           gcl := { s.gcl with own := s.gcl.own.filter (fun e => !e.power) } }

theorem panelOff_onlyIn (s : State) : OnlyIn [.pnl, .gcl] s (panelOff s) := by
  intro q hq; cases q <;> simp_all [Part.Same, panelOff]

/-- With no PANEL_POWER in flight nothing acts. -/
theorem panelNext_eq {s : State} (h : s.pnl.cmds = []) : panelNext s = s := by
  simp [panelNext, panelActs, h]

/-- With nothing that powers on behind it, and no command, the end of a discharge is the end. -/
theorem panelNext_rest {u : State} (hafter : u.pnl.powerAfter = false) (hcmds : u.pnl.cmds = []) :
    panelNext (when (u.pnl.powerAfter && !anyStop u) startPowerOn
      { u with pnl := { u.pnl with powerAfter := false } }) = u := by
  have hkept : ({ u with pnl := { u.pnl with powerAfter := false } } : State) = u := by rw [← hafter]
  rw [hkept, hafter, Bool.false_and, when, if_neg Bool.false_ne_true, panelNext_eq hcmds]

theorem dischargeRow_last {s : State} (hc : s.pnl.cmds = []) (ha : s.pnl.powerAfter = false) :
    dischargeRow 7 s = raise 57 (panelOff s) :=
  panelNext_rest (u := raise 57 (panelOff s)) (by simp [panelOff, ha]) (by simp [panelOff, hc])

section
variable {s : State} (hl : LightInv s) (hlive : live s = true) (hp : s.pnl.state = .discharging)
include hlive hp

theorem dischargeStep_eq : exec .dischargeStep s =
    done (dischargeRow s.pnl.dischStep { s with pnl := { s.pnl with dischStep := s.pnl.dischStep + 1 } }) := by
  show execDischargeStep s = _
  simp [execDischargeStep, hlive, hp]

include hl

/-- At 1 ms the column drivers are written. -/
theorem dischargeStep_drivers (h : s.pnl.dischStep = 1) : Happens .dischargeStep s [.pnl, .gcl] (fun t =>
    t.pnl = { s.pnl with dischStep := 2 } ∧
    t.gcl = { s.gcl with own := s.gcl.own ++ colDrivers.map (ownWrite true 0x10 2) }) := by
  have he := dischargeStep_eq hlive hp
  rw [h] at he
  refine panel_happens hl he ?_ (by decide) Iff.rfl
    ⟨by simp [dischargeRow, pushPower], by simp [dischargeRow, pushPower]⟩
  exact ((withPnl_onlyIn _ s).mono (by simp)).trans ((withGcl_onlyIn _ _).mono (by simp))

/-- The rows that write the rails (Table 12-3). -/
theorem dischargeStep_rails {v : Nat} (h : (s.pnl.dischStep, v) ∈ [(2, 0x17), (3, 0x13), (4, 0x11), (5, 0x10)]) :
    Happens .dischargeStep s [.pnl, .gcl] (fun t =>
      t.pnl = { s.pnl with dischStep := s.pnl.dischStep + 1, rails := v } ∧
      t.gcl = { s.gcl with own := s.gcl.own ++ [ownWrite true 0x10 v (0, 2)] }) := by
  have hrow (u : State) : dischargeRow s.pnl.dischStep u = setRails v u := by
    simp only [List.mem_cons, List.not_mem_nil, or_false, Prod.mk.injEq] at h
    rcases h with ⟨hn, rfl⟩ | ⟨hn, rfl⟩ | ⟨hn, rfl⟩ | ⟨hn, rfl⟩ <;> rw [hn, dischargeRow]
  have he := dischargeStep_eq hlive hp
  rw [hrow] at he
  refine panel_happens hl he ?_ (by decide) Iff.rfl ⟨by simp [setRails, pushPower], by simp [setRails, pushPower]⟩
  exact ((withPnl_onlyIn _ s).mono (by simp)).trans ((setRails_onlyIn v _).mono (by simp))

/-- The panel's own supply goes off, and the lanes with it. -/
theorem dischargeStep_supply (h : s.pnl.dischStep = 6) : Happens .dischargeStep s [.pnl, .plt] (fun t =>
    t.pnl = { s.pnl with dischStep := 7, auxPnl := false } ∧ t.plt = { s.plt with state := .l3d }) := by
  have he := dischargeStep_eq hlive hp
  rw [h] at he
  refine panel_happens hl he ?_ (by decide) Iff.rfl ⟨by simp [dischargeRow], by simp [dischargeRow]⟩
  exact ((withPnl_onlyIn _ s).mono (by simp)).trans (OnlyIn.trans ((withPlt_onlyIn _ _).mono (by simp))
    ((withPnl_onlyIn _ _).mono (by simp)))

/-- After the last row the panel is OFF; with no PANEL_POWER nothing follows. -/
theorem dischargeStep_ends (h : s.pnl.dischStep = 7) (hc : s.pnl.cmds = []) (ha : s.pnl.powerAfter = false) :
    Happens .dischargeStep s [.pnl, .gcl] (fun t =>
      Raised 57 t ∧ t.pnl = { s.pnl with state := .off, dischStep := 8, rails := 0 } ∧
      t.gcl = { s.gcl with own := s.gcl.own.filter (fun e => !e.power) }) := by
  have hrow : dischargeRow 7 { s with pnl := { s.pnl with dischStep := 8 } } = raise 57 (panelOff s) :=
    dischargeRow_last hc ha
  have he := dischargeStep_eq hlive hp
  rw [h, hrow] at he
  refine panel_happens hl he ?_ (by decide) (by simp [panelOff, hp])
    ⟨(raise_raised 57 _).settle, by simp [panelOff], by simp [panelOff]⟩
  exact ((panelOff_onlyIn s).mono (by simp)).trans ((raise_onlyIn 57 _).mono (by simp))

end

/-! ### Crack loops (R306, R307) -/

/-- The samples of a loop in a row that are not OK, a sample later; 5 marks a run that has tripped. -/
def crackRun (c : CrkClass) (old : Nat) : Nat := if c = .ok then 0 else if 4 < old then old else min 4 (old + 1)

/-- The panel once a sample of a loop is classed. -/
def crackSampled (n ohm : Nat) (sup : Bool) (s : State) : Pnl :=
  { s.pnl with
    crk := s.pnl.crk.set n (crackClass s ohm sup)
    crkRun := s.pnl.crkRun.set n (crackRun (crackClass s ohm sup) (s.pnl.crkRun.getD n 0))
    crkOhm := s.pnl.crkOhm.set n (min ohm 0xFFFF) }

/-- A sample of a loop while no power-on waits for it. -/
theorem crackLoopSample_classes {s : State} (hl : LightInv s) (hlive : live s = true) {n : Nat} (ohm : Nat) (sup : Bool)
    (hn : n < 2) (hw : s.pnl.waitCrack = false) :
    Happens (.crackLoopSample n ohm sup) s [.pnl] (fun t => t.pnl = crackSampled n ohm sup s) := by
  have he : exec (.crackLoopSample n ohm sup) s = done { s with pnl := crackSampled n ohm sup s } := by
    show execCrackLoopSample n ohm sup s = _
    simp [execCrackLoopSample, hlive, hn, crackSample, hw, crackSampled, crackRun]
  exact panel_happens hl he ((withPnl_onlyIn _ s).mono (by simp)) (by decide) Iff.rfl (by simp)

/-- The state in which a loop that trips sets FAULT. -/
def crackMarked (n : Nat) (s : State) : State :=
  { s with pnl := { s.pnl with
      cause := s.pnl.cause ||| BitVec.ofNat 4 (2 ^ n), crkRun := s.pnl.crkRun.set n 5
      crkTripped := s.pnl.crkTripped.set n true } }

/-- The trip reported, before FAULT. -/
def crackReported (n : Nat) (s : State) : State :=
  raise 58 (blackBoxSrc 58 (BitVec.ofNat 32 (crackMarked n s).pnl.cause.toNat) (blank (crackMarked n s)))

theorem crackReported_faultStep (n : Nat) (s : State) : FaultStep (crackMarked n s) (crackReported n s) :=
  (raise_faultStep 58 _).after ((blackBox_faultStep _ _ _ _).after (blank_faultStep _))

theorem crackLoopTrip_faults {s : State} (hlive : live s = true) {n : Nat} (h : crackTrips s n = true) :
    Happens (.crackLoopTrip n) s faultParts (fun t => FaultSet s t ∧ Raised 58 t ∧
      t.pnl.cause = s.pnl.cause ||| BitVec.ofNat 4 (2 ^ n) ∧ t.pnl.crkTripped = s.pnl.crkTripped.set n true) := by
  have he : exec (.crackLoopTrip n) s = done (when (n == 1) flyAbort (faultBrake (crackReported n s))) := by
    show execCrackLoopTrip n s = _
    simp only [execCrackLoopTrip, hlive, h, Bool.and_self, if_true]
    rfl
  have hv := crackReported_faultStep n s
  have hu := (faultBrake_faultStep (crackReported n s)).trans
    (when_faultStep (n == 1) (fun t => .of_plain (flyAbort_bookkeeping t) (by decide)) _)
  have hraised : Raised 58 (faultFlagged (crackReported n s)) := (raise_raised 58 _).kept (.of_intc rfl)
  generalize when (n == 1) flyAbort (faultBrake (crackReported n s)) = u at he hu
  refine happens_of_fault he (((withPnl_onlyIn _ s).mono (by decide)).trans hv.books.onlyIn) hv.fault hv.bivouac
    hv.cells hu ⟨((hraised.kept hu.books.events).kept (interlock_kept u)).settle, ?_, ?_⟩
  · simp only [settle_frame, interlock_frame]
    exact hu.cause.trans hv.cause
  · simp only [settle_frame, interlock_frame]
    exact hu.tripped.trans hv.tripped

/-- Settles O45: each event is its own lemma above. -/
theorem panelSequencesAndCrackLoops : Obligations.PanelSequencesAndCrackLoops := by
  intro s hl hlive
  refine ⟨fun hp => ⟨fun ready hw => pmicReadyPoll_idle hl ready hw,
      fun ready hw h => pmicReadyPoll_unready hl hlive hp hw h,
      pmicReadyPoll_begins hl hlive hp, pmicReadyPoll_delays hl hlive hp, powerOnDelayEnd_begins hl hlive hp,
      powerOnDelayEnd_drivers hl hlive hp, pmicReadyTimeout_faults hlive hp⟩,
    fun hp => ⟨dischargeStep_drivers hl hlive hp, fun v h => dischargeStep_rails hl hlive hp h,
      dischargeStep_supply hl hlive hp, dischargeStep_ends hl hlive hp⟩,
    fun n ohm sup hn hw => crackLoopSample_classes hl hlive ohm sup hn hw, fun n h => crackLoopTrip_faults hlive h⟩

end Sys2Proof.Machine
end

section
/-! SUPPORT. The Flysheet (R314 to R323): what a dropped, a judged and an ended update leave, and each event of an update
from its request to its end. -/
namespace Sys2Proof.Machine

/-! ### What a request reads -/

theorem flySuppressed_congr {s t : State} (h : t.pnl = s.pnl) : flySuppressed t = flySuppressed s := by
  rw [flySuppressed, h, ← flySuppressed]

theorem flyBand_congr {s t : State} (hc : t.cfg = s.cfg) (ht : t.therm = s.therm) : flyBand t = flyBand s := by
  cases s; cases t
  simp only at hc ht
  subst hc ht
  rfl

theorem flyCovered_congr {s t : State} (h : t.pwr = s.pwr) (b : Nat) : flyCovered t b = flyCovered s b := by
  rw [flyCovered, h, ← flyCovered]

/-! ### A dropped update (R319, R320) -/

@[simp] theorem flySkip_hif (s : State) : (flySkip s).hif = s.hif := (reported_frame .flySkip 62 _ _ _ s).2.1

@[simp] theorem flySkip_fly (s : State) : (flySkip s).fly = s.fly := by simp [flySkip]

theorem flySkip_counted (s : State) : Counted .flySkip 1 s (flySkip s) := reported_counted .flySkip 62 _ _ _ s

theorem flySkip_raised (s : State) : Raised 62 (flySkip s) := reported_raised .flySkip 62 _ _ _ s

@[simp] theorem flyDrop_fly (st : Nat) (s : State) : (flyDrop st s).fly = flyDropped s := by
  rw [flyDrop_eq, (finishAll_bookkeeping _ rfl _).onlyIn .fly (by decide), flySkip_fly]

theorem flyDrop_counted (st : Nat) (s : State) : Counted .flySkip 1 s (flyDrop st s) :=
  (flySkip_counted { s with fly := flyDropped s }).of_ctrs rfl (by simp [flyDrop_eq])

theorem flyDrop_raised (st : Nat) (s : State) : Raised 62 (flyDrop st s) :=
  (flySkip_raised _).kept (finishAll_bookkeeping _ rfl _).events

/-! ### A request judged (R318 to R320) -/

/-- An update is requested, none is under way, and no re-drive waits. -/
structure FlyAsked (s : State) : Prop where
  requested : s.fly.requested = true
  noneRuns : s.fly.cur = none
  rests : s.fly.state = .idle ∨ s.fly.state = .waiting
  free : flySuppressed s = false

theorem FlyAsked.guard {s : State} (h : FlyAsked s) :
    (s.fly.requested && s.fly.cur.isNone && (s.fly.state == .idle || s.fly.state == .waiting)) = true := by
  rcases h.rests with ho | ho <;> simp [h.requested, h.noneRuns, ho]

/-- The Flysheet with the band of an update latched, in a state. -/
def flyBanded (st : FlyState) (s : State) : Fly := { s.fly with reqBand := flyBand s, state := st }

theorem flyConsider_cold {s : State} (h : FlyAsked s) (hb : flyBand s = 7) :
    flyConsider s = flyDrop St.flyCold { s with fly := { s.fly with reqBand := 7, band := 7 } } := by
  rw [flyConsider, if_pos h.guard, if_neg (by simp [h.free])]
  simp only [hb, if_true]

theorem flyConsider_covered {s : State} (h : FlyAsked s) (hb : flyBand s ≠ 7) (hc : flyCovered s (flyBand s) = true) :
    flyConsider s = { s with fly := flyBanded .idle s } := by
  rw [flyConsider, if_pos h.guard, if_neg (by simp [h.free])]
  simp only [hb, if_false, hc, if_true]
  rfl

theorem flyConsider_short {s : State} (h : FlyAsked s) (hb : flyBand s ≠ 7) (hc : flyCovered s (flyBand s) = false)
    (hcoast : s.cond.coast = false) : flyConsider s = { s with fly := flyBanded .waiting s } := by
  rw [flyConsider, if_pos h.guard, if_neg (by simp [h.free])]
  simp only [hb, if_false, hc, hcoast, Bool.false_eq_true]
  rfl

/-- What no judgement of a request touches: the update under way, the frames sent, the journal and the image shown. -/
structure FlyShown (s t : State) : Prop where
  cur : t.fly.cur = s.fly.cur
  sent : t.fly.sent = s.fly.sent
  journal : t.fly.journal = s.fly.journal
  lo : t.fly.imageLo = s.fly.imageLo
  hi : t.fly.imageHi = s.fly.imageHi
  ctr : ∀ c, c ≠ .flySkip → ctrVal t c = ctrVal s c

theorem FlyShown.trans {s t u : State} (h : FlyShown s t) (k : FlyShown t u) : FlyShown s u :=
  ⟨k.cur.trans h.cur, k.sent.trans h.sent, k.journal.trans h.journal, k.lo.trans h.lo, k.hi.trans h.hi,
    fun c hc => (k.ctr c hc).trans (h.ctr c hc)⟩

theorem flyDrop_shown (st : Nat) (s : State) : FlyShown s (flyDrop st s) := by
  refine ⟨?_, ?_, ?_, ?_, ?_, (flyDrop_counted st s).2⟩
  all_goals rw [flyDrop_fly]; rfl

theorem flyConsider_shown (s : State) : FlyShown s (flyConsider s) := by
  simp only [flyConsider]
  repeat' split
  · exact flyDrop_shown _ s
  · refine FlyShown.trans ?_ (flyDrop_shown _ _)
    exact ⟨rfl, rfl, rfl, rfl, rfl, fun _ _ => rfl⟩
  · exact ⟨rfl, rfl, rfl, rfl, rfl, fun _ _ => rfl⟩
  · refine FlyShown.trans ?_ (flyDrop_shown _ _)
    exact ⟨rfl, rfl, rfl, rfl, rfl, fun _ _ => rfl⟩
  · exact ⟨rfl, rfl, rfl, rfl, rfl, fun _ _ => rfl⟩
  · exact ⟨rfl, rfl, rfl, rfl, rfl, fun _ _ => rfl⟩

/-- The Flysheet with no update under way, what was merged requested. -/
def flyRested (s : State) : Fly := { s.fly with cur := none, state := .idle, requested := s.fly.pend, pend := false }

theorem flyEnd_shown (st : Nat) (u : FlyUpdate) (s : State) : FlyShown { s with fly := flyRested s } (flyEnd st u s) := by
  obtain ⟨-, -, hctrs, -⟩ :=
    finishAll_frame u.tags { status := st, result := [BitVec.ofNat 8 u.band] } { s with fly := flyRested s }
  obtain ⟨kcur, ksent, kj, klo, khi, kctr⟩ := flyConsider_shown
    (finishAll u.tags { status := st, result := [BitVec.ofNat 8 u.band] } { s with fly := flyRested s })
  simp only [finishAll_frame] at kcur ksent kj klo khi
  exact ⟨kcur, ksent, kj, klo, khi, fun c hc => (kctr c hc).trans (ctrVal_congr hctrs c)⟩

@[simp] theorem flyEnd_cur (st : Nat) (u : FlyUpdate) (s : State) : (flyEnd st u s).fly.cur = none :=
  (flyEnd_shown st u s).cur

@[simp] theorem flyEnd_sent (st : Nat) (u : FlyUpdate) (s : State) : (flyEnd st u s).fly.sent = s.fly.sent :=
  (flyEnd_shown st u s).sent

theorem flyEnd_raised {n st : Nat} {u : FlyUpdate} {s : State} (h : Raised n s) : Raised n (flyEnd st u s) :=
  h.kept (flyEnd_bookkeeping st u s).events

/-- The end of an update may count a request dropped, and no other event. -/
theorem flyEnd_advanced {c : Ctr} {n st : Nat} {u : FlyUpdate} {s t : State} (hc : c ≠ .flySkip)
    (h : Advanced c n s t) : Advanced c n s (flyEnd st u t) := by
  rw [Advanced, (flyEnd_shown st u t).ctr c hc]
  exact h

/-! ### FLYSHEET_UPDATE (R319) -/

/-- The Flysheet with the tag and the cause of a FLYSHEET_UPDATE among those that wait. -/
def flyTagged (p : Pkt) (s : State) : Fly :=
  { s.fly with tags := s.fly.tags ++ [ptag p], causes := .host :: s.fly.causes }

/-- The state in which a FLYSHEET_UPDATE that nothing holds back is judged. -/
def flyAsking (p : Pkt) (s : State) : State :=
  { begun s 0x0702 p with fly := { flyTagged p s with requested := true } }

/-- That state with the band COLD latched. -/
def flyFrozen (p : Pkt) (s : State) : State :=
  { flyAsking p s with fly := { (flyAsking p s).fly with reqBand := 7, band := 7 } }

section
variable {s : State} {p : Pkt} (hl : LightInv s) (ha : Accepts s 0x0702 p)

/-- An accepted FLYSHEET_UPDATE starts with all that a request reads as it was. -/
theorem begun_fly (s : State) (p : Pkt) : (begun s 0x0702 p).fly = s.fly ∧
    flySuppressed (begun s 0x0702 p) = flySuppressed s ∧ flyBand (begun s 0x0702 p) = flyBand s ∧
    (∀ b, flyCovered (begun s 0x0702 p) b = flyCovered s b) ∧ (begun s 0x0702 p).cond = s.cond := by
  have hb := begun_onlyIn (s := s) (op := 0x0702) (p := p) rfl
  exact ⟨hb .fly (by decide), flySuppressed_congr (hb .pnl (by decide)),
    flyBand_congr (hb .cfg (by decide)) (hb .therm (by decide)), flyCovered_congr (hb .pwr (by decide)),
    hb .cond (by decide)⟩

include hl ha

/-- A command that is dropped ends at once: `w` is the state before that is counted and reported, the Flysheet's own
state in it changed or not. -/
theorem flysheetUpdate_skipped {w : State} {e : Ending} {ps : List Part} (hps : ∀ q ∈ ps, q = .fly) (hi : e.image = [])
    (hst : startFlysheetUpdate (ptag p) p (begun s 0x0702 p) = finish (ptag p) e (flySkip w))
    (hhif : w.hif = (begun s 0x0702 p).hif) (hw : OnlyIn (.books :: .events :: ps) s w) :
    EndsWith (.flysheetUpdate p) s 0x0702 p e.status e.result (ps ++ [.ctrs, .bb]) (fun t =>
      Counted .flySkip 1 s t ∧ Raised 62 t ∧ t.fly = w.fly) := by
  have hskip := flySkip_bookkeeping w
  have hout (q : Part) (hq : q ∉ [Part.fly, .ctrs, .bb]) : q ∉ ps ++ [.ctrs, .bb] := by
    simp only [List.mem_append, List.mem_cons, List.not_mem_nil, or_false, not_or] at hq ⊢
    exact ⟨fun hmem => hq.1 (hps q hmem), hq.2⟩
  have hkept (q : Part) (hq : q ∉ [Part.books, .events, .fly]) : q ∉ Part.books :: .events :: ps := by
    simp only [List.mem_cons, List.not_mem_nil, or_false, not_or] at hq ⊢
    exact ⟨hq.1, hq.2.1, fun hmem => hq.2.2 (hps q hmem)⟩
  have hpnl : w.pnl = s.pnl := hw .pnl (hkept _ (by decide))
  refine ends_at_once (v := flySkip w) rfl hl ha hst ((flySkip_hif w).trans hhif) ?_ (.inl hi)
    ((hw.mono (by simp +contextual)).trans (hskip.onlyIn.mono (by simp))) (hout _ (by decide)) (hout _ (by decide))
    (hout _ (by decide)) (hout _ (by decide)) (hout _ (by decide)) ?_
    ⟨Counted.settle ?_, ((flySkip_raised w).kept (finish_kept _ _ _)).settle, by simp⟩
  · exact Part.Same.trans (hw .blt (hkept _ (by decide))) (hskip.onlyIn .blt (by decide))
  · rw [hskip.onlyIn .pnl (by decide), hpnl]
  · exact (flySkip_counted w).of_ctrs (hw .ctrs (hkept _ (by decide))) (by simp)

/-- While a trip of CRK1 is not cleared the command is refused and counted. -/
theorem flysheetUpdate_suppressed (h : flySuppressed s = true) :
    EndsWith (.flysheetUpdate p) s 0x0702 p St.faultActive [BitVec.ofNat 8 s.fly.band] [.ctrs, .bb]
      (fun t => Counted .flySkip 1 s t ∧ Raised 62 t) := by
  obtain ⟨hfly, hsup, -⟩ := begun_fly s p
  have hst : startFlysheetUpdate (ptag p) p (begun s 0x0702 p) =
      finish (ptag p) { status := St.faultActive, result := [BitVec.ofNat 8 s.fly.band] }
        (flySkip (begun s 0x0702 p)) := by
    rw [startFlysheetUpdate, flyRequest, if_pos (hsup.trans h), hfly]
  refine (flysheetUpdate_skipped hl ha (ps := []) (by simp) rfl hst rfl (begun_onlyIn rfl)).imp ?_
  rintro t ⟨hcount, hraised, -⟩
  exact ⟨hcount, hraised⟩

omit hl ha in
/-- What the command leaves to be merged or judged. -/
theorem startFlysheetUpdate_eq (h : flySuppressed s = false) :
    startFlysheetUpdate (ptag p) p (begun s 0x0702 p) =
      if s.fly.cur.isSome || s.fly.state == .redriveWaiting then
        { begun s 0x0702 p with fly := { flyTagged p s with pend := true } }
      else flyConsider (flyAsking p s) := by
  obtain ⟨hfly, hsup, -, -, -⟩ := begun_fly s p
  rw [startFlysheetUpdate, flyRequest, if_neg (by simp [hsup, h])]
  simp only [hfly]
  rfl

/-- Under an update, or while a re-drive waits, the command is merged. -/
theorem flysheetUpdate_merges (h : flySuppressed s = false)
    (hm : s.fly.cur.isSome = true ∨ s.fly.state = .redriveWaiting) :
    GoesOn (.flysheetUpdate p) s 0x0702 p [.fly] (fun t => t.fly = { flyTagged p s with pend := true }) := by
  have hst := startFlysheetUpdate_eq (p := p) h
  rw [if_pos (by rcases hm with hm | hm <;> simp [hm])] at hst
  exact goes_on rfl hl ha (by decide) hst rfl
    (((begun_onlyIn rfl).mono (by simp)).trans ((withFly_onlyIn _ _).mono (by simp))) (by simp)

section
variable (hsup : flySuppressed s = false) (hcur : s.fly.cur = none)
  (hopen : s.fly.state = .idle ∨ s.fly.state = .waiting)
include hsup hcur hopen

omit hl ha in
theorem flyAsking_asked : FlyAsked (flyAsking p s) :=
  have ⟨_, hsupKept, _⟩ := begun_fly s p
  ⟨rfl, hcur, hopen, hsupKept.trans hsup⟩

omit hl ha in
theorem startFlysheetUpdate_asks : startFlysheetUpdate (ptag p) p (begun s 0x0702 p) = flyConsider (flyAsking p s) := by
  rw [startFlysheetUpdate_eq hsup, if_neg]
  rcases hopen with ho | ho <;> simp [hcur, ho]

/-- When COLD the command is dropped and counted (R318). -/
theorem flysheetUpdate_cold (hband : flyBand s = 7) (htags : s.fly.tags = []) :
    EndsWith (.flysheetUpdate p) s 0x0702 p St.flyCold [7] [.fly, .ctrs, .bb] (fun t =>
      Counted .flySkip 1 s t ∧ Raised 62 t ∧ t.fly.state = .idle ∧ t.fly.requested = false ∧ t.fly.tags = []) := by
  generalize hw : ({ begun s 0x0702 p with fly := flyDropped (flyFrozen p s) } : State) = w
  have hst : startFlysheetUpdate (ptag p) p (begun s 0x0702 p) =
      finish (ptag p) { status := St.flyCold, result := [7] } (flySkip w) := by
    obtain ⟨-, -, hbandKept, -⟩ := begun_fly s p
    have hcold : flyBand (flyAsking p s) = flyBand s := hbandKept
    have htag : (flyFrozen p s).fly.tags = [ptag p] := by simp [flyFrozen, flyAsking, flyTagged, htags]
    rw [startFlysheetUpdate_asks hsup hcur hopen,
      flyConsider_cold (flyAsking_asked hsup hcur hopen) (hcold.trans hband), ← flyFrozen, flyDrop_eq, htag, ← hw]
    rfl
  subst hw
  refine (flysheetUpdate_skipped hl ha (ps := [.fly]) (by simp) rfl hst rfl
    (((begun_onlyIn rfl).mono (by simp)).trans ((withFly_onlyIn _ _).mono (by simp)))).imp ?_
  rintro t ⟨hcount, hraised, hfly⟩
  rw [hfly]
  refine ⟨hcount, hraised, ?_, rfl, rfl⟩
  rcases hopen with ho | ho <;> simp [flyDropped, flyFrozen, flyAsking, flyTagged, ho]

/-- Otherwise it waits to start, or for energy (R320). -/
theorem flysheetUpdate_waits (hband : flyBand s ≠ 7) : GoesOn (.flysheetUpdate p) s 0x0702 p [.fly] (fun t =>
    t.fly = { flyTagged p s with
      requested := true, reqBand := flyBand s, state := if flyCovered s (flyBand s) then .idle else .waiting }) := by
  obtain ⟨-, -, hbandKept, hcovKept, hcond⟩ := begun_fly s p
  have hasked := flyAsking_asked (p := p) hsup hcur hopen
  have hcoast : (flyAsking p s).cond.coast = false := by
    obtain ⟨hpath, -⟩ := ha
    simp only [pathOpen, Bool.and_eq_true, Bool.not_eq_true'] at hpath
    obtain ⟨⟨hcoast, -⟩, -⟩ := hpath
    exact (congrArg (·.coast) hcond).trans hcoast
  have hst : startFlysheetUpdate (ptag p) p (begun s 0x0702 p) = { begun s 0x0702 p with fly := { flyTagged p s with
      requested := true, reqBand := flyBand s, state := if flyCovered s (flyBand s) then .idle else .waiting } } := by
    have hb : flyBand (flyAsking p s) = flyBand s := hbandKept
    have hc : flyCovered (flyAsking p s) (flyBand s) = flyCovered s (flyBand s) := hcovKept _
    rw [startFlysheetUpdate_asks hsup hcur hopen]
    cases hcov : flyCovered s (flyBand s) with
    | true =>
      rw [flyConsider_covered hasked (by rwa [hb]) (by rw [hb, hc, hcov]), flyBanded, hb]
      rfl
    | false =>
      rw [flyConsider_short hasked (by rwa [hb]) (by rw [hb, hc, hcov]) hcoast, flyBanded, hb]
      rfl
  exact goes_on rfl hl ha (by decide) hst rfl
    (((begun_onlyIn rfl).mono (by simp)).trans ((withFly_onlyIn _ _).mono (by simp))) (by simp)

end
end

/-! ### The start (R314, R322) -/

/-- The update that starts. -/
def flyStarted (s : State) : FlyUpdate :=
  { image := flyImage s, band := flyBand s, vh := par s 0x4601, vm := par s 0x4602, tags := s.fly.tags }

/-- The journal entry of its start. -/
def flyEntry (s : State) : JEntry :=
  { cause := flyCause s.fly.causes, seq := journalSeq s, image := flyImage s, band := flyBand s }

theorem flyMayStart_reads {s : State} (h : flyMayStart s = true) :
    s.fly.requested = true ∧ s.fly.cur = none ∧ s.fly.state = .idle := by
  simp only [flyMayStart, Bool.and_eq_true, beq_iff_eq, Option.isNone_iff_eq_none] at h
  obtain ⟨⟨⟨⟨hreq, hcur⟩, hidle⟩, -⟩, -⟩ := h
  exact ⟨hreq, hcur, hidle⟩

theorem flyMayStart_asked {s : State} (h : flyMayStart s = true) (hsup : flySuppressed s = false) : FlyAsked s :=
  have ⟨hreq, hcur, hidle⟩ := flyMayStart_reads h
  ⟨hreq, hcur, .inl hidle, hsup⟩

/-- The Flysheet once an update has started. -/
def flyBegun (s : State) : Fly :=
  { s.fly with
    journal := if s.fly.slot % 2048 = 0 then [flyEntry s] else flyEntry s :: s.fly.journal
    slot := (s.fly.slot + 1) % 4096
    state := .loading, reqBand := flyBand s, band := flyBand s, requested := false, tags := [], causes := []
    cur := some (flyStarted s) }

theorem flyBegun_head (s : State) : (flyBegun s).journal.head? = some (flyEntry s) := by
  simp only [flyBegun]; split <;> rfl

section
variable {s : State} (hl : LightInv s) (hmay : flyMayStart s = true) (hsup : flySuppressed s = false)
  (hband : flyBand s ≠ 7)
include hl hmay hsup hband

/-- An update that the estimate covers starts. -/
theorem flyUpdateStart_starts (hcov : flyCovered s (flyBand s) = true) :
    Happens .flyUpdateStart s [.fly] (fun t => t.fly = flyBegun s) := by
  obtain ⟨-, -, hidle⟩ := flyMayStart_reads hmay
  have hmay' : flyMayStart { s with fly := flyBanded .idle s } = true := by
    rw [← hmay]; simp only [flyMayStart, flyBanded, hidle]
  have he : exec .flyUpdateStart s = done { s with fly := flyBegun s } := by
    show execFlyUpdateStart s = _
    rw [execFlyUpdateStart, if_pos hmay, flyConsider_covered (flyMayStart_asked hmay hsup) hband hcov]
    simp only [hmay', if_true]
    rfl
  exact happens_of_done he hl ((withFly_onlyIn _ s).mono (by simp)) (by decide) (by simp)

/-- One that it does not cover waits for energy, outside COAST. -/
theorem flyUpdateStart_waits (hcov : flyCovered s (flyBand s) = false) (hcoast : s.cond.coast = false) :
    Happens .flyUpdateStart s [.fly] (fun t => t.fly = flyBanded .waiting s) := by
  have hmay' : flyMayStart { s with fly := flyBanded .waiting s } = false := by simp [flyMayStart, flyBanded]
  have he : exec .flyUpdateStart s = done { s with fly := flyBanded .waiting s } := by
    show execFlyUpdateStart s = _
    rw [execFlyUpdateStart, if_pos hmay, flyConsider_short (flyMayStart_asked hmay hsup) hband hcov hcoast]
    simp only [hmay', Bool.false_eq_true, if_false]
  exact happens_of_done he hl ((withFly_onlyIn _ s).mono (by simp)) (by decide) (by simp)

end

/-! ### Frames and their answers (R315, R316) -/

theorem Happens.mono {c : Instr} {s : State} {ps qs : List Part} {P : State → Prop} (h : Happens c s ps P)
    (hpq : ∀ q ∈ ps, q ∈ qs) : Happens c s qs P := by
  obtain ⟨t, he, ho, hp⟩ := h
  exact ⟨t, he, ho.mono fun q hq => (List.mem_cons.mp hq).elim (fun h => by simp [h])
    (fun h => List.mem_cons_of_mem _ (hpq q h)), hp⟩

/-- An event that ends an update, whatever comes of the requests merged behind it. -/
theorem happens_of_flyEnd {c : Instr} {s v : State} {u : FlyUpdate} {st : Nat} {P : State → Prop} (hl : LightInv s)
    (he : exec c s = done (flyEnd st u v)) (hv : OnlyIn (.events :: flyParts) s v)
    (hP : P (settle (flyEnd st u v))) : Happens c s flyParts P :=
  happens_of_done he hl (hv.trans (flyEnd_bookkeeping st u v).onlyIn) (by decide) hP

/-- A frame that is not answered well is sent again, and after three repeats the update is abandoned. -/
theorem flyRetried_of_retry {c : Instr} {s : State} {u : FlyUpdate} {op arg : Nat} (hl : LightInv s)
    (he : exec c s = done (flyRetry u (flySend op arg s))) : FlyRetried c s u op arg := by
  refine ⟨fun htries => ?_, fun htries => ?_⟩
  · rw [flyRetry, if_neg (by omega)] at he
    exact happens_of_done he hl ((withFly_onlyIn _ s).mono (by simp)) (by decide) (by simp [flySend])
  · rw [flyRetry, if_pos htries] at he
    generalize hv : blackBoxSrc 62 (BitVec.ofNat 32 (flySend op arg s).pnl.cause.toNat) (raise 62 (flySend op arg s)) = v
    have hvs : Bookkeeping [.fly, .bb] s v := hv ▸
      ((withFly_bookkeeping _ s).trans (raise_bookkeeping 62 _)).trans (blackBox_bookkeeping _ _ _ _)
    have hraised : Raised 62 v := hv ▸ (raise_raised 62 _).kept (.of_intc rfl)
    have hsent : v.fly.sent = flyBytes op arg :: s.fly.sent := by simp [← hv, flySend]
    have he' : exec c s = done (flyEnd St.flyLink u v) := by rw [he, flyFail, hv]
    refine Happens.mono (ps := flyParts) ?_ (by decide)
    exact happens_of_flyEnd hl he' (hvs.onlyIn.mono (by decide))
      ⟨by simp, (flyEnd_raised hraised).settle, by simp [hsent]⟩

/-- The newest entry of a journal, its DONE programmed. -/
def journalDone : List JEntry → List JEntry
  | e :: l => { e with done := true } :: l
  | [] => []

theorem journalDone_length (l : List JEntry) : (journalDone l).length = l.length := by cases l <;> rfl

theorem journalDone_head {l : List JEntry} {e : JEntry} (h : (journalDone l).head? = some e) : e.done = true := by
  cases l with
  | nil => simp [journalDone] at h
  | cons x l =>
    obtain rfl : { x with done := true } = e := by simpa [journalDone] using h
    rfl

/-- The Flysheet shows the image of an update, its entry done. -/
def flyProgrammed (u : FlyUpdate) (s : State) : State :=
  { s with fly := { s.fly with journal := journalDone s.fly.journal, imageLo := u.image.setWidth 32
                               imageHi := BitVec.ofNat 32 (u.image.toNat / 2 ^ 32) } }

theorem flyDone_eq (u : FlyUpdate) (s : State) :
    flyDone u s = flyEnd St.ok u (raise 61 (count .flyUpdate (flyProgrammed u s))) := rfl

/-- The upper half of an image, as FLY_IMAGE_HI holds it. -/
theorem imageHi_eq (x : Dword) : BitVec.ofNat 32 (x.toNat / 2 ^ 32) = (x >>> 32).setWidth 32 := by
  apply BitVec.eq_of_toNat_eq
  simp [Nat.shiftRight_eq_div_pow]

section
variable {s : State} (hl : LightInv s) {u : FlyUpdate} (hcur : s.fly.cur = some u) {status check : Byte}
include hcur

theorem flyFrameExchange_eq : exec (.flyFrameExchange status check) s = done (
    if u.aborting then flyAbortSent status check u s
    else if s.fly.state = .loading then flyLoad status check u s else s) := by
  show execFlyFrameExchange status check s = _
  rw [execFlyFrameExchange, hcur]

theorem flyStatusPoll_eq : exec (.flyStatusPoll status check) s = done (
    if s.fly.state = .running ∧ ¬ u.aborting then
      let s1 := flySend 0x40 0 s
      if flyAck status check then
        (if status.getLsbD 3 then flyDone u s1 else { s1 with fly := { s1.fly with cur := some { u with tries := 0 } } })
      else flyRetry u s1
    else s) := by
  show execFlyStatusPoll status check s = _
  rw [execFlyStatusPoll, hcur]

include hl

section
variable (hab : u.aborting = true)
include hab

/-- The ABORT of a CRK1 trip, answered well, ends the update (R319). -/
theorem flyFrameExchange_aborts (hack : flyAck status check = true) :
    Happens (.flyFrameExchange status check) s [.fly, .bb, .books, .blt, .ctrs] (fun t =>
      t.fly.cur = none ∧ Raised 62 t ∧ t.fly.sent = flyBytes 0x50 0 :: s.fly.sent) := by
  have he := flyFrameExchange_eq hcur (status := status) (check := check)
  rw [if_pos hab, flyAbortSent, if_pos hack] at he
  have hv : Bookkeeping [.fly] s (raise 62 (flySend 0x50 0 s)) := (withFly_bookkeeping _ s).trans (raise_bookkeeping 62 _)
  refine Happens.mono (ps := flyParts) ?_ (by decide)
  exact happens_of_flyEnd hl he (hv.onlyIn.mono (by decide))
    ⟨by simp, (flyEnd_raised (raise_raised 62 _)).settle, by simp [flySend]⟩

theorem flyFrameExchange_abort_retried (hack : flyAck status check = false) :
    FlyRetried (.flyFrameExchange status check) s u 0x50 0 := by
  have he := flyFrameExchange_eq hcur (status := status) (check := check)
  rw [if_pos hab, flyAbortSent, if_neg (by simp [hack])] at he
  exact flyRetried_of_retry hl he

theorem flyStatusPoll_aborting : Nothing (.flyStatusPoll status check) s := by
  have he := flyStatusPoll_eq hcur (status := status) (check := check)
  rw [if_neg (by simp [hab])] at he
  exact nothing_of_done he hl

end

section
variable (hab : u.aborting = false) (hload : s.fly.state = .loading)
include hab hload

omit hl in
theorem flyFrameExchange_loads : exec (.flyFrameExchange status check) s = done (flyLoad status check u s) := by
  rw [flyFrameExchange_eq hcur, if_neg (by simp [hab]), if_pos hload]

/-- A frame answered well is followed by the next, the last by the run. -/
theorem flyFrameExchange_next (hack : flyAck status check = true) :
    Happens (.flyFrameExchange status check) s [.fly] (fun t => t.fly = { s.fly with
      sent := flyBytes (flyFrame u u.sent).1 (flyFrame u u.sent).2 :: s.fly.sent
      cur := some { u with sent := u.sent + 1, tries := 0 }
      state := if u.sent + 1 = flyFrames u then .running else .loading }) := by
  have he := flyFrameExchange_loads hcur hab hload (status := status) (check := check)
  simp only [flyLoad, hack, if_true] at he
  exact happens_of_done he hl ((withFly_onlyIn _ s).mono (by simp)) (by decide) (by simp [flySend])

theorem flyFrameExchange_retried (hack : flyAck status check = false) :
    FlyRetried (.flyFrameExchange status check) s u (flyFrame u u.sent).1 (flyFrame u u.sent).2 := by
  have he := flyFrameExchange_loads hcur hab hload (status := status) (check := check)
  simp only [flyLoad, hack, Bool.false_eq_true, if_false] at he
  exact flyRetried_of_retry hl he

end

section
variable (hab : u.aborting = false) (hrun : s.fly.state = .running)
include hab hrun

omit hl in
theorem flyStatusPoll_runs : exec (.flyStatusPoll status check) s = done (
    if flyAck status check then
      (if status.getLsbD 3 then flyDone u (flySend 0x40 0 s)
        else { flySend 0x40 0 s with fly := { (flySend 0x40 0 s).fly with cur := some { u with tries := 0 } } })
    else flyRetry u (flySend 0x40 0 s)) := by
  rw [flyStatusPoll_eq hcur, if_pos ⟨hrun, by simp [hab]⟩]

/-- While the waveform runs a poll sends its frame, and no more. -/
theorem flyStatusPoll_goes_on (hack : flyAck status check = true) (hend : status.getLsbD 3 = false) :
    Happens (.flyStatusPoll status check) s [.fly] (fun t => t.fly = { s.fly with
      sent := flyBytes 0x40 0 :: s.fly.sent, cur := some { u with tries := 0 } }) := by
  have he := flyStatusPoll_runs hcur hab hrun (status := status) (check := check)
  rw [if_pos hack, if_neg (hend ▸ Bool.false_ne_true)] at he
  exact happens_of_done he hl ((withFly_onlyIn _ s).mono (by simp)) (by decide) (by simp [flySend])

theorem flyStatusPoll_retried (hack : flyAck status check = false) :
    FlyRetried (.flyStatusPoll status check) s u 0x40 0 := by
  have he := flyStatusPoll_runs hcur hab hrun (status := status) (check := check)
  rw [if_neg (by simp [hack])] at he
  exact flyRetried_of_retry hl he

/-- The end of the waveform programs DONE and shows the image (R322). -/
theorem flyStatusPoll_ends (hack : flyAck status check = true) (hend : status.getLsbD 3 = true) :
    Happens (.flyStatusPoll status check) s [.fly, .ctrs, .bb, .books, .blt] (fun t =>
      Advanced .flyUpdate 1 s t ∧ Raised 61 t ∧ t.fly.cur = none ∧ t.fly.imageLo = u.image.setWidth 32 ∧
      t.fly.imageHi = (u.image >>> 32).setWidth 32 ∧ t.fly.journal.length = s.fly.journal.length ∧
      (∀ e, t.fly.journal.head? = some e → e.done = true)) := by
  have he := flyStatusPoll_runs hcur hab hrun (status := status) (check := check)
  rw [if_pos hack, if_pos hend] at he
  generalize hw : flyProgrammed u (flySend 0x40 0 s) = w
  have hws : Bookkeeping [.fly] s w := hw ▸ withFly_bookkeeping _ s
  have hv : Bookkeeping [.fly, .ctrs] s (raise 61 (count .flyUpdate w)) :=
    (hws.trans (count_bookkeeping .flyUpdate w)).trans (raise_bookkeeping 61 _)
  have hcount : Advanced .flyUpdate 1 s (raise 61 (count .flyUpdate w)) :=
    Advanced.of_ctrs (count_counted .flyUpdate w).1 (hws.ctrs_eq (by decide)) (by simp)
  have he' : exec (.flyStatusPoll status check) s = done (flyEnd St.ok u (raise 61 (count .flyUpdate w))) := by
    rw [he, flyDone_eq, hw]
  obtain ⟨-, -, hjournal, hlo, hhi, -⟩ := flyEnd_shown St.ok u (raise 61 (count .flyUpdate w))
  have hfly : (raise 61 (count .flyUpdate w)).fly = (flyProgrammed u (flySend 0x40 0 s)).fly := by simp [hw]
  simp only [flyRested, hfly, flyProgrammed, flySend] at hjournal hlo hhi
  refine happens_of_flyEnd hl he' (hv.onlyIn.mono (by decide)) ⟨?_, (flyEnd_raised (raise_raised 61 _)).settle,
    by simp, by simp [hlo], by simp only [settle_frame, hhi, imageHi_eq], by simp [hjournal, journalDone_length], ?_⟩
  · exact (flyEnd_advanced (st := St.ok) (u := u) (by decide) hcount).of_ctrs rfl (by simp)
  · simp only [settle_frame, hjournal]
    exact fun e h => journalDone_head h

end
end

/-! ### An update that waited too long (R320) -/

section
variable {s : State} (hl : LightInv s) (hwait : s.fly.state = .waiting) (hreq : s.fly.requested = true)
include hwait hreq

theorem flyEnergyTimeout_eq : exec .flyEnergyTimeout s = done (flyDrop St.flyEnergy s) := by
  show execFlyEnergyTimeout s = _
  rw [execFlyEnergyTimeout, if_pos ⟨hwait, hreq⟩]

include hl

theorem flyEnergyTimeout_drops (htags : s.fly.tags = []) :
    Happens .flyEnergyTimeout s [.fly, .ctrs, .bb] (fun t => Counted .flySkip 1 s t ∧ Raised 62 t ∧
      t.fly.state = .idle ∧ t.fly.requested = false) := by
  have he := flyEnergyTimeout_eq hwait hreq
  have hdrop : Bookkeeping [.fly, .ctrs, .bb] s (flyDrop St.flyEnergy s) := by
    rw [flyDrop_eq, htags]
    exact (withFly_bookkeeping _ s).trans (flySkip_bookkeeping _)
  refine happens_of_done he hl hdrop.onlyIn (by decide)
    ⟨(flyDrop_counted _ s).settle, (flyDrop_raised _ s).settle, ?_⟩
  simp [flyDropped, hwait]

/-- With a FLYSHEET_UPDATE among its requests the command has its reply. -/
theorem flyEnergyTimeout_answers {f : Flight} (htags : s.fly.tags = [ptag f.p]) (hf : Flying s (ptag f.p) f) :
    Happens .flyEnergyTimeout s [.fly, .ctrs, .bb, .books, .blt] (fun t => Counted .flySkip 1 s t ∧ Raised 62 t ∧
      Finished s t f St.flyEnergy ∧ t.fly.state = .idle ∧ t.fly.requested = false ∧ t.fly.tags = []) := by
  have he := flyEnergyTimeout_eq hwait hreq
  have hfin : Finished s (flyDrop St.flyEnergy s) f St.flyEnergy := by
    rw [flyDrop_eq, htags]
    exact finish_finished_of_hif (u := flySkip { s with fly := flyDropped s }) hf (flySkip_hif _)
      { status := St.flyEnergy, result := [BitVec.ofNat 8 s.fly.reqBand] }
  refine happens_of_done he hl (flyDrop_bookkeeping _ s).onlyIn (by decide)
    ⟨(flyDrop_counted _ s).settle, (flyDrop_raised _ s).settle, hfin.settle, ?_⟩
  simp [flyDropped, hwait]

end

/-! ### The re-drive (R323) -/

section
variable {s : State} (hl : LightInv s) (hwait : s.fly.state = .redriveWaiting) (hlive : live s = true)
include hwait hlive

theorem flyRedriveStart_eq : exec .flyRedriveStart s = done (flyRedrive s) := by
  have hep : ¬ s.pwr.episode = true := by simpa [live] using hlive
  show execFlyRedriveStart s = _
  rw [execFlyRedriveStart, if_pos ⟨hwait, hep⟩]

include hl

theorem flyRedriveStart_waits (hheld : redriveHeld s = true) : Nothing .flyRedriveStart s := by
  have he := flyRedriveStart_eq hwait hlive
  rw [flyRedrive, if_pos hheld] at he
  exact nothing_of_done he hl

/-- The update of a re-drive: the image of the entry, in the band of this moment. -/
def redriven (e : JEntry) (s : State) : FlyUpdate :=
  { image := e.image, band := flyBand s, vh := par s 0x4601, vm := par s 0x4602, redrive := true }

theorem flyRedriveStart_starts {e : JEntry} {l : List JEntry} (hheld : redriveHeld s = false)
    (hj : s.fly.journal = e :: l) :
    Happens .flyRedriveStart s [.fly] (fun t => Raised 62 t ∧ t.fly.state = .loading ∧ t.fly.journal = e :: l ∧
      t.fly.cur = some (redriven e s)) := by
  have he := flyRedriveStart_eq hwait hlive
  rw [flyRedrive, if_neg (by simp [hheld]), hj] at he
  refine happens_of_done he hl ?_ (by decide) ⟨(raise_raised 62 _).settle, by simp, by simp, by simp [redriven]⟩
  exact ((withFly_onlyIn _ s).mono (by simp)).trans ((raise_onlyIn 62 _).mono (by simp))

end

/-- Settles O46: each event is its own lemma above, and what is left is to read its effect off. -/
theorem flysheetUpdatesRun : Obligations.FlysheetUpdatesRun := by
  intro s hl
  refine ⟨fun p ha => ⟨flysheetUpdate_suppressed hl ha, flysheetUpdate_merges hl ha, fun hsup hcur hopen =>
      ⟨flysheetUpdate_cold hl ha hsup hcur hopen, flysheetUpdate_waits hl ha hsup hcur hopen⟩⟩,
    fun hmay hsup hband => ⟨fun hcov => ?_, flyUpdateStart_waits hl hmay hsup hband⟩,
    fun u hcur st ck => ⟨fun hab => ⟨flyFrameExchange_aborts hl hcur hab, flyFrameExchange_abort_retried hl hcur hab,
        flyStatusPoll_aborting hl hcur hab⟩,
      fun hab hload => ⟨flyFrameExchange_next hl hcur hab hload, flyFrameExchange_retried hl hcur hab hload⟩,
      fun hab hrun => ⟨flyStatusPoll_goes_on hl hcur hab hrun, flyStatusPoll_ends hl hcur hab hrun,
        flyStatusPoll_retried hl hcur hab hrun⟩⟩,
    fun hwait hreq => ⟨flyEnergyTimeout_drops hl hwait hreq, fun _ htags hf =>
      flyEnergyTimeout_answers hl hwait hreq htags hf⟩,
    fun hwait hlive => ⟨flyRedriveStart_waits hl hwait hlive, fun e l hheld hj => ?_⟩⟩
  case refine_1 =>
    refine (flyUpdateStart_starts hl hmay hsup hband hcov).imp fun t ht => ?_
    rw [ht]
    exact ⟨rfl, rfl, rfl, rfl, ⟨_, rfl, rfl, rfl, rfl, rfl⟩, _, flyBegun_head s, rfl, rfl, rfl, rfl, rfl⟩
  case refine_2 =>
    refine (flyRedriveStart_starts hl hwait hlive hheld hj).imp ?_
    rintro t ⟨hraised, hstate, hjournal, hcur⟩
    exact ⟨hraised, hstate, hjournal, _, hcur, rfl, rfl, rfl, rfl⟩

end Sys2Proof.Machine
end
